-- ==== Sys2Proof/Word.lean ====
section
/-! DEFINITION. The plainest words of the model: the byte of the chain, of the tile port and of the cue line. -/

namespace Sys2Proof

/-- One byte (9.1, 4.9, 7.1): the unit of chain frames, row output records and cue line characters. -/
abbrev Byte := BitVec 8

end Sys2Proof
end

