-- ==== Sys2Proof/Syntax.lean ====
section
/-! DEFINITION. The commands and events the CW-24 takes: one constructor of `Instr` for each row of
spec/opcode_table.json, with the operands the spec gives that row. -/

namespace Sys2Proof

/-- How a message delivered to this node was addressed (R160); an owner reads it to decide whether
BAD FIELD or NOT FOUND is queued. -/
inductive AddrMode where
  | position | group | all
  deriving DecidableEq, Repr

/-- The fields of a SERVICE POST (R7, 9.7). The delay `none` is UNKNOWN; the platform is the raw
number of the message, taken as NONE outside 1-64. -/
structure PostBody where
  key : Nat
  sm : Int
  delay : Option Int
  platform : Nat
  opClass : Nat
  cancelled : Bool
  boarding : Bool
  destination : Nat
  vias : List Nat
  deriving DecidableEq, Repr

/-- The fields of a SERVICE AMEND (R12, 9.7): `none` stands for a field outside the present-set. -/
structure AmendBody where
  key : Nat
  delay : Option (Option Int)
  platform : Option Nat
  cancelled : Option Bool
  boarding : Option Bool
  deriving DecidableEq, Repr

/-- The fields of a NOTICE SET (R69). -/
structure NoticeBody where
  boards : BitVec 4
  phrases : List Nat
  deriving DecidableEq, Repr

/-- The fields of a CUE POST (R114): the release `none` is IMMEDIATE. -/
structure CuePostBody where
  zones : BitVec 8
  priority : Nat
  release : Option Nat
  lifetime : Nat
  codes : List Nat
  deriving DecidableEq, Repr

/-- The fields of an OVERRIDE SET (R146): the template `none` is FFh on the chain. -/
structure OverrideBody where
  level : Nat
  boards : BitVec 4
  page : Nat
  floor : Nat
  template : Option Nat
  deriving DecidableEq, Repr

/-- One character of the cue line as it is received or sent (R123): the start bit, 8 data bits, the
address mark, the parity bit and the stop bit, each as the line level found in its bit time. The levels,
0 for a start bit and 1 for a stop bit, are PRESUMED (assumption 33). -/
structure LineChar where
  start : Bool
  data : Byte
  mark : Bool
  parity : Bool
  stop : Bool
  deriving DecidableEq, Repr

/-- The rows of spec/opcode_table.json. A row that is an event of the block's own names the record,
cue or zone it happens to; a row that is traffic carries the bytes or characters received. -/
inductive Instr where
  | powerOn
  | powerUpEnd
  | ownCycleBoundary
  | frameStart
  | frame (bytes : List Byte)
  | upstreamFrameStart
  | upstreamFrame (bytes : List Byte)
  | breakState
  | breakStateEnd
  | chainReset
  | linkLoss
  | downstreamLost
  | secondTick
  | dayTurn
  | attentionExpiry (key : Nat)
  | retirement (key : Nat)
  | cueRelease (cueId : Nat)
  | cueExpiry (cueId : Nat)
  | retryHoldExpiry (cueId : Nat)
  | trimWindowClose (ticks : Nat)
  | holdoverLimit
  | bankSwitch
  | servicePost (mode : AddrMode) (body : PostBody)
  | serviceAmend (mode : AddrMode) (body : AmendBody)
  | serviceWithdraw (mode : AddrMode) (key : Nat)
  | noticeSet (mode : AddrMode) (body : NoticeBody)
  | cuePost (mode : AddrMode) (body : CuePostBody)
  | overrideSet (mode : AddrMode) (body : OverrideBody)
  | overrideClear (mode : AddrMode) (level : Nat)
  | tableWrite (mode : AddrMode) (table : Nat) (index : Nat) (entry : List Byte)
  | tableCopy (mode : AddrMode)
  | tableCommit (mode : AddrMode) (generation : Nat) (cycle : Nat)
  | queryState
  | queryRecord (key : Nat)
  | queryCues (start : Nat)
  | queryZones
  | queryResetCause
  | queryTrim
  | commandReset
  | clearAttention (mode : AddrMode) (key : Nat)
  | watchSet (mode : AddrMode) (key : Nat)
  | watchClear
  | unknownMessageKind (mode : AddrMode) (kind : Nat)
  | lineArbitration
  | startSent
  | cancelSent
  | taken (chars : List LineChar)
  | busy (chars : List LineChar)
  | stopped (chars : List LineChar)
  | playing (chars : List LineChar)
  | finished (chars : List LineChar)
  | idle (chars : List LineChar)
  | replyWindowClose
  | lineBreakEnd
  | pollTimerExpiry (zone : Nat)
  | playLimitReached (cueId : Nat)
  | lineQuietEnd
  deriving DecidableEq, Repr

end Sys2Proof
end

