-- ==== Sys2Proof/Machine/Report.lean ====
section
/-! DEFINITION. The named values the blocks share and the reports a node makes (9.7, R119, R170, R171). -/

namespace Sys2Proof.Machine

/-- The node state (R173). -/
inductive NodeState where
  | powerUp | awaitChain | joining | running | holdover | isolated | positionFault
  deriving DecidableEq, Repr

/-- The reset cause record (R177). -/
inductive ResetCause where
  | powerOn | chainBreak | command
  deriving DecidableEq, Repr

/-- The state of a cue in the queue (R108). -/
inductive CueState where
  | waiting | due | offered | playing
  deriving DecidableEq, Repr

/-- The source of a cue (R108). -/
inductive CueSource where
  | rule (r : Nat) | change | assign | cancel | explicit | overrideCue
  deriving DecidableEq, Repr

/-- The runtime state of a zone (R129). -/
inductive ZoneState where
  | free | offered | playing | stopping | fault
  deriving DecidableEq, Repr

/-- Why a cue or a cue request was dropped (R119). -/
inductive DropReason where
  | expired | withdrawn | evicted | skipped | full | noZone | refused | preempted | stopped | flushed
  deriving DecidableEq, Repr

/-- The class of a time mark that steps the clock (R93). -/
inductive StepClass where
  | setBack | shortStep | longStep
  deriving DecidableEq, Repr

/-- The event a WATCH report carries (R171); a day-turn removal is reported as a retirement (R22). -/
inductive WatchEvent where
  | posted | amended | withdrawn | evicted | leftSelection | retired
  deriving DecidableEq, Repr

/-- The message kind an OVERRIDE REFUSED report carries (R146, R152). -/
inductive OverrideKind where
  | set | clear
  deriving DecidableEq, Repr

/-- The record summary of a WATCH report and of a RECORD answer (R170). -/
structure RecordSummary where
  key : Nat
  sm : Int
  delay : Option Int
  platform : Option Nat
  previous : Option Nat
  attention : Nat
  boards : BitVec 4
  cueEnabled : Bool
  cancelled : Bool
  boarding : Bool
  matchSet : BitVec 32
  notice : Option Nat
  deriving DecidableEq, Repr

/-- The override context (R144). -/
structure OverrideContext where
  level : Nat
  boards : BitVec 4
  page : Nat
  floor : Nat
  template : Option Nat
  deriving DecidableEq, Repr

/-- A pending commit (R168): its generation and its switch cycle. -/
structure PendingCommit where
  generation : Nat
  cycle : Nat
  deriving DecidableEq, Repr

/-- The STATE answer of NODE QUERY (R170). -/
structure StateAnswer where
  state : NodeState
  position : Option Nat
  hopCount : Option Nat
  chainEnd : Bool
  generation : Nat
  commit : Option PendingCommit
  day : Nat
  second : Nat
  synchronised : Bool
  holdover : Nat
  override : OverrideContext
  nRecords : Nat
  nCues : Nat
  deriving DecidableEq, Repr

/-- One cue of a CUES answer (R170). -/
structure CueLine where
  id : Nat
  state : CueState
  priority : Nat
  key : Nat
  deriving DecidableEq, Repr

/-- One zone of a ZONES answer (R170). -/
structure ZoneLine where
  state : ZoneState
  holding : Option Nat
  miss : Nat
  addr : Nat
  deriving DecidableEq, Repr

/-- The ANSWER to a NODE QUERY by kind (R170); the record answer `none` is "not held", and the order
in the table counts from 1. -/
inductive Answer where
  | state (a : StateAnswer)
  | record (key : Nat) (held : Option (RecordSummary × Nat))
  | cues (count : Nat) (lines : List CueLine)
  | zones (lines : List ZoneLine)
  | resetCause (c : ResetCause)
  | trim (i f : Nat) (excursion : Bool)
  deriving DecidableEq, Repr

/-- A report of the report queue with the fields its rule gives it. -/
inductive Report where
  | badField (kind : Nat) (key : Option Nat)
  | notFound (key : Nat)
  | full (key : Nat)
  | evicted (key : Nat)
  | leftSelection (key : Nat)
  | watch (event : WatchEvent) (summary : RecordSummary)
  | referenceFault (i f : Nat)
  | clockStep (cls : StepClass) (delta : Int)
  | dateJump (oldDay oldSecond newDay newSecond : Nat)
  | cueDropped (id : Option Nat) (source : CueSource) (key : Nat) (template : Option Nat) (reason : DropReason)
  | cueFinished (id : Nat) (source : CueSource) (key : Nat) (template : Option Nat) (completed lost : BitVec 8)
  | cueTruncated (id : Nat) (source : CueSource) (key : Nat) (template : Option Nat) (completed lost : BitVec 8)
  | zoneFault (zone addr : Nat)
  | zoneRecovered (zone addr : Nat)
  | overrideRefused (kind : OverrideKind) (level current : Nat)
  | stateChanged (old new : NodeState) (oldPosition position : Option Nat) (cause : Option ResetCause)
  | downstreamLost (position : Option Nat)
  | badIndex (table index : Nat)
  | commitDone (generation removed : Nat)
  | commitRefused (generation table index : Nat)
  | commitSuperseded (generation : Nat)
  | answer (a : Answer)
  deriving DecidableEq, Repr

end Sys2Proof.Machine
end

