-- ==== Sys2Proof/Config.lean ====
section
/-! DEFINITION. What the spec fixes for every CW-24 (sizes, lengths in reference ticks) and the free values:
what the spec leaves open is an opaque constant here, of which nothing can be proved. -/

namespace Sys2Proof.Config

/-- R1: the service table holds at most 96 records. -/
def maxRecords : Nat := 96
/-- R108: the cue queue holds at most 32 cues. -/
def maxCues : Nat := 32
/-- R172: the report queue holds at most 16 reports. -/
def maxReports : Nat := 16
/-- R171: the watch list holds at most 4 keys. -/
def maxWatched : Nat := 4
/-- R105, R114: a cue's phrase list holds at most 16 phrase codes. -/
def maxCodes : Nat := 16
/-- R88: the nominal own cycle, 375 000 ticks of the 24 MHz reference. -/
def nominalCycle : Nat := 375000
/-- R90: the most a trim integer lies from nominal. -/
def trimLimit : Nat := 75
/-- R81: a frame start within this many ticks of the current own cycle merges into it. -/
def mergeTicks : Nat := 187500
/-- R162: a break of this many reference ticks makes a chain reset. -/
def resetBreakTicks : Nat := 1500000
/-- R123: the bits of one character of the cue line. -/
def charBits : Nat := 12
/-- R123: one character time, 12 bits at 57 600 bit/s, is 5000 reference ticks. -/
def charTicks : Nat := charBits * 24000000 / 57600
/-- R126: the reply window, 20 ms. -/
def windowTicks : Nat := 480000
/-- R127: a line break is held for 3 character times. -/
def breakChars : Nat := 3
/-- R126: the line stays quiet for 2 character times after a window without a valid reply. -/
def quietChars : Nat := 2
/-- R126: however long characters go on arriving, the quiet ends 20 ms after the close of the window. -/
def quietMaxTicks : Nat := 480000
/-- 9.1: one chain byte, 10 bits at 4 Mbit/s, is 60 reference ticks. -/
def chainByteTicks : Nat := 60
/-- 9.7: the length of an upstream report frame. -/
def reportFrameBytes : Nat := 133
/-- R133: the poll timer of a zone that starts playing, in own cycles. -/
def pollCycles : Nat := 32
/-- R135: the poll timer of a zone in FAULT, in own cycles. -/
def faultPollCycles : Nat := 320
/-- R78: the absent phrase code, FFFFh. -/
def absentCode : Nat := 65535
/-- R29: seconds of a service day. -/
def daySeconds : Nat := 86400
/-- R114, R110: the last service second a release or an expiry may name. -/
def lastExpiry : Nat := 172799

/-- FREE VALUE (assumption 3): the order in which the works of one own cycle start or of one second tick are
taken where the spec says either may be first (R61, R79, R83, R147). The first argument counts the occasions,
the second names which order is asked. -/
opaque freeOrder : Nat → Nat → Nat

/-- FREE VALUE (assumption 4): the body bytes of a report, whose layout the spec does not give (9.7 gives the
slot and the kind code alone). The upstream slot keeps at most 28 of them. -/
opaque reportBody : Machine.Report → List Byte

end Sys2Proof.Config
end

