-- ==== Sys2Proof/Machine/State.lean ====
section
/-! DEFINITION. The whole state of a CW-24, block by block as the spec names it (section 3 of the introduction),
the reasons a step may stop, and the state at power-on. -/

namespace Sys2Proof.Machine

/-- The block has no fault of its own: no rule of the spec stops the node, so nobody raises one and the type has
no constructor. -/
inductive Fault where
  deriving DecidableEq, Repr

/-- `notModelled` is raised by the arm of a command that has no meaning yet (safe: the run stops); no arm raises it. -/
inductive Refusal where
  | notModelled (mnemonic : String)
  deriving DecidableEq, Repr

/-! ### The configuration banks (R166) -/

/-- The node parameters (R166, table 0). -/
structure NodeParams where
  dayStart : Nat
  grace : Nat
  attentionPeriod : Nat
  holdoverLimit : Nat
  preemptLevel : Nat
  groupMask : BitVec 8
  changeTemplate : Option Nat
  assignTemplate : Option Nat
  cancelTemplate : Option Nat
  deriving DecidableEq, Repr

/-- One selection entry (R4, table 1). -/
structure SelectionEntry where
  inUse : Bool
  alsoNone : Bool
  cuesAllowed : Bool
  low : Nat
  high : Nat
  classMask : BitVec 16
  boards : BitVec 4
  deriving DecidableEq, Repr

/-- The role of a row with its parameter (R58). -/
inductive RowRole where
  | rank (k : Nat) | notice | clock | fixed (phrase : Nat) | blank
  deriving DecidableEq, Repr

/-- One row map entry (R58, table 2). -/
structure RowEntry where
  inUse : Bool
  board : Nat
  role : RowRole
  deriving DecidableEq, Repr

/-- The parameters of one board (R60, table 3). -/
structure BoardParams where
  langCount : Nat
  period : Nat
  limit : Nat
  window : Nat
  threshold : Nat
  blink : Bool
  cancelledPhrase : Option Nat
  delayedPhrase : Option Nat
  duePhrase : Option Nat
  onTimePhrase : Option Nat
  isolationPhrase : Option Nat
  deriving DecidableEq, Repr

/-- The value field of a rule (R41); `other` keeps a code outside the table, which no commit accepts. -/
inductive ValueField where
  | delay | countdown | platform | opClass | always | other (code : Nat)
  deriving DecidableEq, Repr

/-- The comparison of a rule (R41). -/
inductive Comparison where
  | eq | ne | lt | le | gt | ge | other (code : Nat)
  deriving DecidableEq, Repr

/-- The flag sense of a rule (R41). -/
inductive FlagSense where
  | allSet | anySet | noneSet | ignore | other (code : Nat)
  deriving DecidableEq, Repr

/-- One notice rule (R41, table 4). The flag mask's bits 0 to 5 are CANCELLED, BOARDING, DELAY UNKNOWN,
ATTENTION, NO PLATFORM and DUE (10.6). -/
structure NoticeRule where
  inUse : Bool
  field : ValueField
  comparison : Comparison
  constant : Int
  flagMask : BitVec 6
  sense : FlagSense
  phrase : Option Nat
  template : Option Nat
  deriving DecidableEq, Repr

/-- One element of a template (R104). -/
inductive Element where
  | fixed (phrase : Nat) | dest | vias | platform | oldPlatform | schedTime | expectedTime | delayMinutes
  | other (code : Nat)
  deriving DecidableEq, Repr

/-- The zone source of a template (R103). -/
inductive ZoneSource where
  | fixed | platform | platformOld | other (code : Nat)
  deriving DecidableEq, Repr

/-- One cue template (R103, table 5). All eight stored elements are kept; those beyond the count are ignored. The
release `none` is IMMEDIATE and `some m` is AT COUNTDOWN m. -/
structure CueTemplate where
  inUse : Bool
  elementCount : Nat
  elements : List Element
  numberBase : Nat
  languages : BitVec 4
  zoneSource : ZoneSource
  fixedZones : BitVec 8
  fallbackZones : BitVec 8
  priority : Nat
  release : Option Nat
  lifetime : Nat
  playLimit : Nat
  deriving DecidableEq, Repr

/-- One page row as stored: its count and its eight phrase places (10.6). -/
structure PageRow where
  count : Nat
  phrases : List Nat
  deriving DecidableEq, Repr

/-- The rows an override page holds for one board (R145, table 8). -/
structure PageEntry where
  rowCount : Nat
  rows : List PageRow
  deriving DecidableEq, Repr

/-- One bank: the nine tables of R166, each a list in index order. -/
structure Bank where
  params : NodeParams
  selection : List SelectionEntry
  rowMap : List RowEntry
  boards : List BoardParams
  rules : List NoticeRule
  templates : List CueTemplate
  platformZones : List (BitVec 8)
  zoneTable : List Nat
  pages : List PageEntry
  deriving DecidableEq, Repr

/-- The configuration store (R166, R168). -/
structure Store where
  active : Bank
  shadow : Bank
  generation : Nat
  commit : Option PendingCommit
  deriving DecidableEq, Repr

/-! ### The service list unit (R2) -/

/-- One service record (R2). -/
structure ServiceRecord where
  key : Nat
  sm : Int
  delay : Option Int
  platform : Option Nat
  previous : Option Nat
  attention : Nat
  destination : Nat
  vias : List Nat
  opClass : Nat
  cancelled : Bool
  boarding : Bool
  boards : BitVec 4
  cueEnabled : Bool
  matchSet : BitVec 32
  notice : Option Nat
  deriving DecidableEq, Repr

/-! ### The cue scheduler (R108, R109) -/

/-- One cue (R108), with what the cue line controller keeps of it while it plays: the play count (R138), the mark
of a preemption (R139) and the zones released so far as completed and as lost (R137). -/
structure Cue where
  id : Nat
  source : CueSource
  key : Nat
  template : Option Nat
  codes : List Nat
  zones : BitVec 8
  priority : Nat
  release : Int
  expiry : Int
  playLimit : Nat
  state : CueState
  retryHold : Option Int
  playCount : Nat
  preempted : Bool
  completed : BitVec 8
  lost : BitVec 8
  deriving DecidableEq, Repr

/-- The cue queue, kept in ascending cue id (the spec gives it no order of its own), and the next cue id. -/
structure Scheduler where
  queue : List Cue
  nextId : Nat
  deriving DecidableEq, Repr

/-! ### The cue line controller (R126 to R143) -/

/-- One zone: the runtime state of R129, its address in effect (R128), the mark that its player has taken the
offer in progress (R132), and whether a due poll is pending (R129). -/
structure Zone where
  state : ZoneState
  holding : Option Nat
  miss : Nat
  timer : Option Nat
  pendingAddr : Option Nat
  addr : Nat
  taken : Bool
  pollDue : Bool
  deriving DecidableEq, Repr

/-- Class 1 work of the arbiter (R130). A CANCEL keeps the address captured when the sequence failed (R134). -/
inductive LineJob where
  | stop (zone cueId : Nat)
  | cancel (addr cueId : Nat)
  deriving DecidableEq, Repr

/-- The transaction in flight (R125, R126), with the address it was sent to. -/
inductive Transaction where
  | offer (zone addr cueId : Nat)
  | start (cueId : Nat)
  | cancel (addr cueId : Nat)
  | stop (zone addr cueId : Nat)
  | poll (zone addr : Nat)
  deriving DecidableEq, Repr

/-- What the line is doing (R126, R127). `quiet` follows a window that closed without a valid reply and keeps the ticks
left of the 20 ms from that close, which the quiet may not outlast. -/
inductive LineStatus where
  | idle
  | transaction (t : Transaction)
  | quiet (left : Nat)
  | lineBreak
  deriving DecidableEq, Repr

/-- The offer sequence in progress: its cue and the zones still to be sent an OFFER. With none left and the line
idle, its START is pending (R132, R133). -/
structure OfferSeq where
  cueId : Nat
  left : List Nat
  deriving DecidableEq, Repr

/-- The cue line controller. `timer` counts the reference ticks left to the line's next event of its own and
`sent` is the last message sent, in characters, each of 12 bits on the line (`LineChar.bits`). -/
structure LineCtl where
  zones : List Zone
  status : LineStatus
  timer : Nat
  jobs : List LineJob
  seq : Option OfferSeq
  sent : List LineChar
  deriving DecidableEq, Repr

/-! ### The row composer (R69, R75) -/

/-- The EXPECT field (R66). -/
inductive ExpectField where
  | phrase (code : Nat) | number (n : Nat) | time (civilMinute : Nat)
  deriving DecidableEq, Repr

/-- A row output record (R78), less its row number. The time is the civil minute of the scheduled minute and
`plat` the PLAT byte; clock digits use 10 for a dash and 11 for a blank. -/
inductive RowRecord where
  | blank
  | rank (time : Nat) (dest : List Nat) (plat : Nat) (expect : ExpectField) (note : Nat) (hold invert : Bool)
  | text (codes : List Nat)
  | clock (digits : List Nat) (hold : Bool)
  deriving DecidableEq, Repr

/-- The row composer's own state: standing notices, last-sent records (`none` is "nothing sent"), the normal content of
every row as the last composition made it (what a row under override would show without it, R74), the phases of the last
composition, and whether the numbering has been set back to exactly 32 since, so that the next composition makes the full
send again (R77, assumption 35). -/
structure Composer where
  standing : List (List Nat)
  lastSent : List (Option RowRecord)
  normal : List RowRecord
  phases : List Nat
  blinkLit : Bool
  fullDue : Bool
  deriving DecidableEq, Repr

/-! ### The time base (R80, R84, R88, R89) -/

/-- The BCD clock: six decimal digits (R84). -/
structure BcdClock where
  hourTens : Nat
  hourUnits : Nat
  minTens : Nat
  minUnits : Nat
  secTens : Nat
  secUnits : Nat
  deriving DecidableEq, Repr

/-- The trim window in progress: the own cycles started since it opened and the ticks counted at each restart. -/
structure TrimWindow where
  cycles : Nat
  ticks : Nat
  deriving DecidableEq, Repr

/-- The time base. `frameStarts` is how many frame starts the current own cycle has had (R81). -/
structure TimeBase where
  tickCount : Nat
  cycleLength : Nat
  accumulator : Nat
  cycle : Nat
  frameStarts : Nat
  trimInt : Nat
  trimFrac : Nat
  second : Nat
  day : Nat
  clock : BcdClock
  synchronised : Bool
  setPending : Bool
  window : Option TrimWindow
  excursion : Bool
  deriving DecidableEq, Repr

/-! ### The chain interface (R155), the node controller (R173, R171, R172) and the ports -/

/-- The chain interface (R155), with the line level of its upstream port and of its own downstream port (R162). -/
structure Chain where
  position : Option Nat
  hopCount : Option Nat
  grant : Option Nat
  upSilence : Nat
  downSilence : Nat
  chainEnd : Bool
  partnerSeen : Bool
  breakLength : Nat
  upBreak : Bool
  downBreak : Bool
  deriving DecidableEq, Repr

/-- The node controller. The watch list and the report queue stand oldest first. -/
structure Node where
  state : NodeState
  cause : ResetCause
  watch : List Nat
  reports : List Report
  loss : Bool
  holdover : Nat
  deriving DecidableEq, Repr

/-- What the ports last carried: the records of the last composition on the tile port, the last frame forwarded
downstream, the last upstream report frame sent, and the ticks left of one this node is still originating. -/
structure Ports where
  tile : List (List Byte)
  down : List Byte
  up : List Byte
  upLeft : Nat
  deriving DecidableEq, Repr

/-- The whole machine: the commands waiting, first in first out, the ten blocks, the ports, and the model's own
count of the free orders asked for so far. -/
structure State where
  pending : List Instr
  chain : Chain
  store : Store
  table : List ServiceRecord
  cues : Scheduler
  line : LineCtl
  rows : Composer
  time : TimeBase
  ovr : OverrideContext
  node : Node
  ports : Ports
  free : Nat
  deriving DecidableEq, Repr

/-! ### Power-on values -/

/-- The node parameters of an empty bank (R166). -/
def emptyParams : NodeParams :=
  { dayStart := 150, grace := 1, attentionPeriod := 120, holdoverLimit := 900, preemptLevel := 6,
    groupMask := 0#8, changeTemplate := none, assignTemplate := none, cancelTemplate := none }

/-- A selection entry out of use (R4). -/
def emptySelection : SelectionEntry :=
  { inUse := false, alsoNone := false, cuesAllowed := false, low := 0, high := 0, classMask := 0#16, boards := 0#4 }

/-- A row map entry out of use (R58). -/
def emptyRow : RowEntry := { inUse := false, board := 0, role := .blank }

/-- The board parameters of an empty bank (R60). -/
def emptyBoard : BoardParams :=
  { langCount := 1, period := 2, limit := 0, window := 0, threshold := 1, blink := false,
    cancelledPhrase := none, delayedPhrase := none, duePhrase := none, onTimePhrase := none, isolationPhrase := none }

/-- A rule out of use (R41). -/
def emptyRule : NoticeRule :=
  { inUse := false, field := .delay, comparison := .eq, constant := 0, flagMask := 0#6, sense := .allSet,
    phrase := none, template := none }

/-- A template out of use (R103). -/
def emptyTemplate : CueTemplate :=
  { inUse := false, elementCount := 0, elements := [], numberBase := 0, languages := 0#4, zoneSource := .fixed,
    fixedZones := 0#8, fallbackZones := 0#8, priority := 0, release := none, lifetime := 0, playLimit := 0 }

/-- A page with no rows (R145). -/
def emptyPage : PageEntry := { rowCount := 0, rows := [] }

/-- An empty bank (R166). -/
def emptyBank : Bank :=
  { params := emptyParams
    selection := List.replicate 16 emptySelection
    rowMap := List.replicate 24 emptyRow
    boards := List.replicate 4 emptyBoard
    rules := List.replicate 32 emptyRule
    templates := List.replicate 32 emptyTemplate
    platformZones := List.replicate 64 0#8
    zoneTable := List.replicate 8 0
    pages := List.replicate 32 emptyPage }

/-- Override level 0 (R144). -/
def noOverride : OverrideContext := { level := 0, boards := 0#4, page := 0, floor := 0, template := none }

/-- A zone after power-on (R129, R128), at the address in effect given. -/
def resetZone (addr : Nat) : Zone :=
  { state := .free, holding := none, miss := 0, timer := none, pendingAddr := none, addr := addr, taken := false,
    pollDue := false }

/-- The civil time 02:30:00 of service second 0 under the empty bank's day start of 150 (R84, R37). -/
def resetClock : BcdClock :=
  { hourTens := 0, hourUnits := 2, minTens := 3, minUnits := 0, secTens := 0, secUnits := 0 }

/-- The time base at power-on (R80, R84, R88, R90). The first cycle lasts the nominal length (assumption 5). -/
def resetTime : TimeBase :=
  { tickCount := 0, cycleLength := Config.nominalCycle, accumulator := 0, cycle := 0, frameStarts := 0,
    trimInt := Config.nominalCycle, trimFrac := 0, second := 0, day := 0, clock := resetClock,
    synchronised := false, setPending := true, window := none, excursion := false }

/-- The chain interface at power-on (R155). -/
def resetChain : Chain :=
  { position := none, hopCount := none, grant := none, upSilence := 0, downSilence := 0, chainEnd := true,
    partnerSeen := false, breakLength := 0, upBreak := false, downBreak := false }

/-- The machine at power-on, in POWER-UP with every block holding its power-on values (R173, R174). -/
def State.reset : State :=
  { pending := []
    chain := resetChain
    store := { active := emptyBank, shadow := emptyBank, generation := 0, commit := none }
    table := []
    cues := { queue := [], nextId := 0 }
    line := { zones := List.replicate 8 (resetZone 0), status := .idle, timer := 0, jobs := [], seq := none, sent := [] }
    rows := { standing := List.replicate 4 [], lastSent := List.replicate 24 none,
              normal := List.replicate 24 .blank, phases := List.replicate 4 0, blinkLit := true,
              fullDue := false }
    time := resetTime
    ovr := noOverride
    node := { state := .powerUp, cause := .powerOn, watch := [], reports := [], loss := false, holdover := 0 }
    ports := { tile := [], down := [], up := [], upLeft := 0 }
    free := 0 }

/-! ### One setter for each block: every update of the state goes through these (Laws/State.lean) -/

def State.setPending (s : State) (v : List Instr) : State := { s with pending := v }
def State.setChain (s : State) (v : Chain) : State := { s with chain := v }
def State.setStore (s : State) (v : Store) : State := { s with store := v }
def State.setTable (s : State) (v : List ServiceRecord) : State := { s with table := v }
def State.setCues (s : State) (v : Scheduler) : State := { s with cues := v }
def State.setLine (s : State) (v : LineCtl) : State := { s with line := v }
def State.setRows (s : State) (v : Composer) : State := { s with rows := v }
def State.setTime (s : State) (v : TimeBase) : State := { s with time := v }
def State.setOvr (s : State) (v : OverrideContext) : State := { s with ovr := v }
def State.setNode (s : State) (v : Node) : State := { s with node := v }
def State.setPorts (s : State) (v : Ports) : State := { s with ports := v }
def State.setFree (s : State) (v : Nat) : State := { s with free := v }

end Sys2Proof.Machine
end

