-- ==== Sys2Proof/Machine/Flags.lean ====
section
/-! DEFINITION. Departure time arithmetic (chapter 2), selection (R4, R5) and the value and flag tests of the notice
rules (chapter 3): everything worked out from a record, the service second and a bank, with no state of its own. -/

namespace Sys2Proof.Machine

/-! ### Bit masks -/

/-- The mask of `n` bits whose bit `i` is `p i`. -/
def maskOf (n : Nat) (p : Nat → Bool) : BitVec n :=
  (List.range n).foldl (fun m i => if p i then m ||| BitVec.twoPow n i else m) 0#n

/-- The numbers of the set bits of a mask, ascending. -/
def bitsOf {n : Nat} (m : BitVec n) : List Nat :=
  (List.range n).filter fun i => m.getLsbD i

/-! ### Chapter 2 -/

/-- R27: the expected minute. -/
def expectedMinute (r : ServiceRecord) : Int :=
  if r.cancelled then r.sm
  else match r.delay with
    | none => r.sm
    | some d => r.sm + d

/-- R28: the sort key. -/
def sortKey (r : ServiceRecord) : Int := expectedMinute r + 1456

/-- R1: the order of the table, by sort key, then scheduled minute, then service key. -/
def before (a b : ServiceRecord) : Bool :=
  decide (sortKey a < sortKey b) ||
    (decide (sortKey a = sortKey b) &&
      (decide (a.sm < b.sm) || (decide (a.sm = b.sm) && decide (a.key < b.key))))

/-- R29: the remaining seconds at service second `sec`. -/
def remainingSeconds (r : ServiceRecord) (sec : Nat) : Int := expectedMinute r * 60 - (sec : Int)

/-- R30: the retirement remaining seconds; an unknown delay counts as 999 minutes. -/
def retirementRemaining (r : ServiceRecord) (sec : Nat) : Int :=
  if r.cancelled then r.sm * 60 - (sec : Int)
  else match r.delay with
    | none => (r.sm + 999) * 60 - (sec : Int)
    | some d => (r.sm + d) * 60 - (sec : Int)

/-- R21, R30: the retirement condition under the departed grace `grace`. -/
def retires (grace sec : Nat) (r : ServiceRecord) : Bool :=
  decide (retirementRemaining r sec ≤ -((grace : Int) * 60))

/-- R31: the countdown. -/
def countdown (r : ServiceRecord) (sec : Nat) : Int :=
  if 0 < remainingSeconds r sec then (remainingSeconds r sec + 59) / 60 else 0

/-- R35: the civil minute of a service minute under day start `ds`. -/
def civilMinute (ds : Nat) (m : Int) : Nat := (((ds : Int) + m) % 1440).toNat

/-- R37: the civil second of day of a service second. -/
def civilSecond (ds sec : Nat) : Nat := (ds * 60 + sec) % 86400

/-- R36, R84: a civil second of day as the six digits of the BCD clock. -/
def clockOf (c : Nat) : BcdClock :=
  { hourTens := c / 3600 / 10, hourUnits := c / 3600 % 10
    minTens := c / 60 % 60 / 10, minUnits := c / 60 % 60 % 10
    secTens := c % 60 / 10, secUnits := c % 60 % 10 }

/-- R37: the BCD clock that shows service second `sec` under day start `ds`. -/
def civilClock (ds sec : Nat) : BcdClock := clockOf (civilSecond ds sec)

/-- R7, R12, R26: a delay as it is stored, clamped to −15…999; UNKNOWN stays UNKNOWN. -/
def clampDelay (d : Option Int) : Option Int := d.map fun x => max (-15) (min 999 x)

/-- R7, R12: a platform outside 1–64 is taken as NONE. -/
def normPlatform (p : Nat) : Option Nat := if 1 ≤ p ∧ p ≤ 64 then some p else none

/-! ### Selection (R4, R5) -/

/-- R4: whether an entry matches a platform and an operator class. -/
def SelectionEntry.matchesRecord (e : SelectionEntry) (platform : Option Nat) (cls : Nat) : Bool :=
  e.inUse && e.classMask.getLsbD cls &&
    match platform with
    | none => e.alsoNone
    | some p => decide (e.low ≤ p) && decide (p ≤ e.high)

/-- R5: the board mask and the cue enable a selection table gives. -/
def selectRecord (sel : List SelectionEntry) (platform : Option Nat) (cls : Nat) : BitVec 4 × Bool :=
  let hits := sel.filter fun e => e.matchesRecord platform cls
  (hits.foldl (fun m e => m ||| e.boards) 0#4, hits.any fun e => e.cuesAllowed)

/-! ### The tests of a notice rule (R43 to R48) -/

/-- The parameters of a board of a bank. -/
def Bank.board (b : Bank) (n : Nat) : BoardParams := b.boards.getD n emptyBoard

/-- R32: the largest due window among the boards of a mask. -/
def largestWindow (b : Bank) (boards : BitVec 4) : Nat :=
  (bitsOf boards).foldl (fun m i => max m (b.board i).window) 0

/-- R32: the due test. -/
def isDue (b : Bank) (sec : Nat) (r : ServiceRecord) : Bool :=
  decide (countdown r sec ≤ (largestWindow b r.boards : Int))

/-- R43: the value a rule's field reads, `none` where R45 makes the test fail or ALWAYS reads none. -/
def ruleValue (f : ValueField) (sec : Nat) (r : ServiceRecord) : Option Int :=
  match f with
  | .delay => r.delay
  | .countdown => some (countdown r sec)
  | .platform => r.platform.map fun p => (p : Int)
  | .opClass => some (r.opClass : Int)
  | .always => none
  | .other _ => none

/-- R44: a comparison by the sign of the signed difference. -/
def compareDiff (c : Comparison) (diff : Int) : Bool :=
  match c with
  | .eq => decide (diff = 0)
  | .ne => decide (diff ≠ 0)
  | .lt => decide (diff < 0)
  | .le => decide (diff ≤ 0)
  | .gt => decide (0 < diff)
  | .ge => decide (0 ≤ diff)
  | .other _ => false

/-- R44, R45: the value test. -/
def valueTest (rule : NoticeRule) (sec : Nat) (r : ServiceRecord) : Bool :=
  match rule.field with
  | .always => true
  | f => match ruleValue f sec r with
    | none => false
    | some v => compareDiff rule.comparison (v - rule.constant)

/-- R46: the six record flags, in the bit order of 10.6. -/
def recordFlag (b : Bank) (sec : Nat) (r : ServiceRecord) (i : Nat) : Bool :=
  match i with
  | 0 => r.cancelled
  | 1 => r.boarding
  | 2 => r.delay.isNone
  | 3 => decide (0 < r.attention)
  | 4 => r.platform.isNone
  | 5 => isDue b sec r
  | _ => false

/-- R47: the flag test. -/
def flagTest (b : Bank) (rule : NoticeRule) (sec : Nat) (r : ServiceRecord) : Bool :=
  match rule.sense with
  | .allSet => (bitsOf rule.flagMask).all fun i => recordFlag b sec r i
  | .anySet => (bitsOf rule.flagMask).any fun i => recordFlag b sec r i
  | .noneSet => (bitsOf rule.flagMask).all fun i => !recordFlag b sec r i
  | .ignore => true
  | .other _ => false

/-- A rule of a bank. -/
def Bank.rule (b : Bank) (n : Nat) : NoticeRule := b.rules.getD n emptyRule

/-- R48: whether rule `n` of the bank matches the record. -/
def ruleMatches (b : Bank) (sec : Nat) (r : ServiceRecord) (n : Nat) : Bool :=
  (b.rule n).inUse && valueTest (b.rule n) sec r && flagTest b (b.rule n) sec r

/-- R49: the notice: the phrase of the lowest-numbered matching rule that has one. -/
def noticeOf (b : Bank) (sec : Nat) (r : ServiceRecord) : Option Nat :=
  (List.range 32).findSome? fun n => if ruleMatches b sec r n then (b.rule n).phrase else none

/-- R42, R48: the record with its match set and its notice decided anew. -/
def decideRules (b : Bank) (sec : Nat) (r : ServiceRecord) : ServiceRecord :=
  { r with matchSet := maskOf 32 (ruleMatches b sec r), notice := noticeOf b sec r }

/-- R50: the rules with a match edge between two match sets, ascending. -/
def matchEdges (old new : BitVec 32) : List Nat :=
  (List.range 32).filter fun n => new.getLsbD n && !old.getLsbD n

/-! ### The EXPECT choice (R33) -/

/-- R33: the six outcomes of the EXPECT choice, before phrase codes are made. -/
inductive ExpectChoice where
  | phrase (p : Option Nat) | number (n : Nat) | time (civil : Nat)
  deriving DecidableEq, Repr

/-- R33: the EXPECT choice of a record for a board's parameters. -/
def expectChoice (p : BoardParams) (ds sec : Nat) (r : ServiceRecord) : ExpectChoice :=
  if r.cancelled then .phrase p.cancelledPhrase
  else match r.delay with
    | none => .phrase p.delayedPhrase
    | some d =>
      if countdown r sec ≤ (p.window : Int) then .phrase p.duePhrase
      else if countdown r sec ≤ (p.limit : Int) then .number (countdown r sec).toNat
      else if (p.threshold : Int) ≤ d then .time (civilMinute ds (expectedMinute r))
      else .phrase p.onTimePhrase

end Sys2Proof.Machine
end

