-- ==== Sys2Proof/Machine/Operands.lean ====
section
/-! DEFINITION. The byte and character forms of the three connections: the frame check and the frame (9.2, 9.7), the
message bodies (9.7), the table entries (10.6), the upstream slots (9.7), the cue line messages (7.1, 7.9) and the
row output records (4.9). -/

namespace Sys2Proof.Machine

/-! ### Bytes -/

/-- Byte `i` as a number, 0 past the end. -/
def byteAt (bs : List Byte) (i : Nat) : Nat := (bs.getD i 0#8).toNat

/-- 9.7: a 16-bit value, high byte first. -/
def u16At (bs : List Byte) (i : Nat) : Nat := byteAt bs i * 256 + byteAt bs (i + 1)

/-- 9.7: a 24-bit value, high byte first. -/
def u24At (bs : List Byte) (i : Nat) : Nat := u16At bs i * 256 + byteAt bs (i + 2)

/-- 9.7: a signed 16-bit value in two's complement. -/
def s16At (bs : List Byte) (i : Nat) : Int :=
  if u16At bs i < 32768 then (u16At bs i : Int) else (u16At bs i : Int) - 65536

/-- 9.7: a delay, 8000h standing for UNKNOWN. -/
def delayAt (bs : List Byte) (i : Nat) : Option Int :=
  if u16At bs i = 32768 then none else some (s16At bs i)

/-- 9.7, 10.6: a phrase, FFFFh standing for none. -/
def phraseAt (bs : List Byte) (i : Nat) : Option Nat :=
  if u16At bs i = 65535 then none else some (u16At bs i)

/-- 9.7, 10.6: a template, FFh standing for none. -/
def templateAt (bs : List Byte) (i : Nat) : Option Nat :=
  if byteAt bs i = 255 then none else some (byteAt bs i)

/-- Bit `b` of byte `i`. -/
def bitAt (bs : List Byte) (i b : Nat) : Bool := (bs.getD i 0#8).getLsbD b

/-- `n` 16-bit values from byte `i` on. -/
def u16sAt (bs : List Byte) (i n : Nat) : List Nat := (List.range n).map fun k => u16At bs (i + 2 * k)

/-- A number as one byte. -/
def toByte (n : Nat) : Byte := BitVec.ofNat 8 n

/-- A 16-bit number as two bytes, high first. -/
def toBytes16 (n : Nat) : List Byte := [toByte (n / 256), toByte n]

/-- A 32-bit number as four bytes, high first. -/
def toBytes32 (n : Nat) : List Byte := [toByte (n / 16777216), toByte (n / 65536), toByte (n / 256), toByte n]

/-- R36: a number 0-99 as one BCD byte, tens in the upper four bits. -/
def bcdByte (n : Nat) : Byte := toByte (n / 10 * 16 + n % 10)

/-! ### The frame check (R157) -/

/-- R157: one bit of the CRC, least significant bit first (the generator 04C11DB7h reflected). -/
def crcBit (c : Nat) : Nat := if c % 2 = 1 then (c / 2) ^^^ 0xEDB88320 else c / 2

/-- R157: one byte of the CRC. -/
def crcByte (c : Nat) (b : Byte) : Nat :=
  crcBit (crcBit (crcBit (crcBit (crcBit (crcBit (crcBit (crcBit (c ^^^ b.toNat))))))))

/-- R157: the 32-bit CRC with initial value FFFFFFFFh and final exclusive-or FFFFFFFFh. -/
def crc32 (bs : List Byte) : Nat := bs.foldl crcByte 0xFFFFFFFF ^^^ 0xFFFFFFFF

/-! ### The downstream frame (R156, R157, 9.7) -/

/-- One message of a frame: kind code, address byte and body (R160). -/
structure RawMessage where
  kind : Nat
  address : Nat
  body : List Byte
  deriving DecidableEq, Repr

/-- A frame whose check passes, taken apart. -/
structure ParsedFrame where
  cycle : Nat
  mark : Option (Nat × Nat)
  hop : Nat
  grant : Option Nat
  messages : List RawMessage
  deriving DecidableEq, Repr

/-- R160: `n` messages from the front, with what follows them. -/
def takeMessages : Nat → List Byte → Option (List RawMessage × List Byte)
  | 0, bs => some ([], bs)
  | n + 1, k :: a :: l :: rest =>
    if l.toNat ≤ 250 ∧ l.toNat ≤ rest.length then
      (takeMessages n (rest.drop l.toNat)).map fun r =>
        ({ kind := k.toNat, address := a.toNat, body := rest.take l.toNat } :: r.1, r.2)
    else none
  | _ + 1, _ => none

/-- R156: the two bytes of the hop field agree in all 8 bits. DESIGN CHOICE (assumption 37): a byte that a frame cut before
byte 2 does not have reads as 0. -/
def hopAgrees (bs : List Byte) : Bool := bs.getD 2 0#8 == ~~~ (bs.getD 1 0#8)

/-- R156: the received hop count. -/
def hopCountOf (bs : List Byte) : Nat := byteAt bs 1 % 64

/-- R157: the bytes the check covers: every header byte but bytes 1 and 2, and every byte of every message. -/
def checkedBytes (bs : List Byte) : List Byte :=
  bs.take 1 ++ (bs.drop 3).take (bs.length - 7)

/-- R157: the messages of a frame whose length fits its header. -/
def frameMessages (bs : List Byte) : Option (List RawMessage) :=
  if 14 ≤ bs.length ∧ byteAt bs 4 ≤ 8 then
    match takeMessages (byteAt bs 4) (bs.drop 10) with
    | some (ms, rest) => if rest.length = 4 then some ms else none
    | none => none
  else none

/-- R157: the frame check as carried, in the last 4 bytes, high byte first. -/
def carriedCheck (bs : List Byte) : Nat :=
  u16At bs (bs.length - 4) * 65536 + u16At bs (bs.length - 2)

/-- R157, 9.7: the frame taken apart, or `none` when it fails its check at this node. -/
def parseFrame (bs : List Byte) : Option ParsedFrame :=
  match frameMessages bs with
  | none => none
  | some ms =>
    if hopAgrees bs && decide (carriedCheck bs = crc32 (checkedBytes bs)) then
      some
        { cycle := byteAt bs 0 % 64
          mark := if byteAt bs 0 % 64 = 0 && bitAt bs 0 6 then some (u16At bs 5, u24At bs 7) else none
          hop := hopCountOf bs
          grant := if 1 ≤ byteAt bs 3 ∧ byteAt bs 3 ≤ 48 then some (byteAt bs 3) else none
          messages := ms }
    else none

/-- R156: the hop count forwarded: one more than an agreeing count, up to 63; else the node's own position, up to 63. -/
def forwardedHop (position : Option Nat) (bs : List Byte) : Option Nat :=
  if hopAgrees bs then some (min 63 (hopCountOf bs + 1)) else position.map fun p => min 63 p

/-- R154, R156: the frame as forwarded: only the hop field changes. DESIGN CHOICE (assumption 37): of a frame cut before byte
2 the byte 1 it may have is rewritten all the same, and no byte is added. -/
def forwardFrame (position : Option Nat) (bs : List Byte) : List Byte :=
  match forwardedHop position bs with
  | none => bs
  | some h => (bs.set 1 (toByte h)).set 2 (~~~ (toByte h))

/-! ### Message bodies (9.7): `none` where the length does not agree with the layout -/

def parsePost (bs : List Byte) : Option PostBody :=
  if 12 ≤ bs.length ∧ bs.length = 12 + 2 * byteAt bs 11 then
    some { key := u16At bs 0, sm := s16At bs 2, delay := delayAt bs 4, platform := byteAt bs 6, opClass := byteAt bs 7
           cancelled := bitAt bs 8 0, boarding := bitAt bs 8 1, destination := u16At bs 9
           vias := u16sAt bs 12 (byteAt bs 11) }
  else none

def parseAmend (bs : List Byte) : Option AmendBody :=
  if bs.length = 7 then
    some { key := u16At bs 0
           delay := if bitAt bs 2 0 then some (delayAt bs 3) else none
           platform := if bitAt bs 2 1 then some (byteAt bs 5) else none
           cancelled := if bitAt bs 2 2 then some (bitAt bs 6 0) else none
           boarding := if bitAt bs 2 3 then some (bitAt bs 6 1) else none }
  else none

def parseNotice (bs : List Byte) : Option NoticeBody :=
  if 2 ≤ bs.length ∧ bs.length = 2 + 2 * byteAt bs 1 then
    some { boards := BitVec.ofNat 4 (byteAt bs 0), phrases := u16sAt bs 2 (byteAt bs 1) }
  else none

def parseCuePost (bs : List Byte) : Option CuePostBody :=
  if 8 ≤ bs.length ∧ bs.length = 8 + 2 * byteAt bs 7 then
    some { zones := BitVec.ofNat 8 (byteAt bs 0), priority := byteAt bs 1
           release := if u24At bs 2 = 16777215 then none else some (u24At bs 2)
           lifetime := u16At bs 5, codes := u16sAt bs 8 (byteAt bs 7) }
  else none

def parseOverride (bs : List Byte) : Option OverrideBody :=
  if bs.length = 5 then
    some { level := byteAt bs 0, boards := BitVec.ofNat 4 (byteAt bs 1), page := byteAt bs 2, floor := byteAt bs 3
           template := templateAt bs 4 }
  else none

/-! ### Table entries (10.6) -/

/-- R166: the number of entries of a table. -/
def tableEntries : List Nat := [1, 16, 24, 4, 32, 32, 64, 8, 32]

/-- 10.6: the length of a table's entry form. -/
def entryLengths : List Nat := [12, 6, 5, 16, 10, 37, 1, 1, 103]

def parseParams (bs : List Byte) : NodeParams :=
  { dayStart := u16At bs 0, grace := byteAt bs 2, attentionPeriod := u16At bs 3, holdoverLimit := u16At bs 5
    preemptLevel := byteAt bs 7, groupMask := bs.getD 8 0#8
    changeTemplate := templateAt bs 9, assignTemplate := templateAt bs 10, cancelTemplate := templateAt bs 11 }

def parseSelection (bs : List Byte) : SelectionEntry :=
  { inUse := bitAt bs 0 0, alsoNone := bitAt bs 0 1, cuesAllowed := bitAt bs 0 2, low := byteAt bs 1
    high := byteAt bs 2, classMask := BitVec.ofNat 16 (u16At bs 3), boards := BitVec.ofNat 4 (byteAt bs 5) }

def parseRole (code param : Nat) : RowRole :=
  match code with
  | 0 => .rank param
  | 1 => .notice
  | 2 => .clock
  | 3 => .fixed param
  | _ => .blank

def parseRow (bs : List Byte) : RowEntry :=
  { inUse := bitAt bs 0 0, board := byteAt bs 1, role := parseRole (byteAt bs 2) (u16At bs 3) }

def parseBoard (bs : List Byte) : BoardParams :=
  { langCount := byteAt bs 0, period := byteAt bs 1, limit := byteAt bs 2, window := byteAt bs 3
    threshold := byteAt bs 4, blink := bitAt bs 5 0
    cancelledPhrase := phraseAt bs 6, delayedPhrase := phraseAt bs 8, duePhrase := phraseAt bs 10
    onTimePhrase := phraseAt bs 12, isolationPhrase := phraseAt bs 14 }

def parseField (code : Nat) : ValueField :=
  match code with
  | 0 => .delay
  | 1 => .countdown
  | 2 => .platform
  | 3 => .opClass
  | 4 => .always
  | c => .other c

def parseComparison (code : Nat) : Comparison :=
  match code with
  | 0 => .eq
  | 1 => .ne
  | 2 => .lt
  | 3 => .le
  | 4 => .gt
  | 5 => .ge
  | c => .other c

def parseSense (code : Nat) : FlagSense :=
  match code with
  | 0 => .allSet
  | 1 => .anySet
  | 2 => .noneSet
  | 3 => .ignore
  | c => .other c

def parseRule (bs : List Byte) : NoticeRule :=
  { inUse := bitAt bs 0 0, field := parseField (byteAt bs 1), comparison := parseComparison (byteAt bs 2)
    constant := s16At bs 3, flagMask := BitVec.ofNat 6 (byteAt bs 5), sense := parseSense (byteAt bs 6)
    phrase := phraseAt bs 7, template := templateAt bs 9 }

def parseElement (code phrase : Nat) : Element :=
  match code with
  | 0 => .fixed phrase
  | 1 => .dest
  | 2 => .vias
  | 3 => .platform
  | 4 => .oldPlatform
  | 5 => .schedTime
  | 6 => .expectedTime
  | 7 => .delayMinutes
  | c => .other c

def parseZoneSource (code : Nat) : ZoneSource :=
  match code with
  | 0 => .fixed
  | 1 => .platform
  | 2 => .platformOld
  | c => .other c

def parseTemplate (bs : List Byte) : CueTemplate :=
  { inUse := bitAt bs 0 0, elementCount := byteAt bs 1
    elements := (List.range 8).map fun k => parseElement (byteAt bs (2 + 3 * k)) (u16At bs (3 + 3 * k))
    numberBase := u16At bs 26, languages := BitVec.ofNat 4 (byteAt bs 28), zoneSource := parseZoneSource (byteAt bs 29)
    fixedZones := bs.getD 30 0#8, fallbackZones := bs.getD 31 0#8, priority := byteAt bs 32
    release := if byteAt bs 33 = 255 then none else some (byteAt bs 33)
    lifetime := u16At bs 34, playLimit := byteAt bs 36 }

def parsePage (bs : List Byte) : PageEntry :=
  { rowCount := byteAt bs 0
    rows := (List.range 6).map fun k =>
      { count := byteAt bs (1 + 17 * k), phrases := u16sAt bs (2 + 17 * k) 8 } }

/-- R167: one entry of a bank replaced by the entry the bytes hold. -/
def Bank.writeEntry (b : Bank) (table index : Nat) (bs : List Byte) : Bank :=
  match table with
  | 0 => { b with params := parseParams bs }
  | 1 => { b with selection := b.selection.set index (parseSelection bs) }
  | 2 => { b with rowMap := b.rowMap.set index (parseRow bs) }
  | 3 => { b with boards := b.boards.set index (parseBoard bs) }
  | 4 => { b with rules := b.rules.set index (parseRule bs) }
  | 5 => { b with templates := b.templates.set index (parseTemplate bs) }
  | 6 => { b with platformZones := b.platformZones.set index (bs.getD 0 0#8) }
  | 7 => { b with zoneTable := b.zoneTable.set index (byteAt bs 0) }
  | 8 => { b with pages := b.pages.set index (parsePage bs) }
  | _ => b

/-! ### The validation of a bank (R169) -/

/-- A phrase that may be none. -/
def phraseOk (p : Option Nat) : Bool := p.all fun x => decide (x ≤ 1023)

/-- A template that may be none. -/
def templateOk (t : Option Nat) : Bool := t.all fun x => decide (x ≤ 31)

/-- R166: node parameters within their ranges. -/
def NodeParams.ok (p : NodeParams) : Bool :=
  decide (p.dayStart ≤ 1439) && decide (p.grace ≤ 15) && decide (p.attentionPeriod ≤ 600) &&
    decide (10 ≤ p.holdoverLimit) && decide (p.holdoverLimit ≤ 3600) && decide (p.preemptLevel ≤ 7) &&
    templateOk p.changeTemplate && templateOk p.assignTemplate && templateOk p.cancelTemplate

/-- R4, R169. -/
def SelectionEntry.ok (e : SelectionEntry) : Bool :=
  !e.inUse || (decide (1 ≤ e.low) && decide (e.low ≤ e.high) && decide (e.high ≤ 64))

/-- R58, R169. -/
def RowEntry.ok (e : RowEntry) : Bool :=
  !e.inUse || (decide (e.board ≤ 3) &&
    match e.role with
    | .rank k => decide (1 ≤ k) && decide (k ≤ 24)
    | .fixed p => decide (p ≤ 1023)
    | _ => true)

/-- R60, R169. -/
def BoardParams.ok (p : BoardParams) : Bool :=
  decide (1 ≤ p.langCount) && decide (p.langCount ≤ 4) && decide (2 ≤ p.period) && decide (p.period ≤ 30) &&
    decide (p.limit ≤ 99) && decide (p.window ≤ 5) && decide (1 ≤ p.threshold) && decide (p.threshold ≤ 30) &&
    phraseOk p.cancelledPhrase && phraseOk p.delayedPhrase && phraseOk p.duePhrase && phraseOk p.onTimePhrase &&
    phraseOk p.isolationPhrase

def ValueField.ok : ValueField → Bool
  | .other _ => false
  | _ => true

def Comparison.ok : Comparison → Bool
  | .other _ => false
  | _ => true

def FlagSense.ok : FlagSense → Bool
  | .other _ => false
  | _ => true

/-- R41, R169. -/
def NoticeRule.ok (r : NoticeRule) : Bool :=
  !r.inUse || (r.field.ok && r.comparison.ok && decide (-1024 ≤ r.constant) && decide (r.constant ≤ 4095) &&
    r.sense.ok && phraseOk r.phrase && templateOk r.template)

def Element.ok : Element → Bool
  | .other _ => false
  | .fixed p => decide (p ≤ 1023)
  | _ => true

def ZoneSource.ok : ZoneSource → Bool
  | .other _ => false
  | _ => true

/-- R103, R169. -/
def CueTemplate.ok (t : CueTemplate) : Bool :=
  !t.inUse || (decide (1 ≤ t.elementCount) && decide (t.elementCount ≤ 8) &&
    (t.elements.take t.elementCount).all Element.ok && decide (t.numberBase ≤ 1023) && t.languages != 0#4 &&
    t.zoneSource.ok && decide (t.priority ≤ 7) && (t.release.all fun m => decide (m ≤ 99)) &&
    decide (10 ≤ t.lifetime) && decide (t.lifetime ≤ 1800) && decide (1 ≤ t.playLimit) && decide (t.playLimit ≤ 120))

/-- R128, R169: zone `i` of a zone table: its address is in range and no earlier zone uses it. -/
def zoneEntryOk (addrs : List Nat) (i : Nat) : Bool :=
  decide (addrs.getD i 0 ≤ 15) &&
    (decide (addrs.getD i 0 = 0) || !(addrs.take i).contains (addrs.getD i 0))

/-- R145, R169. -/
def PageEntry.ok (p : PageEntry) : Bool :=
  decide (p.rowCount ≤ 6) &&
    (p.rows.take p.rowCount).all fun r => decide (r.count ≤ 8) && (r.phrases.take r.count).all fun x => decide (x ≤ 1023)

/-- R169: the checks of one table, entry by entry. -/
def Bank.tableChecks (b : Bank) (table : Nat) : List Bool :=
  match table with
  | 0 => [b.params.ok]
  | 1 => b.selection.map SelectionEntry.ok
  | 2 => b.rowMap.map RowEntry.ok
  | 3 => b.boards.map BoardParams.ok
  | 4 => b.rules.map NoticeRule.ok
  | 5 => b.templates.map CueTemplate.ok
  | 7 => (List.range b.zoneTable.length).map (zoneEntryOk b.zoneTable)
  | 8 => b.pages.map PageEntry.ok
  | _ => []

/-- R169: the first entry that fails, by ascending table id and index. -/
def Bank.firstInvalid (b : Bank) : Option (Nat × Nat) :=
  (List.range 9).findSome? fun t =>
    match (b.tableChecks t).findIdx? (fun ok => !ok) with
    | some i => some (t, i)
    | none => none

/-! ### Upstream slots (9.7) -/

/-- 9.7: the kind code of a report. -/
def Report.code : Report → Nat
  | .badField _ _ => 0x01
  | .notFound _ => 0x02
  | .full _ => 0x03
  | .evicted _ => 0x04
  | .leftSelection _ => 0x05
  | .watch _ _ => 0x06
  | .referenceFault _ _ => 0x07
  | .clockStep _ _ => 0x08
  | .dateJump _ _ _ _ => 0x09
  | .cueDropped _ _ _ _ _ => 0x0A
  | .cueFinished _ _ _ _ _ _ => 0x0B
  | .cueTruncated _ _ _ _ _ _ => 0x0C
  | .zoneFault _ _ => 0x0D
  | .zoneRecovered _ _ => 0x0E
  | .overrideRefused _ _ _ => 0x0F
  | .stateChanged _ _ _ _ _ => 0x10
  | .downstreamLost _ => 0x11
  | .badIndex _ _ => 0x12
  | .commitDone _ _ => 0x13
  | .commitRefused _ _ _ => 0x14
  | .commitSuperseded _ => 0x15
  | .answer _ => 0x16

/-- The body of a report as the slot holds it: at most 28 bytes (assumption 4). -/
def Report.body (r : Report) : List Byte := (Config.reportBody r).take 28

/-- 9.7: the 32 bytes of a filled slot. -/
def slotBytes (position : Nat) (loss : Bool) (r : Report) : List Byte :=
  [toByte (if loss then 0xC0 else 0x80), toByte position, toByte r.code, toByte r.body.length] ++
    r.body ++ List.replicate (28 - r.body.length) 0#8

/-- Where slot `n` of an upstream frame begins (9.7). -/
def slotStart (n : Nat) : Nat := 1 + 32 * n

/-- R164: slot `n` is wholly in the frame and its filled bit is clear. -/
def slotEmpty (body : List Byte) (n : Nat) : Bool :=
  decide (slotStart n + 32 ≤ body.length) && !bitAt body (slotStart n) 7

/-- R164: the slot a report goes into. -/
def chooseSlot (granted : Bool) (body : List Byte) : Option Nat :=
  if granted && slotEmpty body 0 then some 0 else [1, 2, 3].find? fun n => slotEmpty body n

/-- The bytes of slot `n` replaced. -/
def fillSlot (body : List Byte) (n : Nat) (slot : List Byte) : List Byte :=
  body.take (slotStart n) ++ slot ++ body.drop (slotStart n + 32)

/-- R163: the four empty slots a chain end originates, behind its own cycle number. -/
def emptyReportBody (cycle : Nat) : List Byte := toByte cycle :: List.replicate 128 0#8

/-! ### The cue line (R123, R124, 7.9) -/

/-- R123: whether a byte holds an odd number of ones. -/
def oddOnes (b : Byte) : Bool := (List.range 8).foldl (fun p i => xor p (b.getLsbD i)) false

/-- R123: a character as sent: a start bit, even parity over data, mark and parity, and a stop bit. -/
def mkChar (mark : Bool) (n : Nat) : LineChar :=
  { start := false, data := toByte n, mark := mark, parity := xor (oddOnes (toByte n)) mark, stop := true }

/-- R123: the 12 bits of a character in the order they stand on the line: the start bit, the data bits least
significant first, the address mark, the parity bit and the stop bit. -/
def LineChar.bits (c : LineChar) : List Bool :=
  c.start :: (List.range 8).map (fun i => c.data.getLsbD i) ++ [c.mark, c.parity, c.stop]

/-- R123: a message as the line carries it, bit after bit. -/
def lineBits (cs : List LineChar) : List Bool := cs.flatMap LineChar.bits

/-- R123: a start bit and a stop bit, and between them an even number of ones. -/
def LineChar.good (c : LineChar) : Bool :=
  !c.start && c.stop && (((LineChar.bits c).drop 1).take 10).count true % 2 == 0

/-- R124: the sum of data values, mod 256. -/
def lineSum (ns : List Nat) : Nat := ns.sum % 256

/-- 7.9: a message of the cue line. -/
def lineMessage (addr code : Nat) (body : List Nat) : List LineChar :=
  mkChar true addr ::
    ((code :: body.length :: body) ++ [lineSum (addr :: code :: body.length :: body)]).map (mkChar false)

/-- R123: the message being received: from the last set address mark on. DESIGN CHOICE (assumption 40): a reply command
gives one whole reply and nothing after it, so a further marked character within the command begins the message anew, also
where a valid reply was complete before it. -/
def lastMarked : List LineChar → List LineChar
  | [] => []
  | c :: cs => if cs.any (fun x => x.mark) then lastMarked cs else if c.mark then c :: cs else []

/-- R124: the address, the code and the body of a message received whole and unspoiled. DESIGN CHOICE (assumption 40): the
message ends with the characters of the reply command, and one whose check character is followed by more characters
within the same command is no message, where R126 could be read to end the transaction at the check character. -/
def readMessage (chars : List LineChar) : Option (Nat × Nat × List Nat) :=
  let cs := lastMarked chars
  let ns := cs.map fun c => c.data.toNat
  if 4 ≤ cs.length ∧ cs.all LineChar.good ∧ ns.getD 2 0 ≤ 35 ∧ cs.length = 4 + ns.getD 2 0 ∧
      ns.getD (cs.length - 1) 0 = lineSum (ns.take (cs.length - 1)) then
    some (ns.getD 0 0, ns.getD 1 0, (ns.drop 3).take (ns.getD 2 0))
  else none

/-- R125: the six replies. -/
inductive ReplyKind where
  | taken | busy | stopped | playing | finished | idle
  deriving DecidableEq, Repr

/-- 7.9: the code of a reply. -/
def ReplyKind.code : ReplyKind → Nat
  | .taken => 0x21
  | .busy => 0x22
  | .stopped => 0x23
  | .playing => 0x24
  | .finished => 0x25
  | .idle => 0x26

/-- R124, R125: the characters hold a valid reply of kind `k` to the transaction in flight. -/
def validReply (k : ReplyKind) (t : Transaction) (chars : List LineChar) : Bool :=
  match t, k with
  | .offer _ addr cueId, .taken => decide (readMessage chars = some (addr, k.code, [cueId]))
  | .offer _ addr cueId, .busy => decide (readMessage chars = some (addr, k.code, [cueId]))
  | .stop _ addr cueId, .stopped => decide (readMessage chars = some (addr, k.code, [cueId]))
  | .poll _ addr, .playing => decide (readMessage chars = some (addr, k.code, []))
  | .poll _ addr, .finished => decide (readMessage chars = some (addr, k.code, []))
  | .poll _ addr, .idle => decide (readMessage chars = some (addr, k.code, []))
  | _, _ => false

/-- R125, 7.9: the message a transaction sends, for the cue it concerns. -/
def Transaction.message (t : Transaction) (playLimit : Nat) (codes : List Nat) : List LineChar :=
  match t with
  | .offer _ addr cueId =>
    lineMessage addr 0x11 (cueId :: playLimit :: codes.length :: codes.flatMap fun c => [c / 256, c % 256])
  | .start cueId => lineMessage 0 0x12 [cueId]
  | .cancel addr cueId => lineMessage addr 0x13 [cueId]
  | .stop _ addr cueId => lineMessage addr 0x14 [cueId]
  | .poll _ addr => lineMessage addr 0x15 []

/-- R126: whether a transaction awaits a reply. -/
def Transaction.awaitsReply : Transaction → Bool
  | .offer _ _ _ | .stop _ _ _ | .poll _ _ => true
  | .start _ | .cancel _ _ => false

/-! ### Row output records (4.9) -/

/-- 4.9: the kind and attribute byte. -/
def kindByte (kind : Nat) (hold invert : Bool) : Byte :=
  toByte (kind + (if hold then 16 else 0) + (if invert then 32 else 0))

/-- R36: a civil minute as hour and minute BCD bytes. -/
def civilBytes (m : Nat) : List Byte := [bcdByte (m / 60), bcdByte (m % 60)]

/-- 4.9: the EXPECT form and value. -/
def ExpectField.bytes : ExpectField → List Byte
  | .phrase c => toByte 0 :: toBytes16 c
  | .number n => [toByte 1, toByte 0, toByte n]
  | .time m => toByte 2 :: civilBytes m

/-- 4.9: the bytes of a row output record for row `row`. -/
def RowRecord.bytes (row : Nat) : RowRecord → List Byte
  | .blank => [toByte row, kindByte 0 false false]
  | .rank t dest plat expect note hold invert =>
    [toByte row, kindByte 1 hold invert] ++ civilBytes t ++ dest.flatMap toBytes16 ++ [toByte plat] ++
      expect.bytes ++ toBytes16 note
  | .text codes => [toByte row, kindByte 2 false false, toByte codes.length] ++ codes.flatMap toBytes16
  | .clock digits hold =>
    [toByte row, kindByte 3 hold false,
      toByte (digits.getD 0 0 * 16 + digits.getD 1 0),
      toByte (digits.getD 2 0 * 16 + digits.getD 3 0),
      toByte (digits.getD 4 0 * 16 + digits.getD 5 0)]

end Sys2Proof.Machine
end

