-- ==== Sys2Proof/Machine/Ops.lean ====
section
/-! DEFINITION. The named operations the blocks share: the report queue (R172), the watch list (R171), the service
table (R3), the cue queue (R108, R119), the zones (R128, R129) and the free orders. -/

namespace Sys2Proof.Machine

/-- The bank every block reads (R166). -/
def State.bank (s : State) : Bank := s.store.active

/-! ### The report queue (R172) -/

/-- R172: a report joins at the newest end, or is discarded with the loss flag set when 16 are held. -/
def queueReport (r : Report) (s : State) : State :=
  if s.node.reports.length < Config.maxReports then s.setNode { s.node with reports := s.node.reports ++ [r] }
  else s.setNode { s.node with loss := true }

/-- Several reports, in order. -/
def queueReports (rs : List Report) (s : State) : State := rs.foldl (fun st r => queueReport r st) s

/-- R6, R160: a report queued only when the message was position-addressed. -/
def reportIfPosition (mode : AddrMode) (r : Report) (s : State) : State :=
  if mode = .position then queueReport r s else s

/-- R170: the record summary. -/
def ServiceRecord.summary (r : ServiceRecord) : RecordSummary :=
  { key := r.key, sm := r.sm, delay := r.delay, platform := r.platform, previous := r.previous
    attention := r.attention, boards := r.boards, cueEnabled := r.cueEnabled, cancelled := r.cancelled
    boarding := r.boarding, matchSet := r.matchSet, notice := r.notice }

/-- R171: the WATCH report of an event, when the key is watched. -/
def watchReport (ev : WatchEvent) (r : ServiceRecord) (s : State) : State :=
  if s.node.watch.contains r.key then queueReport (.watch ev r.summary) s else s

/-- WATCH reports for several records, in order. -/
def watchReports (ev : WatchEvent) (rs : List ServiceRecord) (s : State) : State :=
  rs.foldl (fun st r => watchReport ev r st) s

/-! ### The service table (R1, R3) -/

/-- The record of a key, if the table holds one. -/
def State.findRecord (s : State) (key : Nat) : Option ServiceRecord := s.table.find? fun r => r.key == key

/-- The table without a key. -/
def removeKey (key : Nat) (t : List ServiceRecord) : List ServiceRecord := t.filter fun r => r.key != key

/-- R3: a record inserted directly after the last record lower than it. -/
def insertRecord (r : ServiceRecord) (t : List ServiceRecord) : List ServiceRecord :=
  (t.takeWhile fun x => before x r) ++ r :: (t.dropWhile fun x => before x r)

/-- The record of the same key replaced where it stands. -/
def replaceRecord (r : ServiceRecord) (t : List ServiceRecord) : List ServiceRecord :=
  t.map fun x => if x.key == r.key then r else x

/-! ### Zones (R128, R129) -/

/-- Zone `z`. -/
def LineCtl.zone (l : LineCtl) (z : Nat) : Zone := l.zones.getD z (resetZone 0)

/-- Zone `z` replaced. -/
def LineCtl.setZone (l : LineCtl) (z : Nat) (v : Zone) : LineCtl := { l with zones := l.zones.set z v }

/-- R128: a zone usable for a cue. -/
def Zone.usable (z : Zone) : Bool := z.addr != 0 && z.state != .fault

/-- R128: the usable zones of a mask, ascending. -/
def usableZones (l : LineCtl) (mask : BitVec 8) : List Nat :=
  (bitsOf mask).filter fun z => (l.zone z).usable

/-- The zones that hold a cue, ascending. -/
def zonesHolding (l : LineCtl) (cueId : Nat) : List Nat :=
  (List.range 8).filter fun z => (l.zone z).holding == some cueId

/-! ### The cue queue (R108, R109, R119) -/

/-- The cue of an id. -/
def State.findCue (s : State) (cueId : Nat) : Option Cue := s.cues.queue.find? fun c => c.id == cueId

/-- One cue changed where it stands. -/
def updateCue (cueId : Nat) (f : Cue → Cue) (s : State) : State :=
  s.setCues { s.cues with queue := s.cues.queue.map fun c => if c.id == cueId then f c else c }

/-- One cue taken out of the queue without a report. -/
def removeCue (cueId : Nat) (s : State) : State :=
  s.setCues { s.cues with queue := s.cues.queue.filter fun c => c.id != cueId }

/-- WAITING or DUE. -/
def Cue.waits (c : Cue) : Bool := c.state == .waiting || c.state == .due

/-- OFFERED or PLAYING. -/
def Cue.onLine (c : Cue) : Bool := c.state == .offered || c.state == .playing

/-- R119: the CUE DROPPED report of a cue. -/
def Cue.dropReport (reason : DropReason) (c : Cue) : Report :=
  .cueDropped (some c.id) c.source c.key c.template reason

/-- R119: every cue that satisfies `p` leaves with the reason, its CUE DROPPED reports in ascending cue id. -/
def dropCues (p : Cue → Bool) (reason : DropReason) (s : State) : State :=
  queueReports ((s.cues.queue.filter p).map (Cue.dropReport reason))
    (s.setCues { s.cues with queue := s.cues.queue.filter fun c => !p c })

/-- R131: every DUE cue with no usable zone is dropped with reason NO ZONE. -/
def noZoneCheck (s : State) : State :=
  dropCues (fun c => c.state == .due && (usableZones s.line c.zones).isEmpty) .noZone s

/-! ### Free orders (assumption 3) -/

/-- `a` put at place `k`, counted modulo the places there are. -/
def weave {α : Type} (k : Nat) (a : α) (l : List α) : List α :=
  l.take (k % (l.length + 1)) ++ a :: l.drop (k % (l.length + 1))

/-- One more occasion on which an order was free. -/
def countFree (s : State) : State := s.setFree (s.free + 1)

end Sys2Proof.Machine
end

