-- ==== Sys2Proof/Machine/Cues.lean ====
section
/-! DEFINITION. The cue scheduler (chapter 6): building a cue from a template, admission to the queue, coalescing,
release, expiry and drops; CUE POST and the scheduler's own events. -/

namespace Sys2Proof.Machine

/-! ### Building (R103 to R107) -/

/-- R104: number base + n, left out above 1023. -/
def numberPhrase (base n : Nat) : List Nat := if base + n ≤ 1023 then [base + n] else []

/-- R104: an hour and a minute as two phrases, both left out when either lies above 1023. -/
def timePhrases (base civil : Nat) : List Nat :=
  if base + civil / 60 ≤ 1023 ∧ base + civil % 60 ≤ 1023 then [base + civil / 60, base + civil % 60] else []

/-- R104: the phrases an element gives for a request's record. -/
def elementPhrases (ds base : Nat) (r : Option ServiceRecord) (e : Element) : List Nat :=
  match e, r with
  | .fixed p, _ => [p]
  | .dest, some r => [r.destination]
  | .vias, some r => r.vias
  | .platform, some r => match r.platform with
    | some p => numberPhrase base p
    | none => []
  | .oldPlatform, some r => match r.previous with
    | some p => numberPhrase base p
    | none => []
  | .schedTime, some r => timePhrases base (civilMinute ds r.sm)
  | .expectedTime, some r => timePhrases base (civilMinute ds (expectedMinute r))
  | .delayMinutes, some r => match r.delay with
    | some d => if 0 < d then numberPhrase base d.toNat else []
    | none => []
  | _, _ => []

/-- R104: the language list of a template for a record. -/
def languageList (ds : Nat) (t : CueTemplate) (r : Option ServiceRecord) : List Nat :=
  (t.elements.take t.elementCount).flatMap (elementPhrases ds t.numberBase r)

/-- R105: the language list in one language. -/
def inLanguage (list : List Nat) (language : Nat) : List Nat := list.map fun p => language * 1024 + p

/-- R105: the expansion over the languages of the mask, cut to 16 codes. -/
def expandLanguages (languages : BitVec 4) (list : List Nat) : List Nat :=
  if (bitsOf languages).length * list.length ≤ Config.maxCodes then (bitsOf languages).flatMap (inLanguage list)
  else if Config.maxCodes < list.length then
    (((bitsOf languages).take 1).flatMap (inLanguage list)).take Config.maxCodes
  else ((bitsOf languages).take (Config.maxCodes / list.length)).flatMap (inLanguage list)

/-- R107: the platform-zone map entry of a platform, empty for NONE. -/
def Bank.platformMask (b : Bank) (platform : Option Nat) : BitVec 8 :=
  match platform with
  | none => 0#8
  | some p => b.platformZones.getD (p - 1) 0#8

/-- R107: the zones in use in the active bank's zone table. -/
def Bank.zonesInUse (b : Bank) : BitVec 8 := maskOf 8 fun z => b.zoneTable.getD z 0 != 0

/-- R107: the mask the zone source gives. -/
def sourceMask (b : Bank) (t : CueTemplate) (r : Option ServiceRecord) : BitVec 8 :=
  match t.zoneSource, r with
  | .fixed, _ => t.fixedZones
  | .platform, some r => b.platformMask r.platform
  | .platformOld, some r => b.platformMask r.platform ||| b.platformMask r.previous
  | _, _ => 0#8

/-- R107: the resolved zone mask: the source's, else the fallback, each without unused zones. -/
def resolveZones (b : Bank) (t : CueTemplate) (r : Option ServiceRecord) : BitVec 8 :=
  if sourceMask b t r &&& b.zonesInUse != 0#8 then sourceMask b t r &&& b.zonesInUse
  else t.fallbackZones &&& b.zonesInUse

/-- R110: the release of a cue built from a template. -/
def templateRelease (t : CueTemplate) (r : Option ServiceRecord) (sec : Nat) : Int :=
  match t.release, r with
  | some m, some r => expectedMinute r * 60 - (m : Int) * 60
  | _, _ => (sec : Int)

/-- R110: the first state of a cue. -/
def firstState (release : Int) (sec : Nat) : CueState := if release ≤ (sec : Int) then .due else .waiting

/-! ### Admission (R109, R111, R113) -/

/-- R109: the first id, counting upward from `n` and wrapping at 256, that is not in use. -/
def freeId (used : List Nat) : Nat → Nat → Nat
  | 0, n => n
  | k + 1, n => if used.contains n then freeId used k ((n + 1) % 256) else n

/-- The id the next cue takes (R109). -/
def nextCueId (s : State) : Nat := freeId (s.cues.queue.map fun c => c.id) 33 s.cues.nextId

/-- The queue is kept in ascending cue id. -/
def insertCue (c : Cue) (q : List Cue) : List Cue :=
  (q.takeWhile fun x => decide (x.id < c.id)) ++ c :: (q.dropWhile fun x => decide (x.id < c.id))

/-- R109: a cue added to the queue takes its id, and the next cue id moves on. -/
def addCue (c : Cue) (s : State) : State :=
  s.setCues
    { queue := insertCue { c with id := nextCueId s } s.cues.queue
      nextId := (nextCueId s + 1) % 256 }

/-- R113: `a` is given up before `b`: lower priority, then later release, then higher id. -/
def givenUpBefore (a b : Cue) : Bool :=
  decide (a.priority < b.priority) ||
    (decide (a.priority = b.priority) &&
      (decide (b.release < a.release) || (decide (a.release = b.release) && decide (b.id < a.id))))

/-- The element of a list that no other comes before, by a strict order. -/
def pickFirst (lt : Cue → Cue → Bool) : List Cue → Option Cue
  | [] => none
  | c :: cs => match pickFirst lt cs with
    | none => some c
    | some d => if lt d c then some d else some c

/-- R113: the victim of a full queue. -/
def victim (s : State) : Option Cue := pickFirst givenUpBefore (s.cues.queue.filter Cue.waits)

/-- R113: a cue that is not coalesced is added, or pushes the victim out, or is dropped with reason FULL. -/
def placeCue (c : Cue) (s : State) : State :=
  if s.cues.queue.length < Config.maxCues then addCue c s
  else
    match victim s with
    | none => queueReport (.cueDropped none c.source c.key c.template .full) s
    | some v =>
      if v.priority < c.priority then addCue c (dropCues (fun x => x.id == v.id) .full s)
      else queueReport (.cueDropped none c.source c.key c.template .full) s

/-- R111, R112: the cue of one id takes the content of another cue, its state chosen anew; id, key, template and
retry hold stay. -/
def takeContent (sec : Nat) (new old : Cue) : Cue :=
  { old with source := new.source, codes := new.codes, zones := new.zones, priority := new.priority
             release := new.release, expiry := new.expiry, playLimit := new.playLimit
             state := firstState new.release sec }

/-- R111: the waiting or due cue a new cue is coalesced into. -/
def coalesceTarget (c : Cue) (s : State) : Option Cue :=
  s.cues.queue.find? fun x => c.key != 0 && x.key == c.key && x.template == c.template && x.waits

/-- R102 step 4: admission, by coalescing or by a place in the queue; then the NO ZONE check (R131). -/
def enterCue (c : Cue) (s : State) : State :=
  match coalesceTarget c s with
  | some x => noZoneCheck (updateCue x.id (takeContent s.time.second c) s)
  | none => noZoneCheck (placeCue c s)

/-- A cue as steps 1 to 3 make it; its id is given at admission. -/
def newCue (source : CueSource) (key : Nat) (template : Option Nat) (codes : List Nat) (zones : BitVec 8)
    (priority : Nat) (release expiry : Int) (playLimit sec : Nat) : Cue :=
  { id := 0, source := source, key := key, template := template, codes := codes, zones := zones, priority := priority
    release := release, expiry := expiry, playLimit := playLimit, state := firstState release sec
    retryHold := none, playCount := 0, preempted := false, completed := 0#8, lost := 0#8 }

/-- A request or accepted CUE POST that fails at a step (R119): no cue id. -/
def dropRequest (source : CueSource) (key : Nat) (template : Option Nat) (reason : DropReason) (s : State) : State :=
  queueReport (.cueDropped none source key template reason) s

/-- R110: step 3 and step 4 for a cue whose content is settled. -/
def timeCue (source : CueSource) (key : Nat) (template : Option Nat) (codes : List Nat) (zones : BitVec 8)
    (priority : Nat) (release : Int) (lifetime playLimit : Nat) (s : State) : State :=
  if (Config.lastExpiry : Int) < release + (lifetime : Int) then dropRequest source key template .refused s
  else if release + (lifetime : Int) < (s.time.second : Int) then dropRequest source key template .expired s
  else
    enterCue (newCue source key template codes zones priority release (release + (lifetime : Int)) playLimit s.time.second) s

/-- R102 to R110: a request whose template number is settled; the override cue has priority 7 (R115). -/
def requestTemplate (source : CueSource) (key t : Nat) (r : Option ServiceRecord) (s : State) : State :=
  let tm := s.bank.templates.getD t emptyTemplate
  let list := languageList s.bank.params.dayStart tm r
  if !tm.inUse || list.isEmpty then dropRequest source key (some t) .refused s
  else if resolveZones s.bank tm r == 0#8 then dropRequest source key (some t) .noZone s
  else
    timeCue source key (some t) (expandLanguages tm.languages list) (resolveZones s.bank tm r)
      (if source = .overrideCue then 7 else tm.priority) (templateRelease tm r s.time.second) tm.lifetime tm.playLimit s

/-- R102: a request; taken in RUNNING alone, and ended where no template is named. -/
def requestCue (source : CueSource) (key : Nat) (template : Option Nat) (r : Option ServiceRecord) (s : State) : State :=
  if s.node.state = .running then
    match template with
    | none => s
    | some t => requestTemplate source key t r s
  else s

/-- R102: the template the node parameters name for a built-in source. -/
def builtInTemplate (b : Bank) (source : CueSource) : Option Nat :=
  match source with
  | .change => b.params.changeTemplate
  | .assign => b.params.assignTemplate
  | .cancel => b.params.cancelTemplate
  | _ => none

/-! ### CUE POST (R114) -/

/-- R114: what makes a CUE POST refused. -/
def cuePostBad (b : CuePostBody) : Bool :=
  b.codes.isEmpty || decide (Config.maxCodes < b.codes.length) || b.codes.any (fun c => decide (4095 < c)) ||
    b.zones == 0#8 || decide (7 < b.priority) ||
    (match b.release with
      | none => false
      | some r => decide (Config.lastExpiry < r) || decide (Config.lastExpiry < r + b.lifetime)) ||
    decide (b.lifetime < 10) || decide (1800 < b.lifetime)

/-- R114: a CUE POST delivered to this node. -/
def cuePost (mode : AddrMode) (b : CuePostBody) (s : State) : State :=
  if s.node.state = .running then
    if cuePostBad b then reportIfPosition mode (.badField 0x10 none) s
    else if b.zones &&& s.bank.zonesInUse == 0#8 then dropRequest .explicit 0 none .noZone s
    else
      timeCue .explicit 0 none b.codes (b.zones &&& s.bank.zonesInUse) b.priority
        (match b.release with
          | none => (s.time.second : Int)
          | some r => (r : Int))
        b.lifetime 120 s
  else s

/-! ### Release, expiry, the passing of time (R116 to R118) -/

/-- R118: a drop request of the service list unit. -/
def dropKey (key : Nat) (reason : DropReason) (s : State) : State :=
  dropCues (fun c => c.key == key && c.waits) reason s

/-- R116: the expiry test at service second `sec`. -/
def expiryTest (sec : Int) (s : State) : State :=
  dropCues (fun c => c.waits && decide (c.expiry < sec)) .expired s

/-- A WAITING cue whose release is at or before `sec` becomes DUE. -/
def Cue.release? (sec : Int) (c : Cue) : Cue :=
  if c.state == .waiting && decide (c.release ≤ sec) then { c with state := .due } else c

/-- R116: the release test at service second `sec`. The NO ZONE check of the cues that became DUE follows it (R131). -/
def releaseTest (sec : Int) (s : State) : State :=
  s.setCues { s.cues with queue := s.cues.queue.map (Cue.release? sec) }

/-- R86, R116, R117: release, expiry and retry hold lowered by a day. -/
def Cue.lower (c : Cue) : Cue :=
  { c with release := c.release - 86400, expiry := c.expiry - 86400, retryHold := c.retryHold.map fun h => h - 86400 }

/-- Every cue lowered by a day. -/
def lowerCues (s : State) : State := s.setCues { s.cues with queue := s.cues.queue.map Cue.lower }

/-- R116: the scheduler's tests of a second tick at the new service second. -/
def schedulerTests (s : State) : State :=
  noZoneCheck (releaseTest s.time.second (expiryTest s.time.second s))

/-- R98: the scheduler at a SHORT STEP or LONG STEP; `oldSec` and `newSec` stand on the old day's basis, and a step that
crosses the day turn lowers the survivors. -/
def schedulerStep (cls : StepClass) (oldSec newSec : Int) (crosses : Bool) (s : State) : State :=
  let s1 :=
    if cls = .longStep then
      dropCues (fun c => c.state == .waiting && decide (oldSec < c.release) && decide (c.release ≤ newSec)) .skipped s
    else s
  let s2 := releaseTest newSec (expiryTest newSec s1)
  noZoneCheck (if crosses then lowerCues s2 else s2)

/-- R96, R117: a SET BACK makes the retry hold of every DUE cue absent. -/
def clearHolds (s : State) : State :=
  s.setCues { s.cues with queue := s.cues.queue.map fun c => if c.state == .due then { c with retryHold := none } else c }

/-- R95, R120: every cue dropped with reason FLUSHED. -/
def flushCues (s : State) : State := dropCues (fun _ => true) .flushed s

/-! ### Cues returned by the cue line controller (R112) -/

/-- R112: the waiting or due cue a returning cue is coalesced with. -/
def returnMate (c : Cue) (s : State) : Option Cue :=
  s.cues.queue.find? fun x => x.id != c.id && c.key != 0 && x.key == c.key && x.template == c.template && x.waits

/-- R112: the comparison made when the line returns cue `cueId` to DUE. -/
def coalesceReturned (cueId : Nat) (s : State) : State :=
  match s.findCue cueId with
  | none => s
  | some c =>
    match returnMate c s with
    | none => s
    | some o =>
      let s1 := updateCue cueId (takeContent s.time.second o) (removeCue o.id s)
      if o.expiry < (s.time.second : Int) then dropCues (fun x => x.id == cueId) .expired s1 else s1

/-- R134, R140: a cue back to DUE with the retry hold given; then R112 and the NO ZONE check. -/
def returnCue (cueId : Nat) (hold : Option Int) (s : State) : State :=
  noZoneCheck (coalesceReturned cueId
    (updateCue cueId (fun c => { c with state := .due, retryHold := hold, playCount := 0, preempted := false
                                        completed := 0#8, lost := 0#8 }) s))

/-! ### The meanings -/

/-- CUE_POST (R114). -/
def execCuePost (mode : AddrMode) (body : CuePostBody) (s : State) : Host.Outcome State Fault Refusal :=
  .next (cuePost mode body s)

/-- CUE_RELEASE (R116): the cue of this id, when it is WAITING and its release is at or before S, becomes DUE. -/
def execCueRelease (cueId : Nat) (s : State) : Host.Outcome State Fault Refusal :=
  .next (noZoneCheck (updateCue cueId (Cue.release? s.time.second) s))

/-- CUE_EXPIRY (R116): the cue of this id, when it is WAITING or DUE and its expiry lies before S, is dropped. -/
def execCueExpiry (cueId : Nat) (s : State) : Host.Outcome State Fault Refusal :=
  .next (dropCues (fun c => c.id == cueId && c.waits && decide (c.expiry < (s.time.second : Int))) .expired s)

end Sys2Proof.Machine
end

