-- ==== Sys2Proof/Machine/Line.lean ====
section
/-! DEFINITION. The cue line controller (chapter 7): the arbiter, the offer sequence, replies and misses, FAULT and
recovery, play and its end, preemption, the line break and the zone addresses. -/

namespace Sys2Proof.Machine

/-! ### Zones changing state -/

/-- R142: a zone that becomes FREE takes its pending address. Its miss count is kept. -/
def Zone.freed (z : Zone) : Zone :=
  { z with state := .free, holding := none, timer := none, taken := false, pollDue := false
           addr := z.pendingAddr.getD z.addr, pendingAddr := none }

/-- R135, R142: a zone that enters FAULT; one with a pending address of 0 leaves FAULT for FREE at once. -/
def Zone.faulted (z : Zone) : Zone :=
  if z.pendingAddr = some 0 then
    { state := .free, holding := none, miss := 0, timer := none, pendingAddr := none, addr := 0, taken := false
      pollDue := false }
  else
    { state := .fault, holding := none, miss := 3, timer := some Config.faultPollCycles, pendingAddr := none
      addr := z.pendingAddr.getD z.addr, taken := false, pollDue := false }

/-- R138, R139: a PLAYING zone that becomes STOPPING; a due poll of it is withdrawn (R129). -/
def Zone.halted (z : Zone) : Zone := { z with state := .stopping, timer := none, pollDue := false }

/-- One zone of the state replaced. -/
def putZone (n : Nat) (z : Zone) (s : State) : State := s.setLine (s.line.setZone n z)

/-- The pending STOP of a zone withdrawn (R138). -/
def withdrawStop (n : Nat) (s : State) : State :=
  s.setLine
    { s.line with
      jobs := s.line.jobs.filter fun j => match j with
        | .stop z _ => z != n
        | .cancel _ _ => true }

/-- R142: a zone becomes FREE; a change of its address in effect is followed by the NO ZONE check. -/
def freeZone (n : Nat) (s : State) : State :=
  let s1 := withdrawStop n (putZone n (s.line.zone n).freed s)
  if (s.line.zone n).pendingAddr.isSome then noZoneCheck s1 else s1

/-- R135: a zone enters FAULT, with ZONE FAULT carrying the address that failed to answer. -/
def faultZone (n : Nat) (s : State) : State :=
  let s1 :=
    withdrawStop n (putZone n (s.line.zone n).faulted (queueReport (.zoneFault n (s.line.zone n).addr) s))
  if (s.line.zone n).pendingAddr.isSome then noZoneCheck s1 else s1

/-- A zone becomes STOPPING and a STOP for its cue becomes pending at the end of class 1 (R130). -/
def haltZone (n : Nat) (s : State) : State :=
  match (s.line.zone n).holding with
  | none => s
  | some cueId =>
    s.setLine { s.line.setZone n (s.line.zone n).halted with jobs := s.line.jobs ++ [.stop n cueId] }

/-- Every PLAYING zone held by a cue of the list, ascending, becomes STOPPING (R138, R139). -/
def haltCues (cueIds : List Nat) (s : State) : State :=
  ((List.range 8).filter fun n =>
    (s.line.zone n).state == .playing && (s.line.zone n).holding.any fun i => cueIds.contains i).foldl
    (fun st n => haltZone n st) s

/-! ### The end of play (R137, R140) -/

/-- R137, R138: CUE FINISHED, or CUE TRUNCATED when the play count reached the limit. -/
def Cue.endReport (c : Cue) : Report :=
  if c.playLimit * 64 ≤ c.playCount then
    .cueTruncated c.id c.source c.key c.template c.completed c.lost
  else .cueFinished c.id c.source c.key c.template c.completed c.lost

/-- R137, R140: the last zone of a cue has been released. -/
def endPlay (cueId : Nat) (s : State) : State :=
  match s.findCue cueId with
  | none => s
  | some c =>
    if c.preempted then
      if (s.time.second : Int) ≤ c.expiry then returnCue cueId none s
      else dropCues (fun x => x.id == cueId) .preempted s
    else queueReport c.endReport (removeCue cueId s)

/-- R137: a zone, no longer held, is counted for its cue as completed or as lost; the last one ends the play. -/
def releaseFrom (cueId n : Nat) (completed : Bool) (s : State) : State :=
  let s1 :=
    updateCue cueId
      (fun c =>
        if completed then { c with completed := c.completed ||| BitVec.twoPow 8 n }
        else { c with lost := c.lost ||| BitVec.twoPow 8 n })
      s
  if (zonesHolding s1.line cueId).isEmpty then endPlay cueId s1 else s1

/-- R137, R138: a zone freed and released from the cue that held it. -/
def freeAndRelease (n : Nat) (completed : Bool) (s : State) : State :=
  match (s.line.zone n).holding with
  | none => freeZone n s
  | some cueId => releaseFrom cueId n completed (freeZone n s)

/-- R135: a zone taken to FAULT and released as lost; the NO ZONE check comes last. -/
def faultAndRelease (n : Nat) (s : State) : State :=
  match (s.line.zone n).holding with
  | none => noZoneCheck (faultZone n s)
  | some cueId => noZoneCheck (releaseFrom cueId n false (faultZone n s))

/-! ### The offer sequence (R132 to R134) -/

/-- The zones of the sequence of a cue. -/
def offeredZones (l : LineCtl) (cueId : Nat) : List Nat :=
  (List.range 8).filter fun n => (l.zone n).state == .offered && (l.zone n).holding == some cueId

/-- R134: the CANCELs of a failed sequence, to the addresses the taken zones held during it. -/
def cancelJobs (l : LineCtl) (cueId : Nat) : List LineJob :=
  ((offeredZones l cueId).filter fun n => (l.zone n).taken).map fun n => .cancel (l.zone n).addr cueId

/-- R134: the offer sequence of a cue fails. -/
def failSequence (cueId : Nat) (s : State) : State :=
  let s1 := s.setLine { s.line with jobs := s.line.jobs ++ cancelJobs s.line cueId, seq := none }
  returnCue cueId (some ((s.time.second : Int) + 1))
    ((offeredZones s.line cueId).foldl (fun st n => freeZone n st) s1)

/-! ### Misses (R135, R136, R137) -/

/-- A zone's miss count set. -/
def setMiss (n k : Nat) (s : State) : State := putZone n { s.line.zone n with miss := k } s

/-- The end of an OFFER with no valid reply (R132, R135). -/
def missOffer (n cueId : Nat) (s : State) : State :=
  if 3 ≤ (s.line.zone n).miss + 1 then noZoneCheck (failSequence cueId (faultZone n s))
  else failSequence cueId (setMiss n ((s.line.zone n).miss + 1) s)

/-- The end of a STOP with no valid reply (R138). -/
def missStop (n : Nat) (s : State) : State :=
  if 3 ≤ (s.line.zone n).miss + 1 then faultAndRelease n s
  else freeAndRelease n false (setMiss n ((s.line.zone n).miss + 1) s)

/-- The end of a POLL with no valid reply (R136, R137), applied to the zone as it then stands. DESIGN CHOICE (assumption 39):
a zone that is neither FAULT nor PLAYING nor STOPPING when its poll ends, a FAULT zone that a bank switch to address 0 made
FREE within the poll (R142), has no line in R136 or R137; its miss count rises by one, as R135 says of any miss, and it
stays FREE. -/
def missPoll (n : Nat) (s : State) : State :=
  match (s.line.zone n).state with
  | .fault => putZone n { s.line.zone n with miss := 3, timer := some Config.faultPollCycles } s
  | .playing =>
    if 3 ≤ (s.line.zone n).miss + 1 then faultAndRelease n s
    else putZone n { s.line.zone n with miss := (s.line.zone n).miss + 1, timer := some Config.pollCycles } s
  | _ =>
    if 3 ≤ (s.line.zone n).miss + 1 then faultAndRelease n s
    else setMiss n ((s.line.zone n).miss + 1) s

/-- A transaction that awaits a reply ends with none. -/
def missTransaction (t : Transaction) (s : State) : State :=
  match t with
  | .offer n _ cueId => missOffer n cueId s
  | .stop n _ _ => missStop n s
  | .poll n _ => missPoll n s
  | .start _ | .cancel _ _ => s

/-! ### Replies (R132, R134, R136 to R138) -/

/-- R136: a FAULT zone recovers. DEDUCED (assumption 12): the report carries the zone's address in effect at the end of the
transaction, which a bank switch may have changed while the poll was in flight (R142). -/
def recoverZone (n : Nat) (s : State) : State :=
  queueReport (.zoneRecovered n (s.line.zone n).addr) (putZone n { (s.line.zone n).freed with miss := 0 } s)

/-- TAKEN (R132). -/
def onTaken (n : Nat) (s : State) : State := putZone n { s.line.zone n with miss := 0, taken := true } s

/-- BUSY (R132, R134). -/
def onBusy (n cueId : Nat) (s : State) : State := failSequence cueId (setMiss n 0 s)

/-- STOPPED (R138). -/
def onStopped (n : Nat) (s : State) : State := freeAndRelease n true (setMiss n 0 s)

/-- PLAYING in reply to a POLL (R136, R137). DESIGN CHOICE (assumption 39): a zone that a bank switch made FREE while its
recovery poll was in flight (R142) has its misses cleared, as R135 says of any valid reply, and there is no ZONE
RECOVERED. -/
def onPlaying (n : Nat) (s : State) : State :=
  match (s.line.zone n).state with
  | .fault => recoverZone n s
  | .playing => putZone n { s.line.zone n with miss := 0, timer := some Config.pollCycles } s
  | _ => setMiss n 0 s

/-- FINISHED or IDLE in reply to a POLL (R136, R137). DESIGN CHOICE (assumption 39): a zone that a bank switch made FREE
while its recovery poll was in flight (R142) has its misses cleared and there is no ZONE RECOVERED, as for PLAYING. -/
def onEnded (n : Nat) (s : State) : State :=
  match (s.line.zone n).state with
  | .fault => recoverZone n s
  | .playing | .stopping => freeAndRelease n true (setMiss n 0 s)
  | _ => setMiss n 0 s

/-- The line between transactions (R126). -/
def lineIdle (s : State) : State := s.setLine { s.line with status := .idle, timer := 0 }

/-- R126: characters that arrive while the line is left quiet: the 2 character times without a character begin anew, but
end no later than 20 ms from the close of the window. -/
def lateCharacters (left : Nat) (s : State) : State :=
  s.setLine { s.line with timer := min (Config.quietChars * Config.charTicks) left }

/-- A reply of kind `k` received: it ends the transaction in flight when it is valid (R124, R126), and is ignored
otherwise, but that the line does not count as quiet while characters arrive. -/
def onReply (k : ReplyKind) (chars : List LineChar) (s : State) : State :=
  match s.line.status with
  | .quiet left => if chars.isEmpty then s else lateCharacters left s
  | .transaction t =>
    if validReply k t chars then
      match t, k with
      | .offer n _ _, .taken => onTaken n (lineIdle s)
      | .offer n _ cueId, .busy => onBusy n cueId (lineIdle s)
      | .stop n _ _, .stopped => onStopped n (lineIdle s)
      | .poll n _, .playing => onPlaying n (lineIdle s)
      | .poll n _, .finished => onEnded n (lineIdle s)
      | .poll n _, .idle => onEnded n (lineIdle s)
      | _, _ => s
    else s
  | _ => s

/-- R126: the reply window closes with no valid reply; the line is then left quiet for 2 character times, or longer where
characters go on arriving, up to 20 ms. -/
def closeWindow (s : State) : State :=
  match s.line.status with
  | .transaction t =>
    if t.awaitsReply then
      missTransaction t
        (s.setLine
          { s.line with status := .quiet Config.quietMaxTicks, timer := Config.quietChars * Config.charTicks })
    else s
  | _ => s

/-- R133: the START has been sent: the cue and its zones play. A zone with a pending address of 0 is stopped. -/
def startSent (s : State) : State :=
  match s.line.status with
  | .transaction (.start cueId) =>
    let zs := offeredZones s.line cueId
    let s1 := lineIdle (s.setLine { s.line with seq := none })
    let s2 := updateCue cueId (fun c => { c with state := .playing, playCount := 0, completed := 0#8, lost := 0#8 }) s1
    let s3 :=
      zs.foldl
        (fun st n => putZone n { st.line.zone n with state := .playing, timer := some Config.pollCycles, taken := false } st)
        s2
    (zs.filter fun n => (s.line.zone n).pendingAddr == some 0).foldl (fun st n => haltZone n st) s3
  | _ => s

/-- R126: the CANCEL has been sent. -/
def cancelSent (s : State) : State :=
  match s.line.status with
  | .transaction (.cancel _ _) => lineIdle s
  | _ => s

/-! ### The arbiter (R130, R131, R139, R149) -/

/-- R128: a zone available for an offer. -/
def availableZone (l : LineCtl) (n : Nat) : Bool :=
  (l.zone n).state == .free && (l.zone n).addr != 0 &&
    (List.range 8).all fun m => m == n || (l.zone m).addr != (l.zone n).addr

/-- R131, R139: the usable zones of a cue that are not available. -/
def blockedZones (l : LineCtl) (mask : BitVec 8) : List Nat :=
  (usableZones l mask).filter fun n => !availableZone l n

/-- R139: every blocked zone is PLAYING under a cue of lower priority. -/
def lowerPlaying (s : State) (priority n : Nat) : Bool :=
  (s.line.zone n).state == .playing &&
    match (s.line.zone n).holding with
    | none => false
    | some i => (s.findCue i).any fun v => decide (v.priority < priority)

/-- R139: a DUE cue can preempt. -/
def canPreempt (s : State) (c : Cue) : Bool :=
  decide (s.bank.params.preemptLevel ≤ c.priority) && !(blockedZones s.line c.zones).isEmpty &&
    (blockedZones s.line c.zones).all (lowerPlaying s c.priority)

/-- R131, R149: a cue the arbiter may choose. -/
def eligible (s : State) (c : Cue) : Bool :=
  c.state == .due && !(usableZones s.line c.zones).isEmpty &&
    (c.retryHold.all fun h => decide (h ≤ (s.time.second : Int))) &&
    (s.ovr.level == 0 || decide (s.ovr.floor ≤ c.priority)) &&
    ((blockedZones s.line c.zones).isEmpty || canPreempt s c)

/-- R131: highest priority, then earliest release, then lowest id. -/
def chosenBefore (a b : Cue) : Bool :=
  decide (b.priority < a.priority) ||
    (decide (a.priority = b.priority) &&
      (decide (a.release < b.release) || (decide (a.release = b.release) && decide (a.id < b.id))))

/-- R131: the cue the arbiter takes. -/
def bestCue (s : State) : Option Cue := pickFirst chosenBefore (s.cues.queue.filter (eligible s))

/-- R132: the offer sequence of a cue begins. -/
def beginSequence (c : Cue) (s : State) : State :=
  let zs := usableZones s.line c.zones
  let s1 := updateCue c.id (fun x => { x with state := .offered }) s
  let s2 :=
    zs.foldl (fun st n => putZone n { st.line.zone n with state := .offered, holding := some c.id, taken := false } st) s1
  s2.setLine { s2.line with seq := some { cueId := c.id, left := zs } }

/-- R139: the preemption made for a cue: every lower cue that holds a blocked zone of it is marked and stopped. -/
def preemptFor (c : Cue) (s : State) : State :=
  let ids := (blockedZones s.line c.zones).filterMap fun n => (s.line.zone n).holding
  haltCues ids
    (s.setCues
      { s.cues with queue := s.cues.queue.map fun v => if ids.contains v.id then { v with preempted := true } else v })

/-- R131: the choice of a new cue. -/
def chooseCue (s : State) : State :=
  match bestCue s with
  | none => s
  | some c => if (blockedZones s.line c.zones).isEmpty then beginSequence c s else preemptFor c s

/-- R126: the node sends the command of a transaction; `timer` runs to the end of its last character, and on through
the reply window where one is awaited. -/
def sendTransaction (t : Transaction) (s : State) : State :=
  let cue := match t with
    | .offer _ _ i => s.findCue i
    | _ => none
  let msg := t.message ((cue.map fun c => c.playLimit).getD 0) ((cue.map fun c => c.codes).getD [])
  s.setLine
    { s.line with
      status := .transaction t
      sent := msg
      timer := msg.length * Config.charTicks + (if t.awaitsReply then Config.windowTicks else 0) }

/-- The transaction of a class 1 job. -/
def LineJob.transaction (l : LineCtl) : LineJob → Transaction
  | .stop n cueId => .stop n (l.zone n).addr cueId
  | .cancel addr cueId => .cancel addr cueId

/-- R130: the due poll to send: a PLAYING zone first, then a FAULT zone, ascending within each. -/
def duePoll (l : LineCtl) : Option Nat :=
  match (List.range 8).find? fun n => (l.zone n).pollDue && (l.zone n).state == .playing with
  | some n => some n
  | none => (List.range 8).find? fun n => (l.zone n).pollDue && (l.zone n).state == .fault

/-- R130: the transaction of a due poll. -/
def sendPoll (n : Nat) (s : State) : State :=
  sendTransaction (.poll n (s.line.zone n).addr) (putZone n { s.line.zone n with pollDue := false } s)

/-- R130: the arbiter, with the line idle. -/
def arbiterWork (s : State) : State :=
  match s.line.jobs with
  | j :: rest => sendTransaction (j.transaction s.line) (s.setLine { s.line with jobs := rest })
  | [] =>
    match s.line.seq with
    | some { cueId := i, left := [] } => sendTransaction (.start i) s
    | some { cueId := i, left := n :: rest } =>
      match duePoll s.line with
      | some m => sendPoll m s
      | none =>
        sendTransaction (.offer n (s.line.zone n).addr i) (s.setLine { s.line with seq := some { cueId := i, left := rest } })
    | none =>
      match duePoll s.line with
      | some m => sendPoll m s
      | none => chooseCue s

/-- R130, R143: the arbiter may start work: the line is idle and the node is not in POWER-UP. DESIGN CHOICE (assumption 38):
while the line is left quiet after a missed window (R126) the arbiter is not consulted at all, so no cue is chosen and no
preemption made before the quiet ends. -/
def lineReady (s : State) : Bool := s.line.status == .idle && s.node.state != .powerUp

/-- R130: the arbiter is consulted. -/
def arbitrate (s : State) : State := if lineReady s then arbiterWork s else s

/-- R130: work that the arbiter would start. -/
def lineHasWork (s : State) : Bool :=
  lineReady s &&
    (!s.line.jobs.isEmpty || s.line.seq.isSome || (duePoll s.line).isSome || s.cues.queue.any (eligible s))

/-! ### Timers and play counts (R129, R138) -/

/-- R129: one own cycle of a zone's poll timer; a timer that has run out makes the poll due unless it is in flight. -/
def Zone.countCycle (inFlight : Bool) (z : Zone) : Zone :=
  if z.state = .playing ∨ z.state = .fault then
    match z.timer with
    | none => z
    | some 0 => { z with pollDue := z.pollDue || !inFlight }
    | some (k + 1) => { z with timer := some k, pollDue := z.pollDue || k == 0 }
  else z

/-- The zone whose poll is in flight. -/
def LineCtl.pollInFlight (l : LineCtl) (n : Nat) : Bool :=
  match l.status with
  | .transaction (.poll m _) => m == n
  | _ => false

/-- R129: the poll timers at an own cycle start. -/
def countTimers (s : State) : State :=
  s.setLine
    { s.line with zones := (List.range 8).map fun n => (s.line.zone n).countCycle (s.line.pollInFlight n) }

/-- R138: the play count of a PLAYING cue rises. -/
def Cue.countCycle (c : Cue) : Cue := if c.state = .playing then { c with playCount := c.playCount + 1 } else c

/-- R138: play counts at an own cycle start; a cue whose count reaches its limit is stopped. -/
def countPlays (s : State) : State :=
  let s1 := s.setCues { s.cues with queue := s.cues.queue.map Cue.countCycle }
  haltCues ((s1.cues.queue.filter fun c => c.state == .playing && c.playCount == c.playLimit * 64).map fun c => c.id) s1

/-- The cue line controller's work at an own cycle start. -/
def lineCycle (s : State) : State := countPlays (countTimers s)

/-! ### Line break and resets (R127, R143) -/

/-- R127: the line break. The cues on the line are left to the cause of the break. -/
def lineBreak (s : State) : State :=
  let s1 :=
    s.setLine
      { s.line with
        zones := s.line.zones.map fun z => { z with pollDue := false }
        status := .lineBreak, timer := Config.breakChars * Config.charTicks, jobs := [], seq := none }
  ((List.range 8).filter fun n => (s.line.zone n).state != .fault).foldl (fun st n => freeZone n st) s1

/-- R143: the line break of a reset, and every zone at its values after a reset. -/
def resetLine (s : State) : State :=
  let s1 := lineBreak s
  s1.setLine { s1.line with zones := (List.range 8).map fun n => resetZone (s.bank.zoneTable.getD n 0) }

/-! ### Zone addresses at a bank switch (R142) -/

/-- R142: one zone compared with its address in the new bank. -/
def compareZone (n : Nat) (s : State) : State :=
  let z := s.line.zone n
  let a := s.bank.zoneTable.getD n 0
  if a = z.addr then putZone n { z with pendingAddr := none } s
  else
    match z.state with
    | .free => putZone n { z with addr := a, pendingAddr := none } s
    | .fault =>
      if a = 0 then putZone n (resetZone 0) s else putZone n { z with addr := a, pendingAddr := none } s
    | .playing =>
      let s1 := putZone n { z with pendingAddr := some a } s
      if a = 0 then haltZone n s1 else s1
    | _ => putZone n { z with pendingAddr := some a } s

/-- R142: the comparison of every zone, then the NO ZONE check. -/
def compareZones (s : State) : State := noZoneCheck ((List.range 8).foldl (fun st n => compareZone n st) s)

/-! ### The meanings -/

/-- LINE_ARBITRATION (R130). -/
def execLineArbitration (s : State) : Host.Outcome State Fault Refusal := .next (arbitrate s)

/-- START_SENT (R133). -/
def execStartSent (s : State) : Host.Outcome State Fault Refusal := .next (startSent s)

/-- CANCEL_SENT (R126). -/
def execCancelSent (s : State) : Host.Outcome State Fault Refusal := .next (cancelSent s)

/-- TAKEN (R132). -/
def execTaken (chars : List LineChar) (s : State) : Host.Outcome State Fault Refusal := .next (onReply .taken chars s)

/-- BUSY (R134). -/
def execBusy (chars : List LineChar) (s : State) : Host.Outcome State Fault Refusal := .next (onReply .busy chars s)

/-- STOPPED (R138). -/
def execStopped (chars : List LineChar) (s : State) : Host.Outcome State Fault Refusal := .next (onReply .stopped chars s)

/-- PLAYING (R137). -/
def execPlaying (chars : List LineChar) (s : State) : Host.Outcome State Fault Refusal := .next (onReply .playing chars s)

/-- FINISHED (R137). -/
def execFinished (chars : List LineChar) (s : State) : Host.Outcome State Fault Refusal :=
  .next (onReply .finished chars s)

/-- IDLE (R137). -/
def execIdle (chars : List LineChar) (s : State) : Host.Outcome State Fault Refusal := .next (onReply .idle chars s)

/-- REPLY_WINDOW_CLOSE (R126). -/
def execReplyWindowClose (s : State) : Host.Outcome State Fault Refusal := .next (closeWindow s)

/-- LINE_BREAK_END (R127): the line becomes idle when the break ends. -/
def lineBreakEnd (s : State) : State := if s.line.status = .lineBreak then lineIdle s else s

/-- LINE_BREAK_END (R127). -/
def execLineBreakEnd (s : State) : Host.Outcome State Fault Refusal := .next (lineBreakEnd s)

/-- The line is being left quiet (R126). -/
def LineStatus.isQuiet : LineStatus → Bool
  | .quiet _ => true
  | _ => false

/-- R126: the line becomes idle when it has been quiet. -/
def lineQuietEnd (s : State) : State := if s.line.status.isQuiet then lineIdle s else s

/-- LINE_QUIET_END (R126). -/
def execLineQuietEnd (s : State) : Host.Outcome State Fault Refusal := .next (lineQuietEnd s)

/-- R129, R136, R137: the poll timer of a PLAYING or FAULT zone reaches 0 and its poll becomes pending. -/
def pollFallsDue (n : Nat) (s : State) : State :=
  let z := s.line.zone n
  if n < 8 ∧ (z.state = .playing ∨ z.state = .fault) ∧ z.timer.isSome ∧ ¬ s.line.pollInFlight n then
    putZone n { z with timer := some 0, pollDue := true } s
  else s

/-- POLL_TIMER_EXPIRY (R137). -/
def execPollTimerExpiry (zone : Nat) (s : State) : Host.Outcome State Fault Refusal := .next (pollFallsDue zone s)

/-- R138: the play count of a PLAYING cue reaches its limit. -/
def reachPlayLimit (cueId : Nat) (s : State) : State :=
  if (s.findCue cueId).any fun c => c.state == .playing && decide (c.playCount < c.playLimit * 64) then
    haltCues [cueId] (updateCue cueId (fun c => { c with playCount := c.playLimit * 64 }) s)
  else s

/-- PLAY_LIMIT_REACHED (R138). -/
def execPlayLimitReached (cueId : Nat) (s : State) : Host.Outcome State Fault Refusal := .next (reachPlayLimit cueId s)

/-- RETRY_HOLD_EXPIRY (R134, R130): a DUE cue whose retry hold has passed is eligible again, so the arbiter is
consulted. The passed hold stays as it is (R117). -/
def execRetryHoldExpiry (cueId : Nat) (s : State) : Host.Outcome State Fault Refusal :=
  .next
    (if (s.findCue cueId).any fun c => c.state == .due && c.retryHold.any fun h => decide (h ≤ (s.time.second : Int)) then
      arbitrate s
    else s)

end Sys2Proof.Machine
end

