-- ==== Sys2Proof/Machine/Services.lean ====
section
/-! DEFINITION. The service list unit (chapter 1) and the rule evaluator (chapter 3): service messages, attention,
retirement, the day turn of the table, re-selection and rule evaluation. -/

namespace Sys2Proof.Machine

/-! ### The rule evaluator (R50 to R57) -/

/-- R51, R52: the requests of one evaluation, in ascending rule number. `r` is the record after the evaluation. -/
def ruleRequests (edges : List Nat) (r : ServiceRecord) (s : State) : State :=
  edges.foldl
    (fun st n =>
      if r.cueEnabled then
        match (st.bank.rule n).template with
        | none => st
        | some t => requestCue (.rule n) r.key (some t) (some r) st
      else st)
    s

/-- A record with its rules decided at the current second and bank, put back in the table. -/
def storeEvaluated (r : ServiceRecord) (s : State) : State :=
  s.setTable (replaceRecord (decideRules s.bank s.time.second r) s.table)

/-- R53: a full evaluation of one record, its edges raising requests in RUNNING (R51, R102). -/
def fullEvaluation (r : ServiceRecord) (s : State) : State :=
  ruleRequests (matchEdges r.matchSet (decideRules s.bank s.time.second r).matchSet)
    (decideRules s.bank s.time.second r) (storeEvaluated r s)

/-- R54, R55: a full evaluation of every record, in table order. -/
def evaluateAll (s : State) : State := s.table.foldl (fun st r => fullEvaluation r st) s

/-- R56: every record re-baselined, raising no request. -/
def rebaseline (s : State) : State := s.setTable (s.table.map (decideRules s.bank s.time.second))

/-! ### The changes of a post or amend (R12 to R17) -/

/-- What the four present fields of a message do to a record: the record after, the built-in cue source its platform
field asks for, whether it asks for a CANCEL cue, and whether the platform changed. -/
structure FieldChange where
  record : ServiceRecord
  platformCue : Option CueSource
  cancelCue : Bool
  platformChanged : Bool
  deriving DecidableEq, Repr

/-- R14 to R16: a present platform (`none` is NONE) applied to a record, with the attention period in force. -/
def applyPlatform (period : Nat) (p : Option Nat) (r : ServiceRecord) : ServiceRecord × Option CueSource :=
  match r.platform, p with
  | some old, some new =>
    if old = new then (r, none)
    else if 0 < r.attention ∧ r.previous = some new then
      ({ r with platform := some new, attention := 0, previous := none }, none)
    else
      ({ r with platform := some new, attention := period, previous := if 0 < period then some old else none },
        some .change)
  | some _, none => ({ r with platform := none, attention := 0, previous := none }, none)
  | none, some new => ({ r with platform := some new }, some .assign)
  | none, none => (r, none)

/-- R12, R13: the present fields applied in order: delay, cancelled and boarding, platform. -/
def applyFields (period : Nat) (delay : Option (Option Int)) (platform : Option (Option Nat)) (cancelled boarding : Option Bool)
    (r : ServiceRecord) : FieldChange :=
  let r1 : ServiceRecord :=
    { r with delay := delay.getD r.delay, cancelled := cancelled.getD r.cancelled, boarding := boarding.getD r.boarding }
  let cancelCue := cancelled.getD false && !r.cancelled
  match platform with
  | none => { record := r1, platformCue := none, cancelCue := cancelCue, platformChanged := false }
  | some p =>
    { record := (applyPlatform period p r1).1, platformCue := (applyPlatform period p r1).2, cancelCue := cancelCue
      platformChanged := decide (r.platform ≠ p) }

/-- R17: one built-in request, made when the record held cue enable before the message. -/
def builtInRequest (enabled : Bool) (source : CueSource) (r : ServiceRecord) (s : State) : State :=
  if enabled then requestCue source r.key (builtInTemplate s.bank source) (some r) s else s

/-- R13 to R17: the built-in requests of a message: CANCEL first, then the platform's. -/
def builtInRequests (enabled : Bool) (ch : FieldChange) (s : State) : State :=
  let s1 := if ch.cancelCue then builtInRequest enabled .cancel ch.record s else s
  match ch.platformCue with
  | none => s1
  | some src => builtInRequest enabled src ch.record s1

/-- R18: rule evaluation and watch handling of a record still held. -/
def afterApply (ev : WatchEvent) (key : Nat) (s : State) : State :=
  match s.findRecord key with
  | none => s
  | some r =>
    let s1 := fullEvaluation r s
    match s1.findRecord key with
    | none => s1
    | some r' => watchReport ev r' s1

/-- R8, R14: a record leaves by LEFT SELECTION, as it stands at that moment. -/
def leaveSelection (r : ServiceRecord) (s : State) : State :=
  watchReport .leftSelection r (queueReport (.leftSelection r.key) s)

/-- R9, R14 to R18: a record whose fields have been changed is kept at the place its triple calls for, with the mask and
enable given, or leaves by LEFT SELECTION when the mask is empty. The requests come first. -/
def settleChange (ev : WatchEvent) (enabled : Bool) (ch : FieldChange) (sel : BitVec 4 × Bool) (s : State) : State :=
  if sel.1 == 0#4 then
    leaveSelection ch.record (builtInRequests enabled ch (s.setTable (removeKey ch.record.key s.table)))
  else
    afterApply ev ch.record.key
      (builtInRequests enabled ch
        (s.setTable
          (insertRecord { ch.record with boards := sel.1, cueEnabled := sel.2 } (removeKey ch.record.key s.table))))

/-! ### SERVICE POST (R7 to R11) -/

/-- R7: what makes a post refused. -/
def postBad (b : PostBody) : Bool :=
  b.key == 0 || decide (b.sm < -1440) || decide (2879 < b.sm) || decide (3 < b.vias.length) ||
    decide (1023 < b.destination) || b.vias.any (fun v => decide (1023 < v)) || decide (15 < b.opClass)

/-- R10: the record a post creates. -/
def postRecord (b : PostBody) (sel : BitVec 4 × Bool) : ServiceRecord :=
  { key := b.key, sm := b.sm, delay := clampDelay b.delay, platform := normPlatform b.platform, previous := none
    attention := 0, destination := b.destination, vias := b.vias, opClass := b.opClass, cancelled := b.cancelled
    boarding := b.boarding, boards := sel.1, cueEnabled := sel.2, matchSet := 0#32, notice := none }

/-- R10: a new record joins the table. -/
def createRecord (r : ServiceRecord) (s : State) : State :=
  afterApply .posted r.key (s.setTable (insertRecord r s.table))

/-- R11: a record is evicted: it leaves, EVICTED is queued, its WAITING and DUE cues are dropped, and its WATCH report
follows. -/
def evictRecord (r : ServiceRecord) (s : State) : State :=
  watchReport .evicted r
    (dropKey r.key .evicted (queueReport (.evicted r.key) (s.setTable (removeKey r.key s.table))))

/-- R10, R11: a post of a new key whose selection is not empty. -/
def postNew (r : ServiceRecord) (s : State) : State :=
  if s.table.length < Config.maxRecords then createRecord r s
  else
    match s.table.getLast? with
    | none => createRecord r s
    | some last =>
      if before r last then createRecord r (evictRecord last s)
      else queueReport (.full r.key) s

/-- R9: a post of a held key whose selection is not empty. -/
def postHeld (b : PostBody) (old : ServiceRecord) (sel : BitVec 4 × Bool) (s : State) : State :=
  settleChange .posted old.cueEnabled
    (applyFields s.bank.params.attentionPeriod (some (clampDelay b.delay)) (some (normPlatform b.platform))
      (some b.cancelled) (some b.boarding)
      { old with sm := b.sm, destination := b.destination, vias := b.vias, opClass := b.opClass })
    sel s

/-- R6 to R11: a SERVICE POST delivered to this node. -/
def servicePost (mode : AddrMode) (b : PostBody) (s : State) : State :=
  if s.node.state = .running then
    if postBad b then reportIfPosition mode (.badField 0x01 (some b.key)) s
    else
      let sel := selectRecord s.bank.selection (normPlatform b.platform) b.opClass
      match s.findRecord b.key with
      | none => if sel.1 == 0#4 then s else postNew (postRecord b sel) s
      | some old =>
        if sel.1 == 0#4 then leaveSelection old (s.setTable (removeKey b.key s.table))
        else postHeld b old sel s
  else s

/-! ### SERVICE AMEND and SERVICE WITHDRAW (R12, R19) -/

/-- R5: the mask and enable of a record after an amend: evaluated anew when the platform changed, else as they were. -/
def amendSelection (sel : List SelectionEntry) (ch : FieldChange) : BitVec 4 × Bool :=
  if ch.platformChanged then selectRecord sel ch.record.platform ch.record.opClass
  else (ch.record.boards, ch.record.cueEnabled)

/-- R12: what an amend does to the fields of the record it names. -/
def amendChange (period : Nat) (b : AmendBody) (old : ServiceRecord) : FieldChange :=
  applyFields period (b.delay.map clampDelay) (b.platform.map normPlatform) b.cancelled b.boarding old

/-- R6, R12 to R18: a SERVICE AMEND delivered to this node. -/
def serviceAmend (mode : AddrMode) (b : AmendBody) (s : State) : State :=
  if s.node.state = .running then
    match s.findRecord b.key with
    | none => reportIfPosition mode (.notFound b.key) s
    | some old =>
      settleChange .amended old.cueEnabled (amendChange s.bank.params.attentionPeriod b old)
        (amendSelection s.bank.selection (amendChange s.bank.params.attentionPeriod b old)) s
  else s

/-- R19: a SERVICE WITHDRAW delivered to this node. -/
def serviceWithdraw (mode : AddrMode) (key : Nat) (s : State) : State :=
  if s.node.state = .running then
    match s.findRecord key with
    | none => reportIfPosition mode (.notFound key) s
    | some r => watchReport .withdrawn r (dropKey key .withdrawn (s.setTable (removeKey key s.table)))
  else s

/-! ### Attention, retirement, the day turn (R20 to R22) -/

/-- R20: one second of attention. -/
def lowerAttention (r : ServiceRecord) : ServiceRecord :=
  if r.attention = 0 then r
  else if r.attention = 1 then { r with attention := 0, previous := none }
  else { r with attention := r.attention - 1 }

/-- R20: attention set to 0. -/
def clearRecordAttention (r : ServiceRecord) : ServiceRecord := { r with attention := 0, previous := none }

/-- R20: the decrement of a second tick. -/
def tickAttention (s : State) : State := s.setTable (s.table.map lowerAttention)

/-- The records that satisfy `p` leave as retired, a WATCH report for each watched key (R21, R22). DESIGN CHOICE
(assumption 34): where several watched records leave at once their reports are queued in table order. -/
def retireWhere (p : ServiceRecord → Bool) (s : State) : State :=
  watchReports .retired (s.table.filter p) (s.setTable (s.table.filter fun r => !p r))

/-- R21: retirement at the current service second. -/
def retireRecords (s : State) : State := retireWhere (retires s.bank.params.grace s.time.second) s

/-- R22: a record's SM lowered by a day. -/
def lowerRecord (r : ServiceRecord) : ServiceRecord := { r with sm := r.sm - 1440 }

/-- R22: the day turn of the table. -/
def turnTable (s : State) : State :=
  let s1 := retireWhere (fun r => decide (r.sm < 0)) s
  s1.setTable (s1.table.map lowerRecord)

/-- R20, R22: the service list unit's work of a second tick before retirement: the attention decrement and, at the day
turn, the day turn of the table (R54). -/
def ageTable (dayTurn : Bool) (s : State) : State :=
  if dayTurn then turnTable (tickAttention s) else tickAttention s

/-! ### Re-selection (R23) -/

/-- R23: one record re-evaluated against the active selection table. -/
def reselectOne (s : State) (r : ServiceRecord) : State :=
  let sel := selectRecord s.bank.selection r.platform r.opClass
  if sel.1 == 0#4 then leaveSelection r (s.setTable (removeKey r.key s.table))
  else s.setTable (replaceRecord { r with boards := sel.1, cueEnabled := sel.2 } s.table)

/-- R23: every record re-evaluated, in table order. -/
def reselectAll (s : State) : State := s.table.foldl reselectOne s

/-! ### The meanings -/

/-- SERVICE_POST (R7). -/
def execServicePost (mode : AddrMode) (body : PostBody) (s : State) : Host.Outcome State Fault Refusal :=
  .next (servicePost mode body s)

/-- SERVICE_AMEND (R12). -/
def execServiceAmend (mode : AddrMode) (body : AmendBody) (s : State) : Host.Outcome State Fault Refusal :=
  .next (serviceAmend mode body s)

/-- SERVICE_WITHDRAW (R19). -/
def execServiceWithdraw (mode : AddrMode) (key : Nat) (s : State) : Host.Outcome State Fault Refusal :=
  .next (serviceWithdraw mode key s)

/-- ATTENTION_EXPIRY (R20): the record of this key, in the last second of its attention, loses it and its previous
platform. -/
def execAttentionExpiry (key : Nat) (s : State) : Host.Outcome State Fault Refusal :=
  .next (s.setTable (s.table.map fun r => if r.key == key && r.attention == 1 then clearRecordAttention r else r))

/-- RETIREMENT (R21): the record of this key is removed when it meets the retirement condition. -/
def execRetirement (key : Nat) (s : State) : Host.Outcome State Fault Refusal :=
  .next (retireWhere (fun r => r.key == key && retires s.bank.params.grace s.time.second r) s)

end Sys2Proof.Machine
end

