-- ==== Sys2Proof/Machine/Node.lean ====
section
/-! DEFINITION. The node controller: node states and their transitions (chapter 11), resets, queries and controls
(10.4). -/

namespace Sys2Proof.Machine

/-! ### Transitions (R173 to R176) -/

/-- R173: a change of node state with its STATE CHANGED report; leaving RUNNING discards the trim window (R89). -/
def changeState (new : NodeState) (oldPosition : Option Nat) (s : State) : State :=
  let s1 := s.setNode { s.node with state := new }
  let s2 := if new = .running then s1 else s1.setTime { s1.time with window := none }
  queueReport
    (.stateChanged s.node.state new oldPosition s.chain.position (if new = .joining then some s.node.cause else none)) s2

/-- R95, R120, R175: the table emptied, the cues flushed and the line broken. -/
def flushNode (s : State) : State := lineBreak (flushCues (s.setTable []))

/-- R175: entry to ISOLATED. -/
def enterIsolated (s : State) : State := flushNode (changeState .isolated s.chain.position s)

/-- R176: entry to POSITION FAULT. -/
def enterPositionFault (oldPosition : Option Nat) (s : State) : State :=
  let s1 := changeState .positionFault oldPosition s
  flushNode
    (if s.node.state = .running ∨ s.node.state = .holdover then s1.setNode { s1.node with holdover := 0 } else s1)

/-- R174: entry to JOINING raises the set-pending flag. -/
def enterJoining (oldPosition : Option Nat) (s : State) : State :=
  changeState .joining oldPosition (s.setTime { s.time with setPending := true })

/-- R174: JOINING leads to RUNNING when the set-pending flag is lowered and a generation is active; the holdover count
is set to 0 as the node returns to RUNNING (R100). `held` is the position held before the frame or event that brought
it about (R173). -/
def completeJoining (held : Option Nat) (s : State) : State :=
  if s.node.state = .joining ∧ s.time.setPending = false ∧ s.store.generation ≠ 0 then
    changeState .running held (s.setNode { s.node with holdover := 0 })
  else s

/-- R173 to R175: link loss told to the node controller. -/
def nodeLinkLoss (s : State) : State :=
  match s.node.state with
  | .running => changeState .holdover s.chain.position (s.setNode { s.node with holdover := 0 })
  | .joining => changeState .awaitChain s.chain.position s
  | _ => s

/-- R158 step 2, R174 to R176: a valid frame told to the node controller, the position already taken. -/
def nodeFrame (oldPosition : Option Nat) (s : State) : State :=
  match s.node.state with
  | .awaitChain | .isolated => enterJoining oldPosition s
  | .positionFault => if s.chain.position.any fun p => decide (p ≤ 48) then enterJoining oldPosition s else s
  | .holdover => changeState .running oldPosition (s.setNode { s.node with holdover := 0 })
  | _ => s

/-! ### Resets (R178) -/

/-- R178: the effects of a chain reset and of a command reset on every block. -/
def resetNode (cause : ResetCause) (s : State) : State :=
  let s1 := resetLine ((s.setTable []).setCues { queue := [], nextId := 0 })
  let s2 := s1.setNode { state := .awaitChain, cause := cause, watch := [], reports := [], loss := false, holdover := 0 }
  let s3 := (s2.setOvr noOverride).setStore { s2.store with commit := none }
  let s4 := s3.setRows { s3.rows with lastSent := List.replicate 24 none }
  let s5 := s4.setTime { s4.time with synchronised := false, setPending := true, window := none, excursion := false }
  s5.setChain { s5.chain with grant := none, upSilence := 0, downSilence := 0 }

/-- R170, R173: JOINING and RUNNING take queries, controls, table messages and overrides. -/
def takesMessages (s : State) : Bool := s.node.state == .joining || s.node.state == .running

/-- R171, R178: the NODE CONTROL of kind RESET. -/
def commandReset (s : State) : State := if takesMessages s then resetNode .command s else s

/-! ### Holdover (R100) -/

/-- R100: the holdover count of a second tick, and the entry to ISOLATED at the limit. -/
def holdTick (s : State) : State :=
  if s.node.state = .holdover then
    let s1 := s.setNode { s.node with holdover := s.node.holdover + 1 }
    if s.bank.params.holdoverLimit ≤ s1.node.holdover then enterIsolated s1 else s1
  else s

/-- R100: the holdover count, in HOLDOVER, stands at the limit. -/
def reachHoldoverLimit (s : State) : State :=
  if s.node.state = .holdover then
    enterIsolated (s.setNode { s.node with holdover := max s.node.holdover s.bank.params.holdoverLimit })
  else s

/-! ### Queries (R170) -/

/-- R170: one ANSWER, queued whatever the addressing. -/
def queueAnswer (a : Answer) (s : State) : State := if takesMessages s then queueReport (.answer a) s else s

/-- R170: the STATE answer. -/
def stateAnswer (s : State) : Answer :=
  .state
    { state := s.node.state, position := s.chain.position, hopCount := s.chain.hopCount, chainEnd := s.chain.chainEnd
      generation := s.store.generation, commit := s.store.commit, day := s.time.day, second := s.time.second
      synchronised := s.time.synchronised, holdover := s.node.holdover, override := s.ovr
      nRecords := s.table.length, nCues := s.cues.queue.length }

/-- R170: the RECORD answer, with the record's order counted from 1. -/
def recordAnswer (key : Nat) (s : State) : Answer :=
  .record key ((s.findRecord key).map fun r => (r.summary, (s.table.findIdx fun x => x.key == key) + 1))

/-- R170: the CUES answer: the count, and up to 6 cues from the start id. -/
def cuesAnswer (start : Nat) (s : State) : Answer :=
  .cues s.cues.queue.length
    (((s.cues.queue.filter fun c => decide (start ≤ c.id)).take 6).map fun c =>
      { id := c.id, state := c.state, priority := c.priority, key := c.key })

/-- R170: the ZONES answer. -/
def zonesAnswer (s : State) : Answer :=
  .zones (s.line.zones.map fun z => { state := z.state, holding := z.holding, miss := z.miss, addr := z.addr })

/-! ### Controls (R171) -/

/-- R171, R20: CLEAR ATTENTION. -/
def clearAttention (mode : AddrMode) (key : Nat) (s : State) : State :=
  if takesMessages s then
    match s.findRecord key with
    | none => reportIfPosition mode (.notFound key) s
    | some _ => s.setTable (s.table.map fun r => if r.key == key then clearRecordAttention r else r)
  else s

/-- R171: the watch list with a key added at its newest end, the oldest leaving when 4 were held. -/
def addWatch (key : Nat) (w : List Nat) : List Nat :=
  if w.contains key then w
  else (if Config.maxWatched ≤ w.length then w.drop (w.length + 1 - Config.maxWatched) else w) ++ [key]

/-- R171: WATCH SET. -/
def watchSet (mode : AddrMode) (key : Nat) (s : State) : State :=
  if takesMessages s then
    if key = 0 then reportIfPosition mode (.badField 0x29 none) s
    else s.setNode { s.node with watch := addWatch key s.node.watch }
  else s

/-- R171: WATCH CLEAR. -/
def watchClear (s : State) : State := if takesMessages s then s.setNode { s.node with watch := [] } else s

/-- R160, R170: a message of unknown kind, or a query or control of unknown kind: BAD FIELD when position-addressed. -/
def unknownKind (mode : AddrMode) (kind : Nat) (s : State) : State :=
  if takesMessages s then reportIfPosition mode (.badField kind none) s else s

/-! ### The meanings -/

/-- POWER_ON (R173, R174): every block takes its power-on values; the level of the upstream line is not the node's. -/
def execPowerOn (s : State) : Host.Outcome State Fault Refusal :=
  .next
    (((State.reset.setPending s.pending).setFree s.free).setChain { State.reset.chain with upBreak := s.chain.upBreak })

/-- R174: POWER-UP ends in AWAIT CHAIN with reset cause POWER-ON; a break already running is measured and forwarded
from that moment (R162). -/
def powerUpEnd (s : State) : State :=
  if s.node.state = .powerUp then
    (s.setNode { s.node with state := .awaitChain, cause := .powerOn }).setChain
      { s.chain with downBreak := s.chain.upBreak, breakLength := 0 }
  else s

/-- POWER_UP_END (R174). -/
def execPowerUpEnd (s : State) : Host.Outcome State Fault Refusal := .next (powerUpEnd s)

/-- COMMAND_RESET (R178). -/
def execCommandReset (s : State) : Host.Outcome State Fault Refusal := .next (commandReset s)

/-- HOLDOVER_LIMIT (R100). -/
def execHoldoverLimit (s : State) : Host.Outcome State Fault Refusal := .next (reachHoldoverLimit s)

/-- QUERY_STATE (R170). -/
def execQueryState (s : State) : Host.Outcome State Fault Refusal := .next (queueAnswer (stateAnswer s) s)

/-- QUERY_RECORD (R170). -/
def execQueryRecord (key : Nat) (s : State) : Host.Outcome State Fault Refusal :=
  .next (queueAnswer (recordAnswer key s) s)

/-- QUERY_CUES (R170). -/
def execQueryCues (start : Nat) (s : State) : Host.Outcome State Fault Refusal :=
  .next (queueAnswer (cuesAnswer start s) s)

/-- QUERY_ZONES (R170). -/
def execQueryZones (s : State) : Host.Outcome State Fault Refusal := .next (queueAnswer (zonesAnswer s) s)

/-- QUERY_RESET_CAUSE (R170, R177). -/
def execQueryResetCause (s : State) : Host.Outcome State Fault Refusal :=
  .next (queueAnswer (.resetCause s.node.cause) s)

/-- QUERY_TRIM (R170, R88). -/
def execQueryTrim (s : State) : Host.Outcome State Fault Refusal :=
  .next (queueAnswer (.trim s.time.trimInt s.time.trimFrac s.time.excursion) s)

/-- CLEAR_ATTENTION (R171). -/
def execClearAttention (mode : AddrMode) (key : Nat) (s : State) : Host.Outcome State Fault Refusal :=
  .next (clearAttention mode key s)

/-- WATCH_SET (R171). -/
def execWatchSet (mode : AddrMode) (key : Nat) (s : State) : Host.Outcome State Fault Refusal :=
  .next (watchSet mode key s)

/-- WATCH_CLEAR (R171). -/
def execWatchClear (s : State) : Host.Outcome State Fault Refusal := .next (watchClear s)

/-- UNKNOWN_MESSAGE_KIND (R160). -/
def execUnknownMessageKind (mode : AddrMode) (kind : Nat) (s : State) : Host.Outcome State Fault Refusal :=
  .next (unknownKind mode kind s)

end Sys2Proof.Machine
end

