-- ==== Sys2Proof/Machine/Override.lean ====
section
/-! DEFINITION. Override control (chapter 8): the override context, OVERRIDE SET and OVERRIDE CLEAR. -/

namespace Sys2Proof.Machine

/-- R146: what makes an OVERRIDE SET malformed. -/
def overrideBad (b : OverrideBody) : Bool :=
  decide (b.level < 1) || decide (3 < b.level) || decide (7 < b.page) || decide (7 < b.floor) ||
    b.template.any fun t => decide (31 < t)

/-- R147: the context an accepted SET leaves. -/
def overrideOf (b : OverrideBody) : OverrideContext :=
  { level := b.level, boards := b.boards, page := b.page, floor := b.floor, template := b.template }

/-- R151: the line break of a level 3 entry; the cues that were on the line are dropped with reason STOPPED. -/
def stopLine (s : State) : State := dropCues Cue.onLine .stopped (lineBreak s)

/-- R147: an entry to an override: the context, then at level 3 the break, then in RUNNING the override cue (R150),
which is asked only where the message names a template. -/
def enterOverride (b : OverrideBody) (s : State) : State :=
  let s1 := s.setOvr (overrideOf b)
  requestCue .overrideCue 0 b.template none (if b.level = 3 then stopLine s1 else s1)

/-- R146: an OVERRIDE SET delivered to this node. -/
def overrideSet (mode : AddrMode) (b : OverrideBody) (s : State) : State :=
  if takesMessages s then
    if overrideBad b then reportIfPosition mode (.badField 0x18 none) s
    else if s.ovr.level ≤ b.level then enterOverride b s
    else queueReport (.overrideRefused .set b.level s.ovr.level) s
  else s

/-- R152: an OVERRIDE CLEAR delivered to this node. -/
def overrideClear (mode : AddrMode) (level : Nat) (s : State) : State :=
  if takesMessages s then
    if level < 1 ∨ 3 < level then reportIfPosition mode (.badField 0x19 none) s
    else if s.ovr.level ≤ level then s.setOvr noOverride
    else queueReport (.overrideRefused .clear level s.ovr.level) s
  else s

/-- OVERRIDE_SET (R146). -/
def execOverrideSet (mode : AddrMode) (body : OverrideBody) (s : State) : Host.Outcome State Fault Refusal :=
  .next (overrideSet mode body s)

/-- OVERRIDE_CLEAR (R152). -/
def execOverrideClear (mode : AddrMode) (level : Nat) (s : State) : Host.Outcome State Fault Refusal :=
  .next (overrideClear mode level s)

end Sys2Proof.Machine
end

