-- ==== Sys2Proof/Machine/Rows.lean ====
section
/-! DEFINITION. The row composer (chapter 4, with R145 and R148): composition of the 24 rows, the tile port, and
NOTICE SET. -/

namespace Sys2Proof.Machine

/-! ### Phases (R62 to R64) -/

/-- R62: the language phase of a board. -/
def languagePhase (s : State) (board : Nat) : Nat :=
  if s.time.synchronised then s.time.second / (s.bank.board board).period % (s.bank.board board).langCount else 0

/-- R64: the blink phase of an own cycle is lit. -/
def blinkLit (cycle : Nat) : Bool := decide (cycle / 16 % 2 = 0)

/-- R62, R78: the code of a phrase in a language, or the absent phrase code. -/
def phraseCode (phase : Nat) (p : Option Nat) : Nat :=
  match p with
  | none => Config.absentCode
  | some n => n + 1024 * phase

/-- The codes of a phrase list in a language. -/
def phraseCodes (phase : Nat) (ps : List Nat) : List Nat := ps.map fun p => phraseCode phase (some p)

/-! ### Rank rows (R59, R65 to R68) -/

/-- R59: the record a RANK k row of a board shows. -/
def rankRecord (t : List ServiceRecord) (board k : Nat) : Option ServiceRecord :=
  (t.filter fun r => r.boards.getLsbD board)[k - 1]?

/-- R65: the four code positions of the DEST field. -/
def destField (phase : Nat) (r : ServiceRecord) : List Nat :=
  (List.range 4).map fun i => phraseCode phase ((r.destination :: r.vias)[i]?)

/-- R65, R78: the PLAT byte: the platform, 0 for NONE, FFh while the blink is dark. -/
def platField (blink lit : Bool) (r : ServiceRecord) : Nat :=
  if 0 < r.attention ∧ blink = true ∧ lit = false then 255 else r.platform.getD 0

/-- R66: the EXPECT field. -/
def expectField (p : BoardParams) (ds phase sec : Nat) (r : ServiceRecord) : ExpectField :=
  match expectChoice p ds sec r with
  | .phrase q => .phrase (phraseCode phase q)
  | .number n => .number n
  | .time m => .time m

/-- R65 to R68: a rank row that shows a record. -/
def rankRow (s : State) (board : Nat) (r : ServiceRecord) : RowRecord :=
  .rank (civilMinute s.bank.params.dayStart r.sm) (destField (languagePhase s board) r)
    (platField (s.bank.board board).blink (blinkLit s.time.cycle) r)
    (expectField (s.bank.board board) s.bank.params.dayStart (languagePhase s board) s.time.second r)
    (phraseCode (languagePhase s board) r.notice) (s.node.state == .holdover) r.cancelled

/-! ### Clock and notice rows (R70, R72, R73) -/

/-- R72: the six digits of a CLOCK row; 10 is a dash, 11 a blank. -/
def clockDigits (s : State) : List Nat :=
  if s.time.synchronised then
    [s.time.clock.hourTens, s.time.clock.hourUnits, s.time.clock.minTens, s.time.clock.minUnits] ++
      (if s.node.state = .isolated ∨ s.node.state = .positionFault then [11, 11]
       else [s.time.clock.secTens, s.time.clock.secUnits])
  else [10, 10, 10, 10, 10, 10]

/-- R72: a CLOCK row. -/
def clockRow (s : State) : RowRecord := .clock (clockDigits s) (s.node.state == .holdover)

/-- R70, R73: the phrases of a NOTICE row of a board. -/
def noticePhrases (s : State) (board : Nat) : List Nat :=
  if s.node.state = .isolated ∨ s.node.state = .positionFault then (s.bank.board board).isolationPhrase.toList
  else s.rows.standing.getD board []

/-! ### Rows and pages (R58, R71, R73, R74, R148) -/

/-- R58: the row map entry of row `n`, counted from 1. -/
def Bank.row (b : Bank) (n : Nat) : RowEntry := b.rowMap.getD (n - 1) emptyRow

/-- R73: the normal content of a row, the record it would show without an override. -/
def normalRow (s : State) (e : RowEntry) : RowRecord :=
  match e.role with
  | .rank k => match rankRecord s.table e.board k with
    | none => .blank
    | some r => rankRow s e.board r
  | .notice => .text (phraseCodes (languagePhase s e.board) (noticePhrases s e.board))
  | .clock => clockRow s
  | .fixed p => .text [phraseCode (languagePhase s e.board) (some p)]
  | .blank => .blank

/-- R148: whether an entry is an in-use row of a board that is no CLOCK row. -/
def RowEntry.pairs (board : Nat) (e : RowEntry) : Bool := e.inUse && e.board == board && e.role != .clock

/-- R148: how many non-CLOCK rows of a board stand before row `n`. -/
def pairIndex (b : Bank) (board n : Nat) : Nat :=
  ((b.rowMap.take (n - 1)).filter (RowEntry.pairs board)).length

/-- R145: the rows the active bank's page holds for a board. -/
def Bank.page (b : Bank) (page board : Nat) : PageEntry := b.pages.getD (page * 4 + board) emptyPage

/-- R145: page row `i` of an entry, counted from 0. -/
def PageEntry.row (p : PageEntry) (i : Nat) : Option (List Nat) :=
  if i < p.rowCount then (p.rows[i]?).map fun r => r.phrases.take r.count else none

/-- R148: the override content of a non-CLOCK row. -/
def pageRow (s : State) (n : Nat) (e : RowEntry) : RowRecord :=
  match (s.bank.page s.ovr.page e.board).row (pairIndex s.bank e.board n) with
  | none => .blank
  | some ps => .text (phraseCodes (languagePhase s e.board) ps)

/-- R74: a board is under override. -/
def underOverride (s : State) (board : Nat) : Bool := s.ovr.level != 0 && s.ovr.boards.getLsbD board

/-- R58, R73: the normal content of row `n`, composed whether or not its board is under override (R74). -/
def normalContent (s : State) (n : Nat) : RowRecord :=
  if (s.bank.row n).inUse then normalRow s (s.bank.row n) else .blank

/-- R74: row `n` shows its board's override page. -/
def showsPage (s : State) (n : Nat) : Bool :=
  (s.bank.row n).inUse && (s.bank.row n).role != .clock && underOverride s (s.bank.row n).board

/-- R58, R73, R74: the output record of row `n`. -/
def composeRow (s : State) (n : Nat) : RowRecord :=
  if showsPage s n then pageRow s n (s.bank.row n) else normalContent s n

/-! ### Composition and the tile port (R61, R75 to R77) -/

/-- The 24 rows with their numbers. -/
def composedRows (s : State) : List (Nat × RowRecord) := (List.range 24).map fun i => (i + 1, composeRow s (i + 1))

/-- R75: a row differs from its last-sent record. -/
def differs (s : State) (row : Nat × RowRecord) : Bool := s.rows.lastSent.getD (row.1 - 1) none != some row.2

/-- R77: the full send is made: in own cycle 32, and, DEDUCED (assumption 35), at the first composition after the numbering
was set back to exactly 32. -/
def fullSend (s : State) : Bool := s.time.cycle == 32 || s.rows.fullDue

/-- R76, R77: the rows sent: those that differ, or all 24 in a full send. -/
def sentRows (s : State) : List (Nat × RowRecord) :=
  if fullSend s then composedRows s else (composedRows s).filter (differs s)

/-- R61, R74 to R77: one composition. Each record sent becomes its row's last-sent record, and a record not sent
equals it. The normal content of every row is composed and held as well. -/
def compose (s : State) : State :=
  if s.node.state = .powerUp then s
  else
    (s.setPorts { s.ports with tile := (sentRows s).map fun row => row.2.bytes row.1 }).setRows
      { s.rows with
        lastSent := (composedRows s).map fun row => some row.2
        normal := (List.range 24).map fun i => normalContent s (i + 1)
        phases := (List.range 4).map (languagePhase s)
        blinkLit := blinkLit s.time.cycle
        fullDue := false }

/-! ### NOTICE SET (R69) -/

/-- R69: what makes a NOTICE SET refused. -/
def noticeBad (b : NoticeBody) : Bool :=
  b.boards == 0#4 || decide (8 < b.phrases.length) || b.phrases.any fun p => decide (1023 < p)

/-- R69: a NOTICE SET delivered to this node. -/
def noticeSet (mode : AddrMode) (b : NoticeBody) (s : State) : State :=
  if s.node.state = .running then
    if noticeBad b then reportIfPosition mode (.badField 0x08 none) s
    else
      s.setRows
        { s.rows with
          standing := (List.range 4).map fun i => if b.boards.getLsbD i then b.phrases else s.rows.standing.getD i [] }
  else s

/-- NOTICE_SET (R69). -/
def execNoticeSet (mode : AddrMode) (body : NoticeBody) (s : State) : Host.Outcome State Fault Refusal :=
  .next (noticeSet mode body s)

end Sys2Proof.Machine
end

