-- ==== Sys2Proof/Machine/TimeBase.lean ====
section
/-! DEFINITION. The time base and the wall clock (chapter 5): the own cycle generator, the clock, trim, time marks and
the works of a second tick. -/

namespace Sys2Proof.Machine

/-! ### The own cycle generator (R80) -/

/-- R80: the sum of the accumulator and the trim fraction at a cycle start. -/
def TimeBase.fractionSum (t : TimeBase) : Nat := t.accumulator + t.trimFrac

/-- R80: a new own cycle: the number advances mod 64, the tick count restarts, the accumulator steps and gives the
cycle its length. -/
def TimeBase.nextCycle (frameStarts : Nat) (t : TimeBase) : TimeBase :=
  { t with
    tickCount := 0
    cycle := (t.cycle + 1) % 64
    accumulator := if 16 ≤ t.fractionSum then t.fractionSum - 16 else t.fractionSum
    cycleLength := if 16 ≤ t.fractionSum then t.trimInt + 1 else t.trimInt
    frameStarts := frameStarts }

/-! ### The clock (R84, R85) -/

/-- R85: the hours of the BCD clock, rolling from 23 to 00. -/
def BcdClock.nextHour (c : BcdClock) : BcdClock :=
  if c.hourTens = 2 ∧ c.hourUnits = 3 then { c with hourTens := 0, hourUnits := 0 }
  else if c.hourUnits < 9 then { c with hourUnits := c.hourUnits + 1 }
  else { c with hourUnits := 0, hourTens := c.hourTens + 1 }

/-- R85: the minutes of the BCD clock, carrying into the hours. -/
def BcdClock.nextMinute (c : BcdClock) : BcdClock :=
  if c.minUnits < 9 then { c with minUnits := c.minUnits + 1 }
  else if c.minTens < 5 then { c with minUnits := 0, minTens := c.minTens + 1 }
  else BcdClock.nextHour { c with minUnits := 0, minTens := 0 }

/-- R85: the BCD clock advanced by one second, digit by digit. -/
def BcdClock.nextSecond (c : BcdClock) : BcdClock :=
  if c.secUnits < 9 then { c with secUnits := c.secUnits + 1 }
  else if c.secTens < 5 then { c with secUnits := 0, secTens := c.secTens + 1 }
  else BcdClock.nextMinute { c with secUnits := 0, secTens := 0 }

/-- R86: the tick at this service second is the day turn. -/
def TimeBase.turnsDay (t : TimeBase) : Bool := t.second == 86399

/-- R85, R86: the clock, the service second and, at the day turn, the day number of a second tick. -/
def TimeBase.tickSecond (t : TimeBase) : TimeBase :=
  { t with
    clock := t.clock.nextSecond
    second := if t.turnsDay then 0 else t.second + 1
    day := if t.turnsDay then (t.day + 1) % 65536 else t.day }

/-- R92, R94: the clock set to a day and second under the active day start. -/
def setClock (day sec : Nat) (s : State) : State :=
  s.setTime
    { s.time with
      second := sec, day := day, clock := civilClock s.bank.params.dayStart sec, synchronised := true
      setPending := false }

/-! ### The works of a second tick (R54, R83, R100) -/

/-- The works that may fall at one own cycle start. `age` is the service list unit's before retirement, with the day turn
or without; `originate` says whether the node was chain end when the cycle began. -/
inductive CycleWork where
  | age (dayTurn : Bool)
  | retire
  | rules
  | scheduler
  | hold
  | switch
  | upSilence
  | downSilence
  | line
  | trim
  | originate (chainEnd : Bool)
  | compose
  deriving DecidableEq, Repr

/-- R83: the service list unit before the rule evaluator, the cue scheduler in a free place, and the holdover count with
the entry to ISOLATED after them (R100). -/
def tickOrder (n : Nat) (dayTurn : Bool) : List CycleWork :=
  (weave (Config.freeOrder n 0) [.scheduler] [[.age dayTurn, .retire], [.rules]]).flatten ++ [.hold]

/-- One block's work of a second tick. -/
def tickWork (w : CycleWork) (s : State) : State :=
  match w with
  | .age dayTurn => ageTable dayTurn s
  | .retire => retireRecords s
  | .rules => evaluateAll s
  | .scheduler => schedulerTests s
  | .hold => holdTick s
  | _ => s

/-- R83, R85, R86: the time base's own part of a second tick: its clock, and at the day turn the lowering of every cue
held before the tick (R116). -/
def advanceSecond (s : State) : State :=
  let s1 := s.setTime s.time.tickSecond
  if s.time.turnsDay then lowerCues s1 else s1

/-- R83: a second tick that falls at no cycle start, or is taken as an event of its own. DESIGN CHOICE (assumption 1):
commanded alone it does the works of the tick and leaves the own cycle number, whose fall R83 makes the tick of, as it
is. -/
def secondTick (s : State) : State :=
  (tickOrder s.free s.time.turnsDay).foldl (fun st w => tickWork w st) (countFree (advanceSecond s))

/-! ### Trim (R88 to R90) -/

/-- R90: the difference of a trim integer from nominal is within the limit. -/
def trimAccepted (i : Nat) : Bool :=
  decide (Config.nominalCycle ≤ i + Config.trimLimit) && decide (i ≤ Config.nominalCycle + Config.trimLimit)

/-- R90: a window closes with T16 ticks: the trim is replaced, or held with the excursion flag set and one REFERENCE
FAULT for the excursion. -/
def closeTrim (t16 : Nat) (s : State) : State :=
  if trimAccepted (t16 / 16) then
    s.setTime { s.time with trimInt := t16 / 16, trimFrac := t16 % 16, excursion := false }
  else if s.time.excursion then s
  else queueReport (.referenceFault (t16 / 16) (t16 % 16)) (s.setTime { s.time with excursion := true })

/-- R89: a window opens at a frame start of an own cycle numbered 0, 16, 32 or 48, in RUNNING. -/
def openTrim (s : State) : State :=
  if s.time.cycle % 16 = 0 ∧ s.node.state = .running then
    s.setTime { s.time with window := some { cycles := 0, ticks := 0 } }
  else s

/-- R89: the trim window at a frame start that has just been counted: it closes at the sixteenth own cycle after its own
and opens the next, or goes on; with none in progress one may open. -/
def trimAtFrameStart (s : State) : State :=
  match s.time.window with
  | none => openTrim s
  | some w =>
    if 16 ≤ w.cycles then
      let s1 := closeTrim w.ticks s
      s1.setTime { s1.time with window := some { cycles := 0, ticks := 0 } }
    else s

/-- R89: the window at the start of a new own cycle: a cycle that ended without a frame start discards it; otherwise the
ticks of the interval are counted. -/
def TimeBase.windowNextCycle (ticks : Nat) (t : TimeBase) : Option TrimWindow :=
  if t.frameStarts = 0 then none
  else t.window.map fun w => { cycles := w.cycles + 1, ticks := w.ticks + ticks }

/-! ### Time marks (R91 to R98) -/

/-- R93: the day difference, read as a signed number within −32768…32767. -/
def dayDifference (day newDay : Nat) : Int :=
  if (newDay + 65536 - day) % 65536 < 32768 then ((newDay + 65536 - day) % 65536 : Nat)
  else (((newDay + 65536 - day) % 65536 : Nat) : Int) - 65536

/-- R93: the step of a mark. -/
def markStep (t : TimeBase) (newDay newSec : Nat) : Int :=
  dayDifference t.day newDay * 86400 + (newSec : Int) - (t.second : Int)

/-- R93: the five classes. -/
inductive MarkClass where
  | none | dateJump | setBack | shortStep | longStep
  deriving DecidableEq, Repr

/-- R93: the class of a mark, by the first line of the table that holds. -/
def classifyMark (t : TimeBase) (newDay newSec : Nat) : MarkClass :=
  if markStep t newDay newSec = 0 then .none
  else if dayDifference t.day newDay < 0 ∨ 86400 < markStep t newDay newSec then .dateJump
  else if markStep t newDay newSec < 0 then .setBack
  else if markStep t newDay newSec ≤ 300 then .shortStep
  else .longStep

/-- R95: a DATE JUMP. -/
def dateJump (newDay newSec : Nat) (s : State) : State :=
  flushNode (queueReport (.dateJump s.time.day s.time.second newDay newSec) (setClock newDay newSec s))

/-- R94, R96: a SET BACK. -/
def setBack (newDay newSec : Nat) (s : State) : State :=
  evaluateAll
    (clearHolds (queueReport (.clockStep .setBack (markStep s.time newDay newSec)) (setClock newDay newSec s)))

/-- R94, R97, R98: a SHORT STEP or LONG STEP: the report, the day turn where the step crosses one, the scheduler, the new
second, retirement, and the rules. -/
def forwardStep (cls : StepClass) (newDay newSec : Nat) (s : State) : State :=
  let crosses := decide (dayDifference s.time.day newDay = 1)
  let s1 := queueReport (.clockStep cls (markStep s.time newDay newSec)) s
  let s2 := if crosses then turnTable s1 else s1
  let s3 :=
    schedulerStep cls (s.time.second : Int) (if crosses then (newSec : Int) + 86400 else (newSec : Int)) crosses s2
  evaluateAll (retireRecords (setClock newDay newSec s3))

/-- R91 to R98: a time mark handed to the time base. `held` is the position held before its frame (R173). -/
def takeMark (held : Option Nat) (newDay newSec : Nat) (s : State) : State :=
  if takesMessages s ∧ newSec ≤ 86399 then
    if s.time.setPending then completeJoining held (setClock newDay newSec s)
    else
      match classifyMark s.time newDay newSec with
      | .none => s
      | .dateJump => dateJump newDay newSec s
      | .setBack => setBack newDay newSec s
      | .shortStep => forwardStep .shortStep newDay newSec s
      | .longStep => forwardStep .longStep newDay newSec s
  else s

/-- R82: the cycle number of a header. A correction discards the trim window (R89), and one to a lower number makes a
second tick (R83). It starts no cycle, so it makes no composition; DEDUCED (assumption 35), a number set back to exactly 32
makes the next composition a full send (R77), since the cycle actions read the number from the next start onward (R82). -/
def correctCycle (n : Nat) (s : State) : State :=
  if n = s.time.cycle then s
  else
    let s1 :=
      (s.setTime { s.time with cycle := n, window := none }).setRows
        { s.rows with fullDue := n == 32 && decide (n < s.time.cycle) }
    if n < s.time.cycle then secondTick s1 else s1

/-! ### The meanings -/

/-- SECOND_TICK (R83). -/
def execSecondTick (s : State) : Host.Outcome State Fault Refusal := .next (secondTick s)

/-- R86, R22, R116: the day turn as an event of its own: S passes from 86399 to 0 with the clock, the day number rises,
the cues are lowered and the table is turned. -/
def dayTurn (s : State) : State := if s.time.turnsDay then turnTable (advanceSecond s) else s

/-- DAY_TURN (R86). -/
def execDayTurn (s : State) : Host.Outcome State Fault Refusal := .next (dayTurn s)

/-- R89, R90: the window in progress closes with the ticks measured, and the next opens. -/
def windowCloses (t16 : Nat) (s : State) : State :=
  if s.time.window.isSome then
    let s1 := closeTrim t16 s
    s1.setTime { s1.time with window := some { cycles := 0, ticks := 0 } }
  else s

/-- TRIM_WINDOW_CLOSE (R90). -/
def execTrimWindowClose (ticks : Nat) (s : State) : Host.Outcome State Fault Refusal := .next (windowCloses ticks s)

end Sys2Proof.Machine
end

