-- ==== Sys2Proof/Machine/Tables.lean ====
section
/-! DEFINITION. The configuration store (chapter 10): TABLE WRITE, TABLE COPY, TABLE COMMIT and the bank switch. -/

namespace Sys2Proof.Machine

/-! ### The bank switch (R169) -/

/-- R87: the clock set anew when the day start has changed. -/
def setDayStart (oldStart : Nat) (s : State) : State :=
  if s.bank.params.dayStart = oldStart then s
  else s.setTime { s.time with clock := civilClock s.bank.params.dayStart s.time.second }

/-- R169, steps 1 and 2: the banks exchange roles and the active generation takes the commit's. -/
def exchangeBanks (gen : Nat) (s : State) : State :=
  s.setStore { s.store with active := s.store.shadow, shadow := s.store.active, generation := gen, commit := none }

/-- R169: a switch that passes validation, up to COMMIT DONE and the entry to RUNNING it may bring; `held` is the position
held before the frame or event that brought the switch (R173). -/
def acceptSwitch (held : Option Nat) (gen : Nat) (s : State) : State :=
  let s1 := reselectAll (exchangeBanks gen s)
  let s2 := setDayStart s.bank.params.dayStart (compareZones (rebaseline s1))
  completeJoining held (queueReport (.commitDone gen (s.table.length - s1.table.length)) s2)

/-- R169: a refused switch. -/
def refuseSwitch (gen table index : Nat) (s : State) : State :=
  queueReport (.commitRefused gen table index) (s.setStore { s.store with commit := none })

/-- R169: the switch of a commit of generation `gen`; no commit is left pending. -/
def switchBank (held : Option Nat) (gen : Nat) (s : State) : State :=
  match s.store.shadow.firstInvalid with
  | some (table, index) => refuseSwitch gen table index s
  | none => acceptSwitch held gen s

/-- R168: the pending commit is switched at a cycle start whose number it names, in every state but POWER-UP. -/
def switchAtCycle (s : State) : State :=
  match s.store.commit with
  | none => s
  | some c => if s.node.state ≠ .powerUp ∧ c.cycle = s.time.cycle then switchBank s.chain.position c.generation s else s

/-! ### Messages (R167, R168) -/

/-- R167: a TABLE WRITE delivered to this node. -/
def tableWrite (mode : AddrMode) (table index : Nat) (entry : List Byte) (s : State) : State :=
  if takesMessages s then
    if 8 < table ∨ tableEntries.getD table 0 ≤ index then queueReport (.badIndex table index) s
    else if entry.length ≠ entryLengths.getD table 0 then reportIfPosition mode (.badField 0x20 none) s
    else s.setStore { s.store with shadow := s.store.shadow.writeEntry table index entry }
  else s

/-- R167: a TABLE COPY delivered to this node. -/
def tableCopy (s : State) : State :=
  if takesMessages s then s.setStore { s.store with shadow := s.store.active } else s

/-- R168: COMMIT SUPERSEDED for the commit that a new one replaces. -/
def supersede (s : State) : State :=
  match s.store.commit with
  | none => s
  | some c => queueReport (.commitSuperseded c.generation) (s.setStore { s.store with commit := none })

/-- R168: a TABLE COMMIT delivered to this node; switch cycle 255 is NOW. `held` is the position held before the frame that
carries it (R173). -/
def tableCommit (held : Option Nat) (mode : AddrMode) (gen cycle : Nat) (s : State) : State :=
  if takesMessages s then
    if gen < 1 ∨ 255 < gen ∨ (63 < cycle ∧ cycle ≠ 255) then reportIfPosition mode (.badField 0x22 none) s
    else if cycle = 255 then switchBank held gen (supersede s)
    else
      let s1 := supersede s
      s1.setStore { s1.store with commit := some { generation := gen, cycle := cycle } }
  else s

/-! ### The meanings -/

/-- BANK_SWITCH (R169): the pending commit reaches its switch. -/
def bankSwitch (s : State) : State :=
  match s.store.commit with
  | none => s
  | some c => if s.node.state ≠ .powerUp then switchBank s.chain.position c.generation s else s

/-- BANK_SWITCH (R169). -/
def execBankSwitch (s : State) : Host.Outcome State Fault Refusal := .next (bankSwitch s)

/-- TABLE_WRITE (R167). -/
def execTableWrite (mode : AddrMode) (table index : Nat) (entry : List Byte) (s : State) : Host.Outcome State Fault Refusal :=
  .next (tableWrite mode table index entry s)

/-- TABLE_COPY (R167); no form of it is refused, so the addressing plays no part. -/
def execTableCopy (_mode : AddrMode) (s : State) : Host.Outcome State Fault Refusal := .next (tableCopy s)

/-- TABLE_COMMIT (R168). -/
def execTableCommit (mode : AddrMode) (generation cycle : Nat) (s : State) : Host.Outcome State Fault Refusal :=
  .next (tableCommit s.chain.position mode generation cycle s)

end Sys2Proof.Machine
end

