-- ==== Sys2Proof/Machine/Chain.lean ====
section
/-! DEFINITION. The chain interface (chapter 9): link loss and break, the upstream report frame, the own cycle start that
the generator and the frame starts make, and the taking of a frame. -/

namespace Sys2Proof.Machine

/-! ### Link loss, downstream silence and break (R161 to R163) -/

/-- R161: link loss: the grant becomes none and the node controller is told. -/
def tellLinkLoss (s : State) : State := nodeLinkLoss (s.setChain { s.chain with grant := none, upSilence := 3 })

/-- R161: an own cycle boundary raises the upstream silence count; link loss is told once, at 3. -/
def raiseUpSilence (s : State) : State :=
  if s.node.state = .powerUp ∨ 3 ≤ s.chain.upSilence then s
  else if s.chain.upSilence = 2 then tellLinkLoss s
  else s.setChain { s.chain with upSilence := s.chain.upSilence + 1 }

/-- R163: the downstream silence count reaches 3: with a partner seen the node becomes chain end. -/
def loseDownstream (s : State) : State :=
  if s.chain.partnerSeen then
    queueReport (.downstreamLost s.chain.position)
      (s.setChain { s.chain with downSilence := 3, partnerSeen := false, chainEnd := true })
  else s.setChain { s.chain with downSilence := 3 }

/-- R163: an own cycle boundary raises the downstream silence count. -/
def raiseDownSilence (s : State) : State :=
  if s.node.state = .powerUp ∨ 3 ≤ s.chain.downSilence then s
  else if s.chain.downSilence = 2 then loseDownstream s
  else s.setChain { s.chain with downSilence := s.chain.downSilence + 1 }

/-- R162: the break length reaches 1 500 000 ticks: a chain reset, in any state but POWER-UP. -/
def breakReset (s : State) : State :=
  if s.node.state ≠ .powerUp ∧ s.chain.upBreak = true ∧ s.chain.breakLength < Config.resetBreakTicks then
    resetNode .chainBreak (s.setChain { s.chain with breakLength := Config.resetBreakTicks })
  else s

/-- R162: the upstream line enters the break state; outside POWER-UP it is measured and passed on. -/
def enterBreak (s : State) : State :=
  if s.chain.upBreak then s
  else s.setChain { s.chain with upBreak := true, breakLength := 0, downBreak := s.node.state != .powerUp }

/-- R162: the upstream line leaves the break state. -/
def leaveBreak (s : State) : State :=
  s.setChain { s.chain with upBreak := false, breakLength := 0, downBreak := false }

/-! ### The upstream report frame (R163 to R165) -/

/-- R164: the report a passing frame takes, its slot and the node's position, when all conditions hold. -/
def placement (body : List Byte) (s : State) : Option (Nat × Report × Nat) :=
  if s.node.state = .powerUp ∨ s.node.state = .positionFault then none
  else
    match s.chain.position, s.node.reports with
    | some p, r :: _ =>
      if 1 ≤ p ∧ p ≤ 48 then
        (chooseSlot (s.chain.grant == some p) body).map fun n => (p, r, n)
      else none
    | _, _ => none

/-- R164: the body of a passing frame with this node's report in it. -/
def placedBody (body : List Byte) (s : State) : List Byte :=
  match placement body s with
  | none => body
  | some (p, r, n) => fillSlot body n (slotBytes p s.node.loss r)

/-- R164, R172: a report placed leaves the queue at once and takes the loss flag with it. -/
def dequeuePlaced (body : List Byte) (s : State) : State :=
  match placement body s with
  | none => s
  | some _ => s.setNode { s.node with reports := s.node.reports.drop 1, loss := false }

/-- R163, R165: an upstream frame sent, its check worked out anew, or complemented where `good` is clear. -/
def sendUpstream (good : Bool) (body : List Byte) (upLeft : Nat) (s : State) : State :=
  (dequeuePlaced body s).setPorts
    { s.ports with
      up :=
        placedBody body s ++
          toBytes32 (if good then crc32 (placedBody body s) else crc32 (placedBody body s) ^^^ 0xFFFFFFFF)
      upLeft := upLeft }

/-- R163: the chain end originates a report frame with 4 empty slots. -/
def originateFrame (s : State) : State :=
  if s.node.state = .powerUp then s
  else sendUpstream true (emptyReportBody s.time.cycle) (Config.reportFrameBytes * Config.chainByteTicks) s

/-- R165: the check of an arriving upstream frame passes and its length matches 4 slots. -/
def upstreamGood (bs : List Byte) : Bool :=
  bs.length == Config.reportFrameBytes && carriedCheck bs == crc32 (bs.take (bs.length - 4))

/-- R165: what of an arriving upstream frame is passed on before the check this node sends: all but its last four bytes, its
check. DESIGN CHOICE (assumption 18): a frame of fewer than 4 bytes has no check, so every byte of it is passed on as it
came and the failing check follows. -/
def upstreamBody (bs : List Byte) : List Byte := if bs.length < 4 then bs else bs.take (bs.length - 4)

/-- R164, R165: an upstream frame passes through the node. -/
def upstreamFrame (bs : List Byte) (s : State) : State :=
  if s.node.state = .powerUp then s
  else sendUpstream (upstreamGood bs) (upstreamBody bs) s.ports.upLeft s

/-- R163: how much of a frame this node originates has been sent when `left` ticks of it remain. -/
def sentBytes (left : Nat) : Nat :=
  (Config.reportFrameBytes * Config.chainByteTicks - left) / Config.chainByteTicks

/-- R163: an upstream frame start from downstream. -/
def upstreamStart (s : State) : State :=
  if s.node.state = .powerUp then s
  else if s.chain.chainEnd then
    (s.setChain { s.chain with downSilence := 0, chainEnd := false, partnerSeen := true }).setPorts
      (if s.ports.upLeft = 0 then s.ports
       else { s.ports with up := s.ports.up.take (sentBytes s.ports.upLeft), upLeft := 0 })
  else s.setChain { s.chain with downSilence := 0 }

/-! ### The own cycle start (R80, R81) -/

/-- One work of an own cycle start. -/
def doWork (w : CycleWork) (s : State) : State :=
  match w with
  | .age dayTurn => ageTable dayTurn s
  | .retire => retireRecords s
  | .rules => evaluateAll s
  | .scheduler => schedulerTests s
  | .hold => holdTick s
  | .switch => switchAtCycle s
  | .upSilence => raiseUpSilence s
  | .downSilence => raiseDownSilence s
  | .line => if s.node.state = .powerUp then s else lineCycle s
  | .trim => trimAtFrameStart s
  | .originate chainEnd => if chainEnd then originateFrame s else s
  | .compose => compose s

/-- The works of an own cycle start that the spec orders: a second tick's (R54, R83), then the switch of a pending
commit (R168). -/
def orderedWorks (n : Nat) (tick dayTurn : Bool) : List CycleWork :=
  (if tick then tickOrder n dayTurn else []) ++ [.switch]

/-- The works whose place among the others is free: those of a boundary, or those of a frame start. -/
def looseWorks (boundary chainEnd : Bool) : List CycleWork :=
  [.line, .originate chainEnd] ++ (if boundary then [.upSilence, .downSilence] else [.trim])

/-- Each loose work put at a free place (assumption 3). -/
def weaveAll (n : Nat) : Nat → List CycleWork → List CycleWork → List CycleWork
  | _, [], l => l
  | i, w :: ws, l => weaveAll n (i + 1) ws (weave (Config.freeOrder n i) w l)

/-- R61: the composition put at a free place. DEDUCED (assumption 36): never before the table's day turn, since S is 0 by then
and every block that reads a record's remaining seconds in one second reads the same value (R29, R40). -/
def weaveComposition (k : Nat) (l : List CycleWork) : List CycleWork :=
  if l.contains (.age true) then
    l.takeWhile (fun w => w != .age true) ++
      .age true :: weave k .compose ((l.dropWhile fun w => w != .age true).drop 1)
  else weave k .compose l

/-- The works of an own cycle start in the order they are taken. -/
def cycleWorks (n : Nat) (tick dayTurn boundary chainEnd : Bool) : List CycleWork :=
  weaveComposition (Config.freeOrder n 5) (weaveAll n 1 (looseWorks boundary chainEnd) (orderedWorks n tick dayTurn))

/-- R80, R81: the generator at an own cycle start. -/
def generatorStart (boundary : Bool) (s : State) : State :=
  s.setTime
    { s.time.nextCycle (if boundary then 0 else 1) with
      window := s.time.windowNextCycle (if boundary then s.time.cycleLength else s.time.tickCount) }

/-- R80, R81, R83: an own cycle start, at a boundary or at a frame start that does not merge. The number's fall from 63
to 0 is a second tick, whose clock stands before every work of the start (R61). -/
def startCycle (boundary : Bool) (s : State) : State :=
  let s1 := generatorStart boundary s
  let tick := decide (s1.time.cycle < s.time.cycle)
  (cycleWorks s.free tick s.time.turnsDay boundary s.chain.chainEnd).foldl (fun st w => doWork w st)
    (countFree (if tick then advanceSecond s1 else s1))

/-- R81: a frame start that merges into the current own cycle. A second frame start of one cycle discards the trim window
and opens none (R89; assumption 16). -/
def mergeFrameStart (s : State) : State :=
  if s.time.frameStarts ≠ 0 then
    s.setTime { s.time with tickCount := 0, frameStarts := s.time.frameStarts + 1, window := none }
  else
    trimAtFrameStart
      (s.setTime
        { s.time with
          tickCount := 0
          frameStarts := s.time.frameStarts + 1
          window := s.time.window.map fun w => { cycles := w.cycles, ticks := w.ticks + s.time.tickCount } })

/-- R81, R161: a start delimiter on the upstream port; none arrives during a break (R162). -/
def frameStart (s : State) : State :=
  if s.chain.upBreak then s
  else
    let s1 := s.setChain { s.chain with upSilence := 0 }
    if s.time.tickCount < Config.mergeTicks then mergeFrameStart s1 else startCycle false s1

/-! ### Messages (R160, 9.7) -/

/-- R160: how a message is addressed to this node, or `none` where it is not. -/
def addressMode (s : State) (address : Nat) : Option AddrMode :=
  if address / 64 = 0 then
    if 1 ≤ address % 64 ∧ address % 64 ≤ 48 ∧ s.chain.position = some (address % 64) then some .position else none
  else if address / 64 = 1 then
    if address % 64 ≤ 7 ∧ s.bank.params.groupMask.getLsbD (address % 64) = true then some .group else none
  else if address / 64 = 2 then some .all
  else none

/-- R160: a body whose length does not agree with its kind's layout, in a state in which the owner takes the message. -/
def lengthRefused (takes : Bool) (mode : AddrMode) (kind : Nat) (key : Option Nat) (s : State) : State :=
  if takes then reportIfPosition mode (.badField kind key) s else s

/-- The service key in the first two bytes of a body, where the body has them. -/
def bodyKey (bs : List Byte) : Option Nat := if 2 ≤ bs.length then some (u16At bs 0) else none

/-- R170: a NODE QUERY from its body. -/
def deliverQuery (mode : AddrMode) (bs : List Byte) (s : State) : State :=
  match byteAt bs 0, bs.length with
  | 0, 1 => queueAnswer (stateAnswer s) s
  | 1, 3 => queueAnswer (recordAnswer (u16At bs 1) s) s
  | 2, 2 => queueAnswer (cuesAnswer (byteAt bs 1) s) s
  | 3, 1 => queueAnswer (zonesAnswer s) s
  | 4, 1 => queueAnswer (.resetCause s.node.cause) s
  | 5, 1 => queueAnswer (.trim s.time.trimInt s.time.trimFrac s.time.excursion) s
  | _, _ => lengthRefused (takesMessages s) mode 0x28 none s

/-- R171: a NODE CONTROL from its body. -/
def deliverControl (mode : AddrMode) (bs : List Byte) (s : State) : State :=
  match byteAt bs 0, bs.length with
  | 0, 1 => commandReset s
  | 1, 3 => clearAttention mode (u16At bs 1) s
  | 2, 3 => watchSet mode (u16At bs 1) s
  | 3, 1 => watchClear s
  | _, _ => lengthRefused (takesMessages s) mode 0x29 none s

/-- R160: a message handed to the owner of its kind; `held` is the position held before its frame (R173). -/
def deliver (held : Option Nat) (mode : AddrMode) (kind : Nat) (bs : List Byte) (s : State) : State :=
  let running := s.node.state == .running
  match kind with
  | 0x01 => match parsePost bs with
    | some b => servicePost mode b s
    | none => lengthRefused running mode kind (bodyKey bs) s
  | 0x02 => match parseAmend bs with
    | some b => serviceAmend mode b s
    | none => lengthRefused running mode kind (bodyKey bs) s
  | 0x03 =>
    if bs.length = 2 then serviceWithdraw mode (u16At bs 0) s else lengthRefused running mode kind (bodyKey bs) s
  | 0x08 => match parseNotice bs with
    | some b => noticeSet mode b s
    | none => lengthRefused running mode kind none s
  | 0x10 => match parseCuePost bs with
    | some b => cuePost mode b s
    | none => lengthRefused running mode kind none s
  | 0x18 => match parseOverride bs with
    | some b => overrideSet mode b s
    | none => lengthRefused (takesMessages s) mode kind none s
  | 0x19 =>
    if bs.length = 1 then overrideClear mode (byteAt bs 0) s
    else lengthRefused (takesMessages s) mode kind none s
  | 0x20 =>
    if 2 ≤ bs.length then tableWrite mode (byteAt bs 0) (byteAt bs 1) (bs.drop 2) s
    else lengthRefused (takesMessages s) mode kind none s
  | 0x21 => if bs.length = 0 then tableCopy s else lengthRefused (takesMessages s) mode kind none s
  | 0x22 =>
    if bs.length = 2 then tableCommit held mode (byteAt bs 0) (byteAt bs 1) s
    else lengthRefused (takesMessages s) mode kind none s
  | 0x28 => deliverQuery mode bs s
  | 0x29 => deliverControl mode bs s
  | k => unknownKind mode k s

/-- R158 step 6, R160: one message of a frame, delivered in JOINING and RUNNING when it is addressed to this node. -/
def deliverMessage (held : Option Nat) (m : RawMessage) (s : State) : State :=
  if takesMessages s then
    match addressMode s m.address with
    | none => s
    | some mode => deliver held mode m.kind m.body s
  else s

/-! ### Taking a frame (R158, R159) -/

/-- R159: the position from the hop count; above 48 it leads to POSITION FAULT. -/
def takePosition (hop : Nat) (s : State) : State :=
  let s1 := s.setChain { s.chain with hopCount := some hop, position := some (hop + 1) }
  if 48 < hop + 1 then
    if s.node.state = .positionFault then s1 else enterPositionFault s.chain.position s1
  else if s.chain.position ≠ some (hop + 1) ∧ s.node.state = .running ∧ s.chain.position.isSome then
    queueReport (.stateChanged .running .running s.chain.position (some (hop + 1)) none) s1
  else s1

/-- R158 steps 1 to 5: the header. -/
def takeHeader (f : ParsedFrame) (s : State) : State :=
  let s1 := correctCycle f.cycle (nodeFrame s.chain.position (takePosition f.hop s))
  let s2 := match f.mark with
    | none => s1
    | some (day, sec) => takeMark s.chain.position day sec s1
  s2.setChain { s2.chain with grant := f.grant }

/-- R158: a frame that passes its check. -/
def takeFrame (f : ParsedFrame) (s : State) : State :=
  f.messages.foldl (fun st m => deliverMessage s.chain.position m st) (takeHeader f s)

/-- R157: a frame that fails its check: the grant becomes none. -/
def failFrame (s : State) : State := s.setChain { s.chain with grant := none }

/-- R154: the frame forwarded, with the hop field this node sends. -/
def forward (bs : List Byte) (s : State) : State :=
  s.setPorts { s.ports with down := forwardFrame s.chain.position bs }

/-- R154 to R160: a whole downstream frame has been received. In POWER-UP nothing is taken or forwarded, and during a
break none is received. -/
def receiveFrame (bs : List Byte) (s : State) : State :=
  if s.node.state = .powerUp ∨ s.chain.upBreak = true then s
  else
    match parseFrame bs with
    | none => failFrame (forward bs s)
    | some f => takeFrame f (forward bs s)

/-! ### The meanings -/

/-- OWN_CYCLE_BOUNDARY (R80). -/
def execOwnCycleBoundary (s : State) : Host.Outcome State Fault Refusal := .next (startCycle true s)

/-- FRAME_START (R81). -/
def execFrameStart (s : State) : Host.Outcome State Fault Refusal := .next (frameStart s)

/-- FRAME (R158). -/
def execFrame (bytes : List Byte) (s : State) : Host.Outcome State Fault Refusal := .next (receiveFrame bytes s)

/-- UPSTREAM_FRAME_START (R163). -/
def execUpstreamFrameStart (s : State) : Host.Outcome State Fault Refusal := .next (upstreamStart s)

/-- UPSTREAM_FRAME (R164). -/
def execUpstreamFrame (bytes : List Byte) (s : State) : Host.Outcome State Fault Refusal :=
  .next (upstreamFrame bytes s)

/-- BREAK_STATE (R162). -/
def execBreakState (s : State) : Host.Outcome State Fault Refusal := .next (enterBreak s)

/-- BREAK_STATE_END (R162). -/
def execBreakStateEnd (s : State) : Host.Outcome State Fault Refusal := .next (leaveBreak s)

/-- CHAIN_RESET (R178). -/
def execChainReset (s : State) : Host.Outcome State Fault Refusal := .next (breakReset s)

/-- R161: link loss as an event of its own, told once for each silence and never in POWER-UP. -/
def linkLoss (s : State) : State :=
  if s.node.state = .powerUp ∨ 3 ≤ s.chain.upSilence then s else tellLinkLoss s

/-- LINK_LOSS (R161). -/
def execLinkLoss (s : State) : Host.Outcome State Fault Refusal := .next (linkLoss s)

/-- R163: downstream loss as an event of its own. -/
def downstreamLost (s : State) : State :=
  if s.node.state = .powerUp ∨ 3 ≤ s.chain.downSilence then s else loseDownstream s

/-- DOWNSTREAM_LOST (R163). -/
def execDownstreamLost (s : State) : Host.Outcome State Fault Refusal := .next (downstreamLost s)

end Sys2Proof.Machine
end

