-- ==== Sys2Proof/Machine/Dispatch.lean ====
section
/-! DEFINITION. One arm for each command of the opcode table, each a direct call of its meaning. -/

namespace Sys2Proof.Machine

def exec (i : Instr) (s : State) : Host.Outcome State Fault Refusal :=
  match i with
  | .powerOn => Sys2Proof.Machine.execPowerOn s
  | .powerUpEnd => Sys2Proof.Machine.execPowerUpEnd s
  | .ownCycleBoundary => Sys2Proof.Machine.execOwnCycleBoundary s
  | .frameStart => Sys2Proof.Machine.execFrameStart s
  | .frame bytes => Sys2Proof.Machine.execFrame bytes s
  | .upstreamFrameStart => Sys2Proof.Machine.execUpstreamFrameStart s
  | .upstreamFrame bytes => Sys2Proof.Machine.execUpstreamFrame bytes s
  | .breakState => Sys2Proof.Machine.execBreakState s
  | .breakStateEnd => Sys2Proof.Machine.execBreakStateEnd s
  | .chainReset => Sys2Proof.Machine.execChainReset s
  | .linkLoss => Sys2Proof.Machine.execLinkLoss s
  | .downstreamLost => Sys2Proof.Machine.execDownstreamLost s
  | .secondTick => Sys2Proof.Machine.execSecondTick s
  | .dayTurn => Sys2Proof.Machine.execDayTurn s
  | .attentionExpiry key => Sys2Proof.Machine.execAttentionExpiry key s
  | .retirement key => Sys2Proof.Machine.execRetirement key s
  | .cueRelease cueId => Sys2Proof.Machine.execCueRelease cueId s
  | .cueExpiry cueId => Sys2Proof.Machine.execCueExpiry cueId s
  | .retryHoldExpiry cueId => Sys2Proof.Machine.execRetryHoldExpiry cueId s
  | .trimWindowClose ticks => Sys2Proof.Machine.execTrimWindowClose ticks s
  | .holdoverLimit => Sys2Proof.Machine.execHoldoverLimit s
  | .bankSwitch => Sys2Proof.Machine.execBankSwitch s
  | .servicePost mode body => Sys2Proof.Machine.execServicePost mode body s
  | .serviceAmend mode body => Sys2Proof.Machine.execServiceAmend mode body s
  | .serviceWithdraw mode key => Sys2Proof.Machine.execServiceWithdraw mode key s
  | .noticeSet mode body => Sys2Proof.Machine.execNoticeSet mode body s
  | .cuePost mode body => Sys2Proof.Machine.execCuePost mode body s
  | .overrideSet mode body => Sys2Proof.Machine.execOverrideSet mode body s
  | .overrideClear mode level => Sys2Proof.Machine.execOverrideClear mode level s
  | .tableWrite mode table index entry => Sys2Proof.Machine.execTableWrite mode table index entry s
  | .tableCopy mode => Sys2Proof.Machine.execTableCopy mode s
  | .tableCommit mode generation cycle => Sys2Proof.Machine.execTableCommit mode generation cycle s
  | .queryState => Sys2Proof.Machine.execQueryState s
  | .queryRecord key => Sys2Proof.Machine.execQueryRecord key s
  | .queryCues start => Sys2Proof.Machine.execQueryCues start s
  | .queryZones => Sys2Proof.Machine.execQueryZones s
  | .queryResetCause => Sys2Proof.Machine.execQueryResetCause s
  | .queryTrim => Sys2Proof.Machine.execQueryTrim s
  | .commandReset => Sys2Proof.Machine.execCommandReset s
  | .clearAttention mode key => Sys2Proof.Machine.execClearAttention mode key s
  | .watchSet mode key => Sys2Proof.Machine.execWatchSet mode key s
  | .watchClear => Sys2Proof.Machine.execWatchClear s
  | .unknownMessageKind mode kind => Sys2Proof.Machine.execUnknownMessageKind mode kind s
  | .lineArbitration => Sys2Proof.Machine.execLineArbitration s
  | .startSent => Sys2Proof.Machine.execStartSent s
  | .cancelSent => Sys2Proof.Machine.execCancelSent s
  | .taken chars => Sys2Proof.Machine.execTaken chars s
  | .busy chars => Sys2Proof.Machine.execBusy chars s
  | .stopped chars => Sys2Proof.Machine.execStopped chars s
  | .playing chars => Sys2Proof.Machine.execPlaying chars s
  | .finished chars => Sys2Proof.Machine.execFinished chars s
  | .idle chars => Sys2Proof.Machine.execIdle chars s
  | .replyWindowClose => Sys2Proof.Machine.execReplyWindowClose s
  | .lineBreakEnd => Sys2Proof.Machine.execLineBreakEnd s
  | .pollTimerExpiry zone => Sys2Proof.Machine.execPollTimerExpiry zone s
  | .playLimitReached cueId => Sys2Proof.Machine.execPlayLimitReached cueId s
  | .lineQuietEnd => Sys2Proof.Machine.execLineQuietEnd s

end Sys2Proof.Machine
end

