-- ==== Sys2Proof/Machine/Idle.lean ====
section
/-! DEFINITION. What passes while no command waits (assumption 2): the end of POWER-UP, the arbiter's work, and one tick
of the 24 MHz reference with the events that fall due at it. -/

namespace Sys2Proof.Machine

/-- R162: one tick of a break in progress; at 1 500 000 ticks it makes a chain reset. -/
def breakTick (s : State) : State :=
  if s.chain.upBreak then
    if s.chain.breakLength + 1 = Config.resetBreakTicks then breakReset s
    else s.setChain { s.chain with breakLength := s.chain.breakLength + 1 }
  else s

/-- R126, R127: the event at which the line's timer has run out. -/
def lineTimeout (s : State) : State :=
  match s.line.status with
  | .idle => s
  | .quiet _ => lineQuietEnd s
  | .lineBreak => lineBreakEnd s
  | .transaction (.start _) => startSent s
  | .transaction (.cancel _ _) => cancelSent s
  | .transaction _ => closeWindow s

/-- R126: one tick of the 20 ms that the quiet may last. -/
def LineStatus.tick : LineStatus → LineStatus
  | .quiet left => .quiet (left - 1)
  | st => st

/-- One tick of the line's timer. -/
def lineTick (s : State) : State :=
  match s.line.timer with
  | 0 => s
  | 1 => lineTimeout (s.setLine { s.line with timer := 0 })
  | k + 2 => s.setLine { s.line with status := s.line.status.tick, timer := k + 1 }

/-- R80: one tick of the own cycle generator; at the length of the current cycle a boundary occurs. -/
def cycleTick (s : State) : State :=
  if s.time.cycleLength ≤ s.time.tickCount + 1 then startCycle true s
  else s.setTime { s.time with tickCount := s.time.tickCount + 1 }

/-- R163: one tick of an upstream frame being originated. -/
def upTick (s : State) : State := s.setPorts { s.ports with upLeft := s.ports.upLeft - 1 }

/-- One tick of the reference clock. -/
def referenceTick (s : State) : State := cycleTick (lineTick (breakTick (upTick s)))

/-- The step on an empty queue. -/
def idleStep (s : State) : State :=
  if s.node.state = .powerUp then powerUpEnd s
  else if lineHasWork s then arbitrate s
  else referenceTick s

end Sys2Proof.Machine
end

