-- ==== Sys2Proof/Safety.lean ====
section
/-! DEFINITION. What a sound state of a CW-24 is, block by block: the invariants the chapters state, and the forms of a
reset and of a line break that the statements speak of. -/

namespace Sys2Proof.Machine

/-! ### The time base (R80, R84, R88) -/

/-- R80, R84, R88: every item of the time base within its range, and the BCD clock at the civil time of the service
second under the active day start. -/
structure State.timeOk (s : State) : Prop where
  cycle : s.time.cycle < 64
  accumulator : s.time.accumulator < 16
  trimLow : 374925 ≤ s.time.trimInt
  trimHigh : s.time.trimInt ≤ 375075
  trimFrac : s.time.trimFrac < 16
  lengthLow : 374925 ≤ s.time.cycleLength
  lengthHigh : s.time.cycleLength ≤ 375076
  tickCount : s.time.tickCount < s.time.cycleLength
  second : s.time.second < 86400
  day : s.time.day < 65536
  clock : s.time.clock = civilClock s.bank.params.dayStart s.time.second

/-! ### The configuration store (R166, R168) -/

/-- R166: each table has its number of entries. -/
structure Bank.shapely (b : Bank) : Prop where
  selection : b.selection.length = 16
  rowMap : b.rowMap.length = 24
  boards : b.boards.length = 4
  rules : b.rules.length = 32
  templates : b.templates.length = 32
  platformZones : b.platformZones.length = 64
  zoneTable : b.zoneTable.length = 8
  pages : b.pages.length = 32

/-- R166, R168, R169: both banks in form, the active one valid, the generation and the pending commit in range. -/
structure State.storeOk (s : State) : Prop where
  active : s.store.active.shapely
  shadow : s.store.shadow.shapely
  valid : s.store.active.firstInvalid = none
  generation : s.store.generation ≤ 255
  commit : ∀ c, s.store.commit = some c → 1 ≤ c.generation ∧ c.generation ≤ 255 ∧ c.cycle ≤ 63

/-! ### The service table (R1, R2, R5, R20) -/

/-- R2, R5, R20: one record within its ranges, with the mask and enable the active selection table gives, and a previous
platform exactly while attention is above 0. -/
structure ServiceRecord.ok (b : Bank) (r : ServiceRecord) : Prop where
  key : r.key ≠ 0
  smLow : -1440 ≤ r.sm
  smHigh : r.sm ≤ 2879
  delay : ∀ d, r.delay = some d → -15 ≤ d ∧ d ≤ 999
  platform : ∀ p, r.platform = some p → 1 ≤ p ∧ p ≤ 64
  attention : r.attention ≤ 600
  destination : r.destination ≤ 1023
  vias : r.vias.length ≤ 3
  viaPhrases : ∀ v ∈ r.vias, v ≤ 1023
  opClass : r.opClass ≤ 15
  boards : r.boards ≠ 0#4
  selected : (r.boards, r.cueEnabled) = selectRecord b.selection r.platform r.opClass
  previous : r.previous.isSome = true ↔ 0 < r.attention
  changed : ∀ q, r.previous = some q → ∃ p, r.platform = some p ∧ p ≠ q

/-- R1: at most 96 records, no key twice, in the order of the triple, each record sound. -/
structure State.tableOk (s : State) : Prop where
  size : s.table.length ≤ 96
  sorted : s.table.Pairwise fun a b => before a b = true
  keys : s.table.Pairwise fun a b => a.key ≠ b.key
  records : ∀ r ∈ s.table, r.ok s.bank

/-! ### The cue queue (R107 to R109) -/

/-- R108, R110: one cue within its ranges. The expiry lies the lifetime, 10 to 1800 s, after the release; how low the two
may lie is `State.cuesRecent`. -/
structure Cue.ok (c : Cue) : Prop where
  id : c.id < 256
  zones : c.zones ≠ 0#8
  codesLow : 1 ≤ c.codes.length
  codesHigh : c.codes.length ≤ 16
  codes : ∀ p ∈ c.codes, p ≤ 4095
  lifeLow : c.release + 10 ≤ c.expiry
  lifeHigh : c.expiry ≤ c.release + 1800
  expiry : c.expiry ≤ 172799
  priority : c.priority ≤ 7
  playLow : 1 ≤ c.playLimit
  playHigh : c.playLimit ≤ 120

/-- R108: two cues that may not stand in the queue together: both WAITING or DUE, of one nonzero key and one template. -/
def Cue.twins (a b : Cue) : Prop :=
  a.key ≠ 0 ∧ a.key = b.key ∧ a.template = b.template ∧ a.waits = true ∧ b.waits = true

/-- R108, R109: at most 32 cues in ascending unique id, no twins, each cue sound, the next id in range. -/
structure State.cuesOk (s : State) : Prop where
  size : s.cues.queue.length ≤ 32
  ids : s.cues.queue.Pairwise fun a b => a.id < b.id
  apart : s.cues.queue.Pairwise fun a b => ¬ a.twins b
  sound : ∀ c ∈ s.cues.queue, c.ok
  nextId : s.cues.nextId < 256

/-- R108: no release and no expiry lies before −86400. -/
def State.cuesRecent (s : State) : Prop := ∀ c ∈ s.cues.queue, -86400 ≤ c.release ∧ -86400 ≤ c.expiry

/-! ### The zones (R129, R130) -/

/-- R129, R135, R142: one zone: it holds a cue exactly outside FREE and FAULT, its poll timer runs in PLAYING and FAULT
alone, a pending address waits only while it is held, and FAULT keeps a miss count of 3. -/
structure Zone.ok (z : Zone) : Prop where
  holding : z.holding = none ↔ z.state = .free ∨ z.state = .fault
  miss : z.miss ≤ 3
  faultMiss : z.state = .fault → z.miss = 3
  timer : z.timer.isSome = true → z.state = .playing ∨ z.state = .fault
  pollDue : z.pollDue = true → z.state = .playing ∨ z.state = .fault
  pendingAddr : z.pendingAddr.isSome = true → z.state ≠ .free ∧ z.state ≠ .fault

/-- R126, R129, R130: eight sound zones; the zones a sequence has yet to offer to are OFFERED and hold its cue; a pending
STOP is a STOPPING zone's; the transaction in flight fits the zone it addresses; and a quiet ends within its 20 ms. -/
structure LineCtl.ok (l : LineCtl) : Prop where
  eight : l.zones.length = 8
  zones : ∀ z ∈ l.zones, z.ok
  seq : ∀ q, l.seq = some q → ∀ n ∈ q.left, n < 8 ∧ (l.zone n).state = .offered ∧ (l.zone n).holding = some q.cueId
  stops : ∀ n i, LineJob.stop n i ∈ l.jobs → n < 8 ∧ (l.zone n).state = .stopping
  offer : ∀ n a i, l.status = .transaction (.offer n a i) →
    n < 8 ∧ (l.zone n).state = .offered ∧ (l.zone n).holding = some i
  stop : ∀ n a i, l.status = .transaction (.stop n a i) → n < 8 ∧ (l.zone n).state = .stopping
  poll : ∀ n a, l.status = .transaction (.poll n a) → n < 8 ∧ (l.zone n).state ≠ .offered
  quiet : ∀ left, l.status = .quiet left → l.timer ≤ left ∧ left ≤ 480000

/-- R129, R132, R133, R138: the zones and the cue queue agree. A held zone is held by a cue of the queue whose mask
contains it, OFFERED for an OFFERED zone and PLAYING for a PLAYING or STOPPING one; a cue on the line holds a zone; the
OFFERED cue is that of the sequence in progress; and the STOPs and the transaction in flight name the cues their zones
hold. -/
structure State.accordOk (s : State) : Prop where
  held : ∀ n, n < 8 → ∀ i, (s.line.zone n).holding = some i →
    ∃ c ∈ s.cues.queue, c.id = i ∧ c.zones.getLsbD n = true ∧
      ((s.line.zone n).state = .offered → c.state = .offered) ∧
      ((s.line.zone n).state = .playing ∨ (s.line.zone n).state = .stopping → c.state = .playing)
  borne : ∀ c ∈ s.cues.queue, c.onLine = true → ∃ n, n < 8 ∧ (s.line.zone n).holding = some c.id
  offered : ∀ c ∈ s.cues.queue, c.state = .offered → ∃ q, s.line.seq = some q ∧ q.cueId = c.id
  seq : ∀ q, s.line.seq = some q → ∃ c ∈ s.cues.queue, c.id = q.cueId ∧ c.state = .offered
  offer : ∀ n a i, s.line.status = .transaction (.offer n a i) → ∃ q, s.line.seq = some q ∧ q.cueId = i
  start : ∀ i, s.line.status = .transaction (.start i) → s.line.seq = some { cueId := i, left := [] }
  stop : ∀ n a i, s.line.status = .transaction (.stop n a i) → (s.line.zone n).holding = some i
  stops : ∀ n i, LineJob.stop n i ∈ s.line.jobs → (s.line.zone n).holding = some i

/-! ### The chain interface, override control and the node controller (R144, R155, R171 to R173) -/

/-- R155, R159, R162, R163: the chain interface within its ranges; the position is one more than the hop count, and the
node is chain end exactly while it sees no downstream partner. -/
structure State.chainOk (s : State) : Prop where
  hopCount : ∀ h, s.chain.hopCount = some h → h ≤ 63
  position : s.chain.position = s.chain.hopCount.map fun h => h + 1
  grant : ∀ g, s.chain.grant = some g → 1 ≤ g ∧ g ≤ 48
  upSilence : s.chain.upSilence ≤ 3
  downSilence : s.chain.downSilence ≤ 3
  chainEnd : s.chain.chainEnd = !s.chain.partnerSeen
  quiet : s.chain.upBreak = false → s.chain.breakLength = 0 ∧ s.chain.downBreak = false

/-- R144: the override context within its ranges, and at level 0 at its values of rest. -/
structure State.ovrOk (s : State) : Prop where
  level : s.ovr.level ≤ 3
  page : s.ovr.page ≤ 7
  floor : s.ovr.floor ≤ 7
  template : ∀ t, s.ovr.template = some t → t ≤ 31
  rest : s.ovr.level = 0 → s.ovr.boards = 0#4 ∧ s.ovr.page = 0 ∧ s.ovr.floor = 0 ∧ s.ovr.template = none

/-- R100, R171, R172: the report queue, the watch list and the holdover count within their bounds. -/
structure State.nodeOk (s : State) : Prop where
  reports : s.node.reports.length ≤ 16
  watch : s.node.watch.length ≤ 4
  watchKeys : s.node.watch.Nodup
  watchNonzero : ∀ k ∈ s.node.watch, k ≠ 0
  holdover : s.node.holdover ≤ 3600
  counting : s.node.state = .holdover → s.node.holdover < 3600

/-- R173: outside RUNNING and HOLDOVER the service table and the cue queue are empty. -/
def State.restOk (s : State) : Prop :=
  s.node.state ≠ .running → s.node.state ≠ .holdover → s.table = [] ∧ s.cues.queue = []

/-! ### A reset and a line break -/

/-- R178: the machine after a chain reset or a command reset, whichever the cause: the table of R178 row by row, with the
line in its break of three character times (R143). -/
def afterReset (cause : ResetCause) (s : State) : State :=
  { s with
    table := []
    cues := { queue := [], nextId := 0 }
    line :=
      { zones := (List.range 8).map fun n => resetZone (s.store.active.zoneTable.getD n 0)
        status := .lineBreak, timer := 15000, jobs := [], seq := none, sent := s.line.sent }
    node := { state := .awaitChain, cause := cause, watch := [], reports := [], loss := false, holdover := 0 }
    ovr := { level := 0, boards := 0#4, page := 0, floor := 0, template := none }
    store := { s.store with commit := none }
    rows := { s.rows with lastSent := List.replicate 24 none }
    time := { s.time with synchronised := false, setPending := true, window := none, excursion := false }
    chain := { s.chain with grant := none, upSilence := 0, downSilence := 0 } }

/-- R127, R142: one zone through a line break. -/
def zoneAfterBreak (z : Zone) : Zone :=
  if z.state = .fault then { z with pollDue := false }
  else
    { state := .free, holding := none, miss := z.miss, timer := none, pendingAddr := none,
      addr := z.pendingAddr.getD z.addr, taken := false, pollDue := false }

/-- R127: the controller through a line break: the transaction, the work and the sequence gone, the line held for three
character times, and every zone not in FAULT FREE with its miss count kept. -/
structure LineBroken (l l' : LineCtl) : Prop where
  status : l'.status = .lineBreak
  timer : l'.timer = 15000
  jobs : l'.jobs = []
  seq : l'.seq = none
  zones : l'.zones = l.zones.map zoneAfterBreak

/-- R120, R127: what a flush leaves of cues and line: no cue, the line in its break. -/
def Flushed (s t : State) : Prop := t.table = [] ∧ t.cues.queue = [] ∧ (s.line.zones.length = 8 → LineBroken s.line t.line)

/-- R172: what several reports, in order, leave of the report queue and its loss flag. -/
def nodeAfterReports (rs : List Report) (n : Node) : Node :=
  rs.foldl
    (fun m r => if m.reports.length < 16 then { m with reports := m.reports ++ [r] } else { m with loss := true }) n

end Sys2Proof.Machine
end

