-- ==== Sys2Proof/Certificates/Slice0/Obligations.lean ====
section
/-! DEFINITION. The statements for the provers: the queue of commands, the invariants every step keeps, and what each
command does, by the rules of spec/. -/

open Sys2Proof Sys2Proof.Machine

/-! ### The passing of time for cues (R116) -/

/-- R86, R116, R117: a cue's release, expiry and retry hold lowered. -/
def loweredCue (d : Int) (c : Cue) : Cue :=
  { c with release := c.release - d, expiry := c.expiry - d, retryHold := c.retryHold.map fun h => h - d }

/-- R116: a WAITING cue whose release lies at or before `sec` becomes DUE. -/
def releasedCue (sec : Int) (c : Cue) : Cue :=
  if c.state = .waiting ∧ c.release ≤ sec then { c with state := .due } else c

/-! ### The queue of commands -/

/-- A step takes the command at the front of the queue and runs it on the state with the queue's rest. -/
def Obligations.StepTakesTheFrontCommand : Prop :=
  ∀ (c : Instr) (rest : List Instr) (s : State), s.pending = c :: rest → step s = exec c (s.setPending rest)

/-- With no command waiting and nothing due, a step is one tick of the 24 MHz reference (R80). That an empty queue lets
time pass is the model's choice (assumption 2). -/
def Obligations.IdleStepIsOneReferenceTick : Prop :=
  ∀ s : State, s.pending = [] → s.node.state ≠ .powerUp → lineHasWork s = false → s.chain.upBreak = false →
    s.line.timer = 0 → s.time.tickCount + 1 < s.time.cycleLength →
    step s = .next
      { s with
        time := { s.time with tickCount := s.time.tickCount + 1 }
        ports := { s.ports with upLeft := s.ports.upLeft - 1 } }

/-- Every command completes in every state, and none touches the commands still waiting. That no command ever stops is the
model's reading (assumption 28, DEDUCED), with its total meaning for operands no connection carries (assumption 25) and
the queue that is filled from outside (assumption 27). -/
def Obligations.ExecLeavesTheCommandQueue : Prop :=
  ∀ (c : Instr) (s : State), ∃ t, exec c s = .next t ∧ t.pending = s.pending

/-! ### Invariants -/

/-- Power-on leaves a sound state: every invariant below holds of it. -/
def Obligations.PowerOnStateIsSound : Prop :=
  State.reset.timeOk ∧ State.reset.storeOk ∧ State.reset.tableOk ∧ State.reset.cuesOk ∧ State.reset.line.ok ∧
    State.reset.chainOk ∧ State.reset.ovrOk ∧ State.reset.nodeOk ∧ State.reset.restOk ∧ State.reset.accordOk ∧
    State.reset.cuesRecent

/-- R80, R84, R88: every step keeps the time base within its ranges and the BCD clock at the civil time of S. -/
def Obligations.StepKeepsTimeBaseAndClock : Prop :=
  ∀ s t : State, s.timeOk → step s = .next t → t.timeOk

/-- R1, R2, R5, R20: every step keeps the service table ordered, without a key twice, of at most 96 sound records. -/
def Obligations.StepKeepsServiceTable : Prop :=
  ∀ s t : State, s.storeOk → s.tableOk → step s = .next t → t.tableOk

/-- R108, R109: every step keeps the cue queue at most 32 sound cues of unique id, no two of them twins, each with 1 to 16
codes of at most 4095 and an expiry 10 to 1800 s after its release and at most 172799. The lower end −86400 of R108's
range is kept by every step that does not turn the day, and by a day turn that finds no release before its own day. -/
def Obligations.StepKeepsCueQueue : Prop :=
  ∀ s t : State, s.storeOk → s.tableOk → s.cuesOk → step s = .next t →
    t.cuesOk ∧
      (s.time.second ≠ 86399 → t.time.day = s.time.day → s.cuesRecent → t.cuesRecent) ∧
      (t.time.day = (s.time.day + 1) % 65536 → (∀ c ∈ s.cues.queue, 0 ≤ c.release) → t.cuesRecent)

/-- R126, R129, R130: every step keeps the eight zones, the pending line work and the transaction in flight in accord, and
keeps each held zone in accord with the cue that holds it (R129, R132, R133, R138). -/
def Obligations.StepKeepsZonesAndLine : Prop :=
  ∀ s t : State, s.line.ok → step s = .next t →
    t.line.ok ∧ (s.storeOk → s.tableOk → s.cuesOk → s.accordOk → t.accordOk)

/-- R166, R168, R169: every step keeps both banks in form and the active bank valid. -/
def Obligations.StepKeepsActiveBankValid : Prop :=
  ∀ s t : State, s.storeOk → step s = .next t → t.storeOk

/-- R144, R155: every step keeps the chain interface and the override context within their ranges. -/
def Obligations.StepKeepsChainAndOverride : Prop :=
  ∀ s t : State, step s = .next t → (s.chainOk → t.chainOk) ∧ (s.ovrOk → t.ovrOk)

/-- R100, R171, R172: every step keeps the report queue, the watch list and the holdover count within their bounds. -/
def Obligations.StepKeepsNodeController : Prop :=
  ∀ s t : State, s.storeOk → s.nodeOk → step s = .next t → t.nodeOk

/-- R173: every step keeps the service table and the cue queue empty outside RUNNING and HOLDOVER. -/
def Obligations.StepKeepsRestingNodeEmpty : Prop :=
  ∀ s t : State, s.restOk → step s = .next t → t.restOk

/-! ### Departure arithmetic and rules -/

/-- R31: the countdown is the remaining seconds divided by 60 and rounded up, 0 at or below 0; it lies within 0…3878, and
for a cancelled record or one of unknown delay it comes from SM. -/
def Obligations.CountdownRoundsUp : Prop :=
  ∀ (r : ServiceRecord) (sec : Nat),
    (0 < remainingSeconds r sec →
      countdown r sec = (remainingSeconds r sec + 59) / 60 ∧
        60 * (countdown r sec - 1) < remainingSeconds r sec ∧ remainingSeconds r sec ≤ 60 * countdown r sec) ∧
    (remainingSeconds r sec ≤ 0 → countdown r sec = 0) ∧
    0 ≤ countdown r sec ∧
    (r.cancelled = true ∨ r.delay = none → remainingSeconds r sec = r.sm * 60 - (sec : Int)) ∧
    (-1440 ≤ r.sm → r.sm ≤ 2879 → (∀ d, r.delay = some d → -15 ≤ d ∧ d ≤ 999) → sec ≤ 86399 → countdown r sec ≤ 3878)

/-- R37: the civil second of day of S is (DS × 60 + S) mod 86400, it is what the BCD clock shows read as hours, minutes
and seconds, and the civil second c corresponds to the service second (c − DS × 60) mod 86400. -/
def Obligations.ClockShowsCivilSecond : Prop :=
  ∀ s : State, s.timeOk →
    let c : Nat :=
      (s.time.clock.hourTens * 10 + s.time.clock.hourUnits) * 3600 +
        (s.time.clock.minTens * 10 + s.time.clock.minUnits) * 60 + (s.time.clock.secTens * 10 + s.time.clock.secUnits)
    c = (s.bank.params.dayStart * 60 + s.time.second) % 86400 ∧
      (s.time.second : Int) = ((c : Int) - (s.bank.params.dayStart : Int) * 60) % 86400

/-- R44: a value test passes or fails as the value compares with the constant, without limit; ALWAYS passes. R45: with
the delay UNKNOWN a DELAY rule fails, and with the platform NONE a PLATFORM rule fails, under all six comparisons. -/
def Obligations.ValueTestComparesDirectly : Prop :=
  ∀ (b : Bank) (rule : NoticeRule) (sec : Nat) (r : ServiceRecord),
    (rule.field = .always → valueTest rule sec r = true) ∧
    (∀ v : Int,
      (rule.field = .delay ∧ r.delay = some v) ∨ (rule.field = .countdown ∧ countdown r sec = v) ∨
          (rule.field = .platform ∧ ∃ p : Nat, r.platform = some p ∧ (p : Int) = v) ∨
          (rule.field = .opClass ∧ (r.opClass : Int) = v) →
        (rule.comparison = .eq → (valueTest rule sec r = true ↔ v = rule.constant)) ∧
        (rule.comparison = .ne → (valueTest rule sec r = true ↔ v ≠ rule.constant)) ∧
        (rule.comparison = .lt → (valueTest rule sec r = true ↔ v < rule.constant)) ∧
        (rule.comparison = .le → (valueTest rule sec r = true ↔ v ≤ rule.constant)) ∧
        (rule.comparison = .gt → (valueTest rule sec r = true ↔ v > rule.constant)) ∧
        (rule.comparison = .ge → (valueTest rule sec r = true ↔ v ≥ rule.constant)) ∧
        (-1024 ≤ rule.constant → rule.constant ≤ 4095 →
          (-15 ≤ v → v ≤ 999 → -4110 ≤ v - rule.constant ∧ v - rule.constant ≤ 2023) ∧
          (0 ≤ v → v ≤ 3878 → -4095 ≤ v - rule.constant ∧ v - rule.constant ≤ 4902))) ∧
    (rule.field = .countdown → rule.constant = -1024 →
      (rule.comparison = .ge → valueTest rule sec r = true) ∧ (rule.comparison = .lt → valueTest rule sec r = false)) ∧
    ((rule.field = .delay ∧ r.delay = none) ∨ (rule.field = .platform ∧ r.platform = none) →
      valueTest rule sec r = false ∧ ∀ n, b.rule n = rule → ruleMatches b sec r n = false)

/-- R47: the flag test by its sense, with an empty mask, under IGNORE, and the rule that ANY SET with an empty mask never
matches though the commit accepts it. -/
def Obligations.FlagTestFollowsSense : Prop :=
  ∀ (b : Bank) (rule : NoticeRule) (sec : Nat) (r : ServiceRecord),
    (rule.sense = .allSet →
      (flagTest b rule sec r = true ↔ ∀ i, i < 6 → rule.flagMask.getLsbD i = true → recordFlag b sec r i = true)) ∧
    (rule.sense = .anySet →
      (flagTest b rule sec r = true ↔ ∃ i, i < 6 ∧ rule.flagMask.getLsbD i = true ∧ recordFlag b sec r i = true)) ∧
    (rule.sense = .noneSet →
      (flagTest b rule sec r = true ↔ ∀ i, i < 6 → rule.flagMask.getLsbD i = true → recordFlag b sec r i = false)) ∧
    (rule.sense = .ignore → flagTest b rule sec r = true) ∧
    (rule.flagMask = 0#6 →
      (rule.sense = .allSet → flagTest b rule sec r = true) ∧ (rule.sense = .anySet → flagTest b rule sec r = false) ∧
      (rule.sense = .noneSet → flagTest b rule sec r = true)) ∧
    (∀ n, n < 32 → (b.rule n).sense = .anySet → (b.rule n).flagMask = 0#6 →
      ruleMatches b sec r n = false ∧ (decideRules b sec r).matchSet.getLsbD n = false) ∧
    (∀ m, ({ rule with flagMask := m } : NoticeRule).ok = rule.ok)

/-- R42, R48, R49, R50: an evaluation sets exactly the bits of the matching rules, takes the phrase of the
lowest-numbered matching rule that has one, and finds an edge exactly where a bit was clear and is set. -/
def Obligations.EvaluationSetsMatchesAndNotice : Prop :=
  ∀ (b : Bank) (sec : Nat) (r : ServiceRecord),
    (∀ n, n < 32 → (decideRules b sec r).matchSet.getLsbD n = ruleMatches b sec r n) ∧
    (∀ p, (decideRules b sec r).notice = some p ↔
      ∃ n, n < 32 ∧ ruleMatches b sec r n = true ∧ (b.rule n).phrase = some p ∧
        ∀ m, m < n → ruleMatches b sec r m = true → (b.rule m).phrase = none) ∧
    ((decideRules b sec r).notice = none ↔
      ∀ n, n < 32 → ruleMatches b sec r n = true → (b.rule n).phrase = none) ∧
    (∀ (old : BitVec 32) (n : Nat),
      n ∈ matchEdges old (decideRules b sec r).matchSet ↔
        n < 32 ∧ ruleMatches b sec r n = true ∧ old.getLsbD n = false)

/-! ### Power, resets and the node controller -/

/-- POWER_ON, POWER_UP_END (R60, R84, R109, R129, R144, R155, R166, R172 to R174): each completes, POWER_ON in every state
with the power-on values of every block, POWER_UP_END in POWER-UP with AWAIT CHAIN. That the end of POWER-UP is an event
one can command is the model's choice (assumption 1), as are the line level that POWER_ON keeps (assumptions 10 and 23)
and passes on here, and the values at power-on of assumption 7. -/
def Obligations.PowerOnGivesEveryBlockItsValues : Prop :=
  (∀ s : State, ∃ t, exec .powerOn s = .next t ∧
    t.node = { state := .powerUp, cause := .powerOn, watch := [], reports := [], loss := false, holdover := 0 } ∧
    t.table = [] ∧ t.cues = { queue := [], nextId := 0 } ∧
    t.store.active = t.store.shadow ∧ t.store.generation = 0 ∧ t.store.commit = none ∧
    t.store.active.params =
      { dayStart := 150, grace := 1, attentionPeriod := 120, holdoverLimit := 900, preemptLevel := 6, groupMask := 0#8,
        changeTemplate := none, assignTemplate := none, cancelTemplate := none } ∧
    t.store.active.selection.all (fun e => !e.inUse) = true ∧ t.store.active.rowMap.all (fun e => !e.inUse) = true ∧
    t.store.active.rules.all (fun e => !e.inUse) = true ∧ t.store.active.templates.all (fun e => !e.inUse) = true ∧
    t.store.active.platformZones = List.replicate 64 0#8 ∧ t.store.active.zoneTable = List.replicate 8 0 ∧
    t.store.active.pages.all (fun p => p.rowCount == 0) = true ∧
    t.store.active.boards =
      List.replicate 4
        { langCount := 1, period := 2, limit := 0, window := 0, threshold := 1, blink := false, cancelledPhrase := none
          delayedPhrase := none, duePhrase := none, onTimePhrase := none, isolationPhrase := none } ∧
    t.line.zones.length = 8 ∧
    (∀ z ∈ t.line.zones, z.state = .free ∧ z.holding = none ∧ z.miss = 0 ∧ z.timer = none ∧ z.pendingAddr = none ∧ z.addr = 0) ∧
    t.line.status = .idle ∧ t.line.jobs = [] ∧ t.line.seq = none ∧
    t.rows.standing = List.replicate 4 [] ∧ t.rows.lastSent = List.replicate 24 none ∧
    t.ovr = { level := 0, boards := 0#4, page := 0, floor := 0, template := none } ∧
    t.time.tickCount = 0 ∧ t.time.accumulator = 0 ∧ t.time.cycle = 0 ∧ t.time.trimInt = 375000 ∧ t.time.trimFrac = 0 ∧
    t.time.second = 0 ∧ t.time.day = 0 ∧
    t.time.clock = { hourTens := 0, hourUnits := 2, minTens := 3, minUnits := 0, secTens := 0, secUnits := 0 } ∧
    t.time.synchronised = false ∧ t.time.setPending = true ∧ t.time.excursion = false ∧
    t.chain.position = none ∧ t.chain.hopCount = none ∧ t.chain.grant = none ∧ t.chain.upSilence = 0 ∧
    t.chain.downSilence = 0 ∧ t.chain.chainEnd = true ∧ t.chain.partnerSeen = false ∧ t.chain.breakLength = 0) ∧
  (∀ s : State, s.node.state = .powerUp →
    exec .powerUpEnd s = .next
      { s with
        node := { s.node with state := .awaitChain, cause := .powerOn }
        chain := { s.chain with downBreak := s.chain.upBreak, breakLength := 0 } })

/-- COMMAND_RESET, CHAIN_RESET (R143, R162, R177, R178): the two resets leave every block as the table of R178 says,
alike but for the cause. That a CHAIN_RESET commanded alone brings the break length to 1 500 000 is the model's choice
(assumption 1), and so is what the ports and phases keep (assumption 7). -/
def Obligations.ResetsActAlikeOnEveryBlock : Prop :=
  ∀ s : State,
    (s.node.state = .joining ∨ s.node.state = .running → exec .commandReset s = .next (afterReset .command s)) ∧
    (s.node.state ≠ .joining → s.node.state ≠ .running → exec .commandReset s = .next s) ∧
    (s.node.state ≠ .powerUp → s.chain.upBreak = true → s.chain.breakLength < 1500000 →
      exec .chainReset s =
        .next (afterReset .chainBreak { s with chain := { s.chain with breakLength := 1500000 } }))

/-- LINK_LOSS (R161, R173 to R175): the grant becomes none; RUNNING goes to HOLDOVER with a count of 0, JOINING to AWAIT
CHAIN, each with its STATE CHANGED and the trim window gone; any other state stays. It is told once for each silence. That
the event commanded alone brings a lower silence count to 3 is the model's choice (assumption 1), and that it changes
nothing in POWER-UP is DEDUCED (assumption 9). -/
def Obligations.LinkLossFollowsNodeState : Prop :=
  ∀ s : State,
    let c : Chain := { s.chain with grant := none, upSilence := 3 }
    let p := s.chain.position
    (s.node.state = .powerUp ∨ s.chain.upSilence = 3 → exec .linkLoss s = .next s) ∧
    (s.chain.upSilence < 3 → s.node.state = .running →
      exec .linkLoss s = .next
        { s with
          chain := c, time := { s.time with window := none }
          node :=
            nodeAfterReports [.stateChanged .running .holdover p p none] { s.node with state := .holdover, holdover := 0 } }) ∧
    (s.chain.upSilence < 3 → s.node.state = .joining →
      exec .linkLoss s = .next
        { s with
          chain := c, time := { s.time with window := none }
          node := nodeAfterReports [.stateChanged .joining .awaitChain p p none] { s.node with state := .awaitChain } }) ∧
    (s.chain.upSilence < 3 →
      s.node.state = .awaitChain ∨ s.node.state = .holdover ∨ s.node.state = .isolated ∨ s.node.state = .positionFault →
      exec .linkLoss s = .next { s with chain := c })

/-- HOLDOVER_LIMIT (R100, R120, R127, R175): a node in HOLDOVER enters ISOLATED: STATE CHANGED, the table emptied, every
cue dropped FLUSHED in ascending id, the line broken; the banks, the rows, the override and the chain stay. -/
def Obligations.HoldoverLimitIsolates : Prop :=
  ∀ s : State, s.node.state = .holdover →
    ∃ t, exec .holdoverLimit s = .next t ∧ t.table = [] ∧ t.cues = { s.cues with queue := [] } ∧
      (s.line.zones.length = 8 → LineBroken s.line t.line) ∧
      t.node =
        nodeAfterReports
          (.stateChanged .holdover .isolated s.chain.position s.chain.position none ::
            s.cues.queue.map fun c => .cueDropped (some c.id) c.source c.key c.template .flushed)
          { s.node with state := .isolated, holdover := max s.node.holdover s.bank.params.holdoverLimit } ∧
      t.time = { s.time with window := none } ∧ t.chain = s.chain ∧ t.store = s.store ∧ t.rows = s.rows ∧
      t.ovr = s.ovr ∧ t.ports = s.ports

/-- QUERY_STATE, QUERY_RECORD, QUERY_CUES, QUERY_ZONES, QUERY_RESET_CAUSE, QUERY_TRIM (R170): in JOINING and RUNNING each
queues one ANSWER with the state as it stands, and changes nothing else. -/
def Obligations.QueriesQueueOneAnswer : Prop :=
  ∀ s : State, s.node.state = .joining ∨ s.node.state = .running →
    let answered (a : Answer) : State := { s with node := nodeAfterReports [.answer a] s.node }
    exec .queryState s = .next (answered (.state
      { state := s.node.state, position := s.chain.position, hopCount := s.chain.hopCount, chainEnd := s.chain.chainEnd
        generation := s.store.generation, commit := s.store.commit, day := s.time.day, second := s.time.second
        synchronised := s.time.synchronised, holdover := s.node.holdover, override := s.ovr
        nRecords := s.table.length, nCues := s.cues.queue.length })) ∧
    (∀ key, (∀ r ∈ s.table, r.key ≠ key) → exec (.queryRecord key) s = .next (answered (.record key none))) ∧
    (∀ i r, s.table[i]? = some r → (∀ j q, j < i → s.table[j]? = some q → q.key ≠ r.key) →
      exec (.queryRecord r.key) s = .next (answered (.record r.key (some (
        { key := r.key, sm := r.sm, delay := r.delay, platform := r.platform, previous := r.previous
          attention := r.attention, boards := r.boards, cueEnabled := r.cueEnabled, cancelled := r.cancelled
          boarding := r.boarding, matchSet := r.matchSet, notice := r.notice }, i + 1))))) ∧
    (∀ start, exec (.queryCues start) s = .next (answered (.cues s.cues.queue.length
      (((s.cues.queue.filter fun c => decide (start ≤ c.id)).take 6).map fun c =>
        { id := c.id, state := c.state, priority := c.priority, key := c.key })))) ∧
    exec .queryZones s = .next (answered (.zones (s.line.zones.map fun z =>
      { state := z.state, holding := z.holding, miss := z.miss, addr := z.addr }))) ∧
    exec .queryResetCause s = .next (answered (.resetCause s.node.cause)) ∧
    exec .queryTrim s = .next (answered (.trim s.time.trimInt s.time.trimFrac s.time.excursion))

/-- CLEAR_ATTENTION, WATCH_SET, WATCH_CLEAR, UNKNOWN_MESSAGE_KIND (R20, R160, R171): what each does in JOINING and RUNNING,
what it reports, and that in any other state it is discarded. The contents of the BAD FIELD of a refused WATCH_SET are
the model's (assumption 22, DEDUCED). -/
def Obligations.ControlsActOnAttentionAndWatch : Prop :=
  ∀ (s : State) (mode : AddrMode) (key kind : Nat),
    let told (r : Report) : State := { s with node := if mode = .position then nodeAfterReports [r] s.node else s.node }
    (s.node.state = .joining ∨ s.node.state = .running →
      ((∃ r ∈ s.table, r.key = key) →
        exec (.clearAttention mode key) s = .next
          { s with table := s.table.map fun r => if r.key = key then { r with attention := 0, previous := none } else r }) ∧
      ((∀ r ∈ s.table, r.key ≠ key) → exec (.clearAttention mode key) s = .next (told (.notFound key))) ∧
      (key = 0 → exec (.watchSet mode key) s = .next (told (.badField 0x29 none))) ∧
      (key ≠ 0 → key ∈ s.node.watch → exec (.watchSet mode key) s = .next s) ∧
      (key ≠ 0 → key ∉ s.node.watch → s.node.watch.length < 4 →
        exec (.watchSet mode key) s = .next { s with node := { s.node with watch := s.node.watch ++ [key] } }) ∧
      (key ≠ 0 → key ∉ s.node.watch → s.node.watch.length = 4 →
        exec (.watchSet mode key) s = .next { s with node := { s.node with watch := s.node.watch.tail ++ [key] } }) ∧
      exec .watchClear s = .next { s with node := { s.node with watch := [] } } ∧
      exec (.unknownMessageKind mode kind) s = .next (told (.badField kind none))) ∧
    (s.node.state ≠ .joining → s.node.state ≠ .running →
      exec (.clearAttention mode key) s = .next s ∧ exec (.watchSet mode key) s = .next s ∧
        exec .watchClear s = .next s ∧ exec (.unknownMessageKind mode kind) s = .next s)

/-! ### The time base -/

/-- OWN_CYCLE_BOUNDARY (R61, R75 to R77, R80, R83, R85, R129, R138, R161, R163): the number advances mod 64, the tick count
restarts, the accumulator steps and gives the cycle its length, and the fall from 63 to 0 advances S; the trim stays. Both
silence counts rise, up to 3. At a start that carries no second tick and finds no commit pending: every poll timer and
every play count advances, and a cue at its play limit is stopped; outside POWER-UP the rows are composed for the new
cycle; and a chain end originates a report frame with this node's oldest report in it. It holds whatever order the free
works of the cycle start take (assumption 3). That the boundary commanded alone ends the cycle whatever its tick count is
the model's choice (assumption 1), as is that a timer standing at 0 with no poll in flight makes the poll due again, which
a FAULT zone needs whose poll a line break ended (assumption 8), that the frame originated is held as sent in full
(assumption 18), and that the first composition after the numbering was set back to exactly 32 is a full send
(assumption 35). -/
def Obligations.BoundaryStartsNextCycle : Prop :=
  ∀ s : State, s.time.cycle < 64 →
    ∃ t, exec .ownCycleBoundary s = .next t ∧
      t.time.tickCount = 0 ∧ t.time.cycle = (s.time.cycle + 1) % 64 ∧
      (s.time.accumulator + s.time.trimFrac < 16 →
        t.time.accumulator = s.time.accumulator + s.time.trimFrac ∧ t.time.cycleLength = s.time.trimInt) ∧
      (16 ≤ s.time.accumulator + s.time.trimFrac →
        t.time.accumulator = s.time.accumulator + s.time.trimFrac - 16 ∧ t.time.cycleLength = s.time.trimInt + 1) ∧
      t.time.frameStarts = 0 ∧ t.time.trimInt = s.time.trimInt ∧ t.time.trimFrac = s.time.trimFrac ∧
      (s.time.cycle ≠ 63 → t.time.second = s.time.second ∧ t.time.day = s.time.day) ∧
      (s.time.cycle = 63 → s.time.second ≠ 86399 → t.time.second = s.time.second + 1 ∧ t.time.day = s.time.day) ∧
      (s.time.cycle = 63 → s.time.second = 86399 → t.time.second = 0 ∧ t.time.day = (s.time.day + 1) % 65536) ∧
      t.ovr = s.ovr ∧ t.rows.standing = s.rows.standing ∧
      (s.node.state ≠ .powerUp → s.chain.upSilence ≤ 3 → s.chain.downSilence ≤ 3 →
        t.chain.upSilence = min 3 (s.chain.upSilence + 1) ∧ t.chain.downSilence = min 3 (s.chain.downSilence + 1) ∧
        t.chain.grant = (if s.chain.upSilence = 2 then none else s.chain.grant) ∧
        (s.chain.downSilence = 2 → s.chain.partnerSeen = true → t.chain.chainEnd = true ∧ t.chain.partnerSeen = false) ∧
        (s.chain.downSilence ≠ 2 ∨ s.chain.partnerSeen = false →
          t.chain.chainEnd = s.chain.chainEnd ∧ t.chain.partnerSeen = s.chain.partnerSeen)) ∧
      (s.node.state ≠ .powerUp → s.time.cycle ≠ 63 → s.store.commit = none →
        (let stops (z : Zone) : Prop := z.state = .playing ∧ ∃ c ∈ s.cues.queue,
           z.holding = some c.id ∧ c.state = .playing ∧ c.playCount + 1 = c.playLimit * 64
         t.cues = { s.cues with queue := s.cues.queue.map fun c =>
           if c.state = .playing then { c with playCount := c.playCount + 1 } else c } ∧
         ∀ n, n < 8 →
          let z := s.line.zone n
          (stops z → t.line.zone n = { z with state := .stopping, timer := none, pollDue := false } ∧
            ∀ i, z.holding = some i → LineJob.stop n i ∈ t.line.jobs) ∧
          (¬stops z → z.state = .playing ∨ z.state = .fault →
            (∀ k, z.timer = some (k + 1) →
              t.line.zone n = { z with timer := some k, pollDue := z.pollDue || decide (k = 0) }) ∧
            (z.timer = some 0 → (∀ a, s.line.status ≠ .transaction (.poll n a)) →
              t.line.zone n = { z with pollDue := true }) ∧
            (z.timer = some 0 → (∃ a, s.line.status = .transaction (.poll n a)) → t.line.zone n = z)) ∧
          (z.state ≠ .playing → z.state ≠ .fault → t.line.zone n = z)) ∧
        (s.chain.upSilence ≠ 2 →
          let u : State := { s with time := t.time }
          t.rows.lastSent = (List.range 24).map (fun i => some (composeRow u (i + 1))) ∧
          t.ports.tile =
            ((List.range 24).filter fun i =>
                t.time.cycle == 32 || s.rows.fullDue || s.rows.lastSent.getD i none != some (composeRow u (i + 1))).map
              (fun i => (composeRow u (i + 1)).bytes (i + 1))) ∧
        (s.chain.chainEnd = false → t.ports.up = s.ports.up ∧ t.ports.upLeft = s.ports.upLeft) ∧
        (s.chain.chainEnd = true →
          t.ports.upLeft = 7980 ∧ t.ports.up.length = 133 ∧ byteAt t.ports.up 0 = t.time.cycle ∧
            carriedCheck t.ports.up = crc32 (t.ports.up.take 129)) ∧
        (∀ p r rest, s.chain.chainEnd = true → s.node.state ≠ .positionFault → s.chain.position = some p → 1 ≤ p →
          p ≤ 48 → s.node.reports = r :: rest → s.chain.upSilence ≠ 2 → s.chain.downSilence ≠ 2 →
          let n := if s.chain.grant = some p then 0 else 1
          t.node = { s.node with reports := rest, loss := false } ∧
            byteAt t.ports.up (1 + 32 * n) = (if s.node.loss then 0xC0 else 0x80) ∧
            byteAt t.ports.up (2 + 32 * n) = p ∧ byteAt t.ports.up (3 + 32 * n) = r.code))

/-- FRAME_START (R81, R161): the tick count restarts and the upstream silence ends; within the first 187 500 ticks the frame
start merges into the cycle, which keeps its number and length, and later it starts the next one. That exactly 187 500
ticks counted is already later is deduced (assumption 6). -/
def Obligations.FrameStartMergesOrStartsCycle : Prop :=
  ∀ s : State, s.chain.upBreak = false →
    (s.time.tickCount < 187500 →
      ∃ t, exec .frameStart s = .next t ∧ t.time.tickCount = 0 ∧ t.time.cycle = s.time.cycle ∧
        t.time.cycleLength = s.time.cycleLength ∧ t.time.accumulator = s.time.accumulator ∧
        t.time.frameStarts = s.time.frameStarts + 1 ∧ t.time.second = s.time.second ∧ t.time.clock = s.time.clock ∧
        t.chain = { s.chain with upSilence := 0 } ∧ t.table = s.table ∧ t.cues = s.cues ∧ t.line = s.line ∧
        t.rows = s.rows ∧ t.store = s.store ∧ t.ovr = s.ovr ∧ t.ports = s.ports) ∧
    (187500 ≤ s.time.tickCount → s.time.cycle < 64 →
      ∃ t, exec .frameStart s = .next t ∧ t.time.tickCount = 0 ∧ t.time.cycle = (s.time.cycle + 1) % 64 ∧
        t.time.cycleLength = (if 16 ≤ s.time.accumulator + s.time.trimFrac then s.time.trimInt + 1 else s.time.trimInt) ∧
        t.time.accumulator = (s.time.accumulator + s.time.trimFrac) -
          (if 16 ≤ s.time.accumulator + s.time.trimFrac then 16 else 0) ∧
        t.time.frameStarts = 1 ∧ t.chain = { s.chain with upSilence := 0 } ∧
        t.time.second = (if s.time.cycle = 63 then (if s.time.second = 86399 then 0 else s.time.second + 1)
          else s.time.second) ∧
        t.ovr = s.ovr)

/-- SECOND_TICK (R85): the BCD clock advances by one second, digit carrying into digit and the hours rolling from 23:59:59,
S rises by 1 or from 86399 becomes 0 and the day turns, and the two stay in step; at any other tick, civil midnight among
them, the day number stays and no record is lowered. -/
def Obligations.SecondTickAdvancesClock : Prop :=
  ∀ s : State, s.timeOk →
    ∃ t, exec .secondTick s = .next t ∧
      (s.time.second < 86399 → t.time.second = s.time.second + 1 ∧ t.time.day = s.time.day ∧
        ∀ r ∈ t.table, ∃ q ∈ s.table, r.key = q.key ∧ r.sm = q.sm) ∧
      (s.time.second = 86399 → t.time.second = 0 ∧ t.time.day = (s.time.day + 1) % 65536) ∧
      t.time.clock = civilClock s.bank.params.dayStart t.time.second ∧
      (let k := s.time.clock
       let k' := t.time.clock
       k'.secUnits = (if k.secUnits = 9 then 0 else k.secUnits + 1) ∧
       (k.secUnits ≠ 9 → k'.secTens = k.secTens) ∧
       (k.secUnits = 9 → k'.secTens = (if k.secTens = 5 then 0 else k.secTens + 1)) ∧
       (k.secUnits = 9 ∧ k.secTens = 5 → k'.minUnits = (if k.minUnits = 9 then 0 else k.minUnits + 1)) ∧
       (¬(k.secUnits = 9 ∧ k.secTens = 5) →
         k'.minUnits = k.minUnits ∧ k'.minTens = k.minTens ∧ k'.hourUnits = k.hourUnits ∧ k'.hourTens = k.hourTens) ∧
       (k = { hourTens := 2, hourUnits := 3, minTens := 5, minUnits := 9, secTens := 5, secUnits := 9 } →
         k' = { hourTens := 0, hourUnits := 0, minTens := 0, minUnits := 0, secTens := 0, secUnits := 0 }))

/-- SECOND_TICK (R20 to R22, R48, R54, R100, R116, R131): attention falls by one second, at the day turn the records of the
day before leave and the rest are lowered, those past their grace retire, and every record that remains is decided anew
at the new second. Every cue is lowered at the day turn, the WAITING and DUE cues past their expiry are dropped, those
released become DUE, and a DUE cue with no usable zone is dropped; this is stated where no rule names a template, and its
reports where no key is watched. In HOLDOVER the count rises, and at the limit the node enters ISOLATED with table and
cues gone. Whatever order the blocks take (assumption 3). -/
def Obligations.SecondTickRenewsServiceTable : Prop :=
  ∀ s : State, (s.table.Pairwise fun a b => a.key ≠ b.key) →
    ∃ t, exec .secondTick s = .next t ∧
      let sec := if s.time.second = 86399 then 0 else s.time.second + 1
      let aged := s.table.map fun r =>
        if r.attention = 0 then r
        else { r with attention := r.attention - 1, previous := if r.attention = 1 then none else r.previous }
      let turned :=
        if s.time.second = 86399 then
          (aged.filter fun r => decide (0 ≤ r.sm)).map fun r => { r with sm := r.sm - 1440 }
        else aged
      let kept := turned.filter fun r => decide (-(s.bank.params.grace : Int) * 60 < retirementRemaining r sec)
      let lowered := if s.time.second = 86399 then s.cues.queue.map (loweredCue 86400) else s.cues.queue
      let late (c : Cue) : Bool := c.waits && decide (c.expiry < (sec : Int))
      let released := (lowered.filter fun c => !late c).map (releasedCue sec)
      let homeless (c : Cue) : Bool := c.state == .due && (usableZones s.line c.zones).isEmpty
      let told := nodeAfterReports ((lowered.filter late).map (Cue.dropReport .expired) ++
        (released.filter homeless).map (Cue.dropReport .noZone)) s.node
      let count := s.node.holdover + 1
      t.store = s.store ∧ t.rows = s.rows ∧ t.chain = s.chain ∧ t.ovr = s.ovr ∧ t.ports = s.ports ∧
      (s.node.state ≠ .holdover ∨ count < s.bank.params.holdoverLimit →
        t.table = kept.map (decideRules s.bank sec) ∧ t.line = s.line ∧ t.node.state = s.node.state ∧
        t.node.holdover = (if s.node.state = .holdover then count else s.node.holdover) ∧
        ((∀ n, (s.bank.rule n).template = none) →
          t.cues = { s.cues with queue := released.filter fun c => !homeless c } ∧
          (s.node.watch = [] →
            t.node = if s.node.state = .holdover then { told with holdover := count } else told))) ∧
      (s.node.state = .holdover → s.bank.params.holdoverLimit ≤ count →
        t.node.state = .isolated ∧ t.node.holdover = count ∧ Flushed s t)

/-- DAY_TURN (R22, R84 to R86, R116): where S stands at 86399 it becomes 0, the day number rises, records of negative SM
leave with a WATCH report for each watched key, the rest are lowered by a day, and so is every cue; elsewhere nothing
changes. That the event taken alone carries these works is the model's choice (assumption 1), and so is the order of the
WATCH reports of several records that leave, which is that of the table (assumption 34). -/
def Obligations.DayTurnLowersTableAndCues : Prop :=
  ∀ s : State,
    (s.time.second = 86399 →
      ∃ t, exec .dayTurn s = .next t ∧ t.time.second = 0 ∧ t.time.day = (s.time.day + 1) % 65536 ∧
        (s.timeOk → t.time.clock = civilClock s.bank.params.dayStart 0) ∧
        t.table = (s.table.filter fun r => decide (0 ≤ r.sm)).map (fun r => { r with sm := r.sm - 1440 }) ∧
        t.cues.queue = s.cues.queue.map (fun c =>
          { c with release := c.release - 86400, expiry := c.expiry - 86400
                   retryHold := c.retryHold.map fun h => h - 86400 }) ∧
        t.cues.nextId = s.cues.nextId ∧
        t.node =
          nodeAfterReports
            ((s.table.filter fun r => decide (r.sm < 0) && s.node.watch.contains r.key).map fun r =>
              .watch .retired r.summary)
            s.node ∧
        t.line = s.line ∧ t.store = s.store ∧ t.rows = s.rows ∧ t.ovr = s.ovr ∧ t.chain = s.chain) ∧
    (s.time.second ≠ 86399 → exec .dayTurn s = .next s)

/-- TRIM_WINDOW_CLOSE (R89, R90): an accepted window replaces the trim and ends the excursion, the first rejected one sets
the excursion flag with one REFERENCE FAULT, a later one does neither, and each opens the next window. That the event
commanded alone carries its T16 and closes the window in progress whatever cycles it has counted is the model's choice
(assumption 1). -/
def Obligations.TrimWindowAcceptedOrRejected : Prop :=
  ∀ (s : State) (t16 : Nat), s.time.window.isSome = true →
    (374925 ≤ t16 / 16 → t16 / 16 ≤ 375075 →
      exec (.trimWindowClose t16) s = .next
        { s with
          time :=
            { s.time with
              trimInt := t16 / 16, trimFrac := t16 % 16, excursion := false, window := some { cycles := 0, ticks := 0 } } }) ∧
    (t16 / 16 < 374925 ∨ 375075 < t16 / 16 →
      (s.time.excursion = false →
        exec (.trimWindowClose t16) s = .next
          { s with
            time := { s.time with excursion := true, window := some { cycles := 0, ticks := 0 } }
            node := nodeAfterReports [.referenceFault (t16 / 16) (t16 % 16)] s.node }) ∧
      (s.time.excursion = true →
        exec (.trimWindowClose t16) s = .next
          { s with time := { s.time with window := some { cycles := 0, ticks := 0 } } }))

/-- R93: the class of a mark by the first line of the table that holds, with dd the day difference mod 65536 read as a
signed number and Δ the step; and what the classes then imply of dd. -/
def Obligations.MarkClassByFirstLine : Prop :=
  ∀ (t : TimeBase) (newDay newSec : Nat) (dd : Int),
    t.day < 65536 → newDay < 65536 → t.second ≤ 86399 → newSec ≤ 86399 →
    -32768 ≤ dd → dd ≤ 32767 → (dd - ((newDay : Int) - (t.day : Int))) % 65536 = 0 →
    let step := dd * 86400 + (newSec : Int) - (t.second : Int)
    classifyMark t newDay newSec =
      (if step = 0 then .none
       else if dd < 0 ∨ 86400 < step then .dateJump
       else if step < 0 then .setBack
       else if 0 < step ∧ step ≤ 300 then .shortStep
       else .longStep) ∧
    (classifyMark t newDay newSec = .setBack → dd = 0) ∧
    (classifyMark t newDay newSec = .shortStep ∨ classifyMark t newDay newSec = .longStep →
      (dd = 0 ∨ dd = 1) ∧ 0 < step ∧ step ≤ 86400) ∧
    (classifyMark t newDay newSec = .longStep → 300 < step) ∧
    (dd = 1 → newSec = t.second → step = 86400 ∧ classifyMark t newDay newSec = .longStep) ∧
    (t.day = 65535 → newDay = 0 → dd = 1)

/-- FRAME (R22, R55, R82, R91 to R98, R117, R127, R174): a time mark in a cycle-0 frame that passes its check sets S, the day
number and the BCD clock in JOINING and in RUNNING. The first mark of a JOINING node changes no record and no cue and,
with a generation active, takes it to RUNNING. A later one is classified: a DATE JUMP reports, empties the table and
flushes the cues; a SET BACK reports CLOCK STEP, clears the holds of DUE cues and decides every record anew; a SHORT or
LONG STEP reports CLOCK STEP, turns the day where it crosses one, drops the WAITING cues a LONG STEP carries past their
release and then the WAITING and DUE cues past their expiry, releases, lowers, and retires and decides the records. The
cues are stated where no rule names a template, the reports where no key is watched and the position stays. Which work
of a step within one day comes first is DEDUCED (assumption 17); the position a STATE CHANGED carries as the old one is
that held before the frame (R173). -/
def Obligations.TimeMarkSetsClock : Prop :=
  ∀ (s : State) (bs : List Byte) (f : ParsedFrame) (day sec : Nat),
    s.timeOk → s.node.state = .joining ∨ s.node.state = .running → s.chain.upBreak = false → parseFrame bs = some f →
    f.mark = some (day, sec) → sec ≤ 86399 → f.messages = [] → f.hop + 1 ≤ 48 → f.cycle = s.time.cycle →
    let cls := classifyMark s.time day sec
    let delta := markStep s.time day sec
    let stays := s.chain.position = some (f.hop + 1)
    let untemplated := ∀ n, (s.bank.rule n).template = none
    ∃ t, exec (.frame bs) s = .next t ∧ t.time.second = sec ∧ t.time.day = day ∧
      t.time.clock = civilClock s.bank.params.dayStart sec ∧ t.time.cycle = s.time.cycle ∧
      t.time.tickCount = s.time.tickCount ∧ t.store = s.store ∧ t.ovr = s.ovr ∧ t.rows = s.rows ∧
      (s.time.setPending = true →
        t.table = s.table ∧ t.cues = s.cues ∧ t.line = s.line ∧ t.time.synchronised = true ∧ t.time.setPending = false ∧
        (s.node.state = .joining → s.store.generation ≠ 0 →
          t.node =
            nodeAfterReports [.stateChanged .joining .running s.chain.position (some (f.hop + 1)) none]
              { s.node with state := .running, holdover := 0 }) ∧
        (s.node.state = .joining → s.store.generation = 0 → t.node = s.node)) ∧
      (s.time.setPending = false → (s.table.Pairwise fun a b => a.key ≠ b.key) →
        (cls = .none → t.table = s.table ∧ t.cues = s.cues ∧ t.line = s.line ∧ (stays → t.node = s.node)) ∧
        (cls = .dateJump → Flushed s t ∧
          (stays → t.node = nodeAfterReports
            (.dateJump s.time.day s.time.second day sec :: s.cues.queue.map (Cue.dropReport .flushed)) s.node)) ∧
        (cls = .setBack →
          t.table = s.table.map (decideRules s.bank sec) ∧ t.line = s.line ∧
          (untemplated →
            t.cues = { s.cues with queue := s.cues.queue.map fun c =>
              if c.state = .due then { c with retryHold := none } else c } ∧
            (stays → t.node = nodeAfterReports [.clockStep .setBack delta] s.node))) ∧
        (∀ step : StepClass, (step = .shortStep ∧ cls = .shortStep) ∨ (step = .longStep ∧ cls = .longStep) →
          let crosses := decide (dayDifference s.time.day day = 1)
          let turned :=
            if crosses then (s.table.filter fun r => decide (0 ≤ r.sm)).map fun r => { r with sm := r.sm - 1440 }
            else s.table
          let kept := turned.filter fun r => decide (-(s.bank.params.grace : Int) * 60 < retirementRemaining r sec)
          let new : Int := if crosses then (sec : Int) + 86400 else (sec : Int)
          let skipped (c : Cue) : Bool :=
            step == .longStep && c.state == .waiting && decide ((s.time.second : Int) < c.release) && decide (c.release ≤ new)
          let late (c : Cue) : Bool := c.waits && decide (c.expiry < new)
          let q1 := s.cues.queue.filter fun c => !skipped c
          let q2 := (q1.filter fun c => !late c).map (releasedCue new)
          let q3 := if crosses then q2.map (loweredCue 86400) else q2
          let homeless (c : Cue) : Bool := c.state == .due && (usableZones s.line c.zones).isEmpty
          t.table = kept.map (decideRules s.bank sec) ∧ t.line = s.line ∧
          (untemplated →
            t.cues = { s.cues with queue := q3.filter fun c => !homeless c } ∧
            (stays → s.node.watch = [] →
              t.node = nodeAfterReports
                (.clockStep step delta :: ((s.cues.queue.filter skipped).map (Cue.dropReport .skipped) ++
                  (q1.filter late).map (Cue.dropReport .expired) ++ (q3.filter homeless).map (Cue.dropReport .noZone)))
                s.node))))

/-! ### The chain interface -/

/-- FRAME (R154, R156, R157): a frame that fails its check makes the grant none and is forwarded, with the hop field this
node sends; it changes nothing else. What is forwarded of a frame that ends before byte 2 is the model's choice
(assumption 37). -/
def Obligations.FailingFrameOnlyClearsGrant : Prop :=
  ∀ (s : State) (bs : List Byte),
    s.node.state ≠ .powerUp → s.chain.upBreak = false → parseFrame bs = none →
    exec (.frame bs) s = .next
      { s with
        chain := { s.chain with grant := none }
        ports := { s.ports with down := forwardFrame s.chain.position bs } }

/-- R160: how a message is addressed to this node, if it is: by its position, by a group of the active group mask, or with
all nodes. -/
def addressedAs (s : State) (address : Nat) (mode : AddrMode) : Prop :=
  (mode = .position ∧ address / 64 = 0 ∧ 1 ≤ address % 64 ∧ address % 64 ≤ 48 ∧ s.chain.position = some (address % 64)) ∨
    (mode = .group ∧ address / 64 = 1 ∧ address % 64 ≤ 7 ∧ s.bank.params.groupMask.getLsbD (address % 64) = true) ∨
    (mode = .all ∧ address / 64 = 2)

/-- R160, 9.7: the command a message is, by its kind and body; `none` where the length of the body does not agree with the
layout of its kind, or a query or control names no kind. -/
def messageCommand (mode : AddrMode) (m : RawMessage) : Option Instr :=
  let bs := m.body
  let key := u16At bs 1
  match m.kind with
  | 0x01 => (parsePost bs).map (.servicePost mode)
  | 0x02 => (parseAmend bs).map (.serviceAmend mode)
  | 0x03 => if bs.length = 2 then some (.serviceWithdraw mode (u16At bs 0)) else none
  | 0x08 => (parseNotice bs).map (.noticeSet mode)
  | 0x10 => (parseCuePost bs).map (.cuePost mode)
  | 0x18 => (parseOverride bs).map (.overrideSet mode)
  | 0x19 => if bs.length = 1 then some (.overrideClear mode (byteAt bs 0)) else none
  | 0x20 => if 2 ≤ bs.length then some (.tableWrite mode (byteAt bs 0) (byteAt bs 1) (bs.drop 2)) else none
  | 0x21 => if bs.length = 0 then some (.tableCopy mode) else none
  | 0x22 => if bs.length = 2 then some (.tableCommit mode (byteAt bs 0) (byteAt bs 1)) else none
  | 0x28 => match byteAt bs 0, bs.length with
    | 0, 1 => some .queryState
    | 1, 3 => some (.queryRecord key)
    | 2, 2 => some (.queryCues (byteAt bs 1))
    | 3, 1 => some .queryZones
    | 4, 1 => some .queryResetCause
    | 5, 1 => some .queryTrim
    | _, _ => none
  | 0x29 => match byteAt bs 0, bs.length with
    | 0, 1 => some .commandReset
    | 1, 3 => some (.clearAttention mode key)
    | 2, 3 => some (.watchSet mode key)
    | 3, 1 => some .watchClear
    | _, _ => none
  | k => some (.unknownMessageKind mode k)

/-- R160: what one message of a frame leaves. In JOINING and RUNNING a message addressed to this node is the command it
spells; one that spells none is refused, with BAD FIELD when position-addressed and its owner takes its kind in the node
state (assumption 22); any other message, and any message in another state, passes over. -/
def MessageTaken (m : RawMessage) (s t : State) : Prop :=
  let takes := s.node.state = .joining ∨ s.node.state = .running
  let owned := m.kind ∈ [0x18, 0x19, 0x20, 0x21, 0x22, 0x28, 0x29] ∨ s.node.state = .running
  let key := if m.kind ≤ 3 ∧ 2 ≤ m.body.length then some (u16At m.body 0) else none
  (¬takes ∨ (∀ mode, ¬addressedAs s m.address mode) → t = s) ∧
  ∀ mode, takes → addressedAs s m.address mode →
    (∀ c, messageCommand mode m = some c → exec c s = .next t) ∧
    (messageCommand mode m = none →
      t = { s with
        node := if mode = .position ∧ owned then nodeAfterReports [.badField m.kind key] s.node else s.node })

/-- R158, R160: the messages of a frame, each taken whole before the next. -/
def MessagesTaken : List RawMessage → State → State → Prop
  | [], s, t => t = s
  | m :: ms, s, t => ∃ u, MessageTaken m s u ∧ MessagesTaken ms u t

/-- FRAME (R82, R156, R158 to R160, R164, R174 to R176): a frame that passes its check gives the position, the grant and the
cycle number, and takes the node to the state of 11.5; entering POSITION FAULT empties the table and the cue queue. Its
messages are then taken in frame order, each that is addressed to this node as the command it spells; this is stated for
a frame that brings no other change in JOINING or RUNNING, and for no messages in every state. What BAD FIELD carries is
DEDUCED (assumption 22), and so are the position above 48 in each state (assumption 19) and that a numbering set back to
exactly 32 makes the next composition a full send (R77, assumption 35). -/
def Obligations.ValidFrameGivesPositionAndState : Prop :=
  ∀ (s : State) (bs : List Byte) (f : ParsedFrame),
    s.node.state ≠ .powerUp → s.chain.upBreak = false → parseFrame bs = some f → f.mark = none →
    (f.messages = [] →
      ∃ t, exec (.frame bs) s = .next t ∧ t.chain.position = some (f.hop + 1) ∧ t.chain.hopCount = some f.hop ∧
        t.chain.grant = f.grant ∧ t.time.cycle = f.cycle ∧ t.ports.down = forwardFrame s.chain.position bs ∧
        (f.cycle = s.time.cycle → t.rows = s.rows) ∧
        (f.cycle ≠ s.time.cycle →
          t.rows = { s.rows with fullDue := decide (f.cycle = 32 ∧ 32 < s.time.cycle) }) ∧
        (48 < f.hop + 1 → t.node.state = .positionFault ∧
          (s.node.state ≠ .positionFault → t.table = [] ∧ t.cues.queue = [])) ∧
        (f.hop + 1 ≤ 48 →
          (s.node.state = .awaitChain ∨ s.node.state = .isolated ∨ s.node.state = .positionFault →
            t.node.state = .joining ∧ t.time.setPending = true) ∧
          (s.node.state = .holdover → t.node.state = .running ∧ t.node.holdover = 0) ∧
          (s.node.state = .running → t.node.state = .running) ∧
          (s.node.state = .joining → t.node.state = .joining))) ∧
    (s.node.state = .joining ∨ s.node.state = .running → s.chain.position = some (f.hop + 1) → f.hop + 1 ≤ 48 →
      f.cycle = s.time.cycle →
      ∃ t, exec (.frame bs) s = .next t ∧
        MessagesTaken f.messages
          { s with
            chain := { s.chain with hopCount := some f.hop, grant := f.grant }
            ports := { s.ports with down := forwardFrame s.chain.position bs } } t)

/-- R154, R156: forwarding changes the hop field alone. A frame that passes here goes on as the same frame with the hop count
one higher, up to 63, and a frame whose hop field agrees and which fails here fails after forwarding. Where the two bytes
of the hop field disagree, a node that holds a position sends that position, up to 63, in a field that agrees, and one
that holds none sends the frame as it came. How a frame that ends before byte 2 is read is the model's choice
(assumption 37). -/
def Obligations.ForwardingChangesHopFieldAlone : Prop :=
  ∀ (bs : List Byte) (position : Option Nat),
    (forwardFrame position bs).length = bs.length ∧
    (∀ i, i ≠ 1 → i ≠ 2 → (forwardFrame position bs)[i]? = bs[i]?) ∧
    (∀ f, parseFrame bs = some f →
      parseFrame (forwardFrame position bs) = some { f with hop := min 63 (f.hop + 1) }) ∧
    (hopAgrees bs = true → parseFrame bs = none → parseFrame (forwardFrame position bs) = none) ∧
    (hopAgrees bs = false → position = none → forwardFrame position bs = bs) ∧
    (∀ p, hopAgrees bs = false → position = some p → 3 ≤ bs.length →
      hopAgrees (forwardFrame position bs) = true ∧ hopCountOf (forwardFrame position bs) = min 63 p)

/-- UPSTREAM_FRAME_START, DOWNSTREAM_LOST, BREAK_STATE, BREAK_STATE_END (R162, R163): what each does to the two ports, outside
POWER-UP. That DOWNSTREAM_LOST commanded alone brings the silence count to 3 is the model's choice (assumption 1), and so
is what of a cut frame of this node's own has been sent, some number of whole bytes below 133 (assumption 18). -/
def Obligations.ChainPortEvents : Prop :=
  ∀ s : State, s.node.state ≠ .powerUp →
    (s.chain.chainEnd = true → s.ports.upLeft = 0 →
      exec .upstreamFrameStart s = .next
        { s with chain := { s.chain with downSilence := 0, chainEnd := false, partnerSeen := true } }) ∧
    (s.chain.chainEnd = true → 0 < s.ports.upLeft →
      ∃ n, exec .upstreamFrameStart s = .next
        { s with
          chain := { s.chain with downSilence := 0, chainEnd := false, partnerSeen := true }
          ports := { s.ports with up := s.ports.up.take n, upLeft := 0 } } ∧ n < 133) ∧
    (s.chain.chainEnd = false →
      exec .upstreamFrameStart s = .next { s with chain := { s.chain with downSilence := 0 } }) ∧
    (s.chain.downSilence < 3 → s.chain.partnerSeen = true →
      exec .downstreamLost s = .next
        { s with
          chain := { s.chain with downSilence := 3, partnerSeen := false, chainEnd := true }
          node := nodeAfterReports [.downstreamLost s.chain.position] s.node }) ∧
    (s.chain.downSilence < 3 → s.chain.partnerSeen = false →
      exec .downstreamLost s = .next { s with chain := { s.chain with downSilence := 3 } }) ∧
    (s.chain.upBreak = false →
      exec .breakState s = .next { s with chain := { s.chain with upBreak := true, breakLength := 0, downBreak := true } }) ∧
    exec .breakStateEnd s = .next { s with chain := { s.chain with upBreak := false, breakLength := 0, downBreak := false } }

/-- UPSTREAM_FRAME (R164, R165, R172, 9.7): the oldest report goes into slot 0 when the grant is held and the slot is empty,
else into the lowest empty slot of 1 to 3, with the loss flag; every other byte before the check passes as it came, and
the check is worked out anew, or complemented where the arriving one failed. The report's body bytes are left open
(assumption 4), and that a slot is empty when its filled bit is clear is the model's reading (assumption 18, DEDUCED). -/
def Obligations.UpstreamFramePlacesOldestReport : Prop :=
  ∀ (s : State) (bs : List Byte) (p : Nat) (r : Report) (rest : List Report),
    s.node.state ≠ .powerUp → s.node.state ≠ .positionFault → s.chain.position = some p → 1 ≤ p → p ≤ 48 →
    s.node.reports = r :: rest → bs.length = 133 →
    let empty (n : Nat) : Bool := !(bs.getD (1 + 32 * n) 0#8).getLsbD 7
    let granted := decide (s.chain.grant = some p) && empty 0
    (∀ n, (granted = true ∧ n = 0) ∨
        (granted = false ∧ 1 ≤ n ∧ n ≤ 3 ∧ empty n = true ∧ ∀ m, 1 ≤ m → m < n → empty m = false) →
      ∃ t, exec (.upstreamFrame bs) s = .next t ∧ t.node = { s.node with reports := rest, loss := false } ∧
        t.ports.up.length = 133 ∧
        byteAt t.ports.up (1 + 32 * n) = (if s.node.loss then 0xC0 else 0x80) ∧
        byteAt t.ports.up (2 + 32 * n) = p ∧ byteAt t.ports.up (3 + 32 * n) = r.code ∧
        byteAt t.ports.up (4 + 32 * n) ≤ 28 ∧
        (∀ i, i < 129 → i < 1 + 32 * n ∨ 33 + 32 * n ≤ i → t.ports.up[i]? = bs[i]?) ∧
        (carriedCheck bs = crc32 (bs.take 129) → carriedCheck t.ports.up = crc32 (t.ports.up.take 129)) ∧
        (carriedCheck bs ≠ crc32 (bs.take 129) →
          carriedCheck t.ports.up = crc32 (t.ports.up.take 129) ^^^ 0xFFFFFFFF) ∧
        t.chain = s.chain ∧ t.ports.down = s.ports.down ∧ t.table = s.table ∧ t.cues = s.cues) ∧
    (granted = false → (∀ m, 1 ≤ m → m ≤ 3 → empty m = false) →
      ∃ t, exec (.upstreamFrame bs) s = .next t ∧ t.node = s.node ∧ t.ports.up.take 129 = bs.take 129)

/-! ### What a cue request gives (R102 to R113, R115) -/

/-- R104, R106: the phrases one element of a template gives for a request's record. -/
def elementGives (s : State) (tm : CueTemplate) (r : Option ServiceRecord) (e : Element) : List Nat :=
  let number (n : Nat) : List Nat := if tm.numberBase + n ≤ 1023 then [tm.numberBase + n] else []
  let time (m : Int) : List Nat :=
    let civil := (((s.bank.params.dayStart : Int) + m) % 1440).toNat
    if tm.numberBase + civil / 60 ≤ 1023 ∧ tm.numberBase + civil % 60 ≤ 1023 then
      [tm.numberBase + civil / 60, tm.numberBase + civil % 60]
    else []
  match e with
  | .fixed p => [p]
  | .dest => r.toList.map fun r => r.destination
  | .vias => r.toList.flatMap fun r => r.vias
  | .platform => (r.bind fun r => r.platform).toList.flatMap number
  | .oldPlatform => (r.bind fun r => r.previous).toList.flatMap number
  | .schedTime => r.toList.flatMap fun r => time r.sm
  | .expectedTime => r.toList.flatMap fun r => time (if r.cancelled then r.sm else r.sm + r.delay.getD 0)
  | .delayMinutes => (r.bind fun r => r.delay).toList.flatMap fun d => if 0 < d then number d.toNat else []
  | .other _ => []

/-- R104: the language list of a template for a request's record. -/
def languageGives (s : State) (tm : CueTemplate) (r : Option ServiceRecord) : List Nat :=
  (tm.elements.take tm.elementCount).flatMap (elementGives s tm r)

/-- R105: the phrase codes of a language list of length n: of L languages, all where L × n is at most 16, else the first
16 div n of them, else the first alone, and never more than 16 codes. -/
def spokenCodes (languages : BitVec 4) (list : List Nat) : List Nat :=
  let ls := (List.range 4).filter fun i => languages.getLsbD i
  let kept := if ls.length * list.length ≤ 16 then ls.length else if list.length ≤ 16 then 16 / list.length else 1
  ((ls.take kept).flatMap fun l => list.map fun p => l * 1024 + p).take 16

/-- R107: the zone mask of a request: what the zone source gives less the unused zones, or else the fallback mask less
them. -/
def zonesGiven (s : State) (tm : CueTemplate) (r : Option ServiceRecord) : BitVec 8 :=
  let entry (p : Option Nat) : BitVec 8 := match p with
    | none => 0#8
    | some n => s.bank.platformZones.getD (n - 1) 0#8
  let source : BitVec 8 := match tm.zoneSource, r with
    | .fixed, _ => tm.fixedZones
    | .platform, some r => entry r.platform
    | .platformOld, some r => entry r.platform ||| entry r.previous
    | _, _ => 0#8
  if source &&& s.bank.zonesInUse = 0#8 then tm.fallbackZones &&& s.bank.zonesInUse else source &&& s.bank.zonesInUse

/-- R103 to R107, R110, R115: the cue a request for template `n` gives, under the id given. -/
def requestedCue (s : State) (source : CueSource) (key n : Nat) (r : Option ServiceRecord) (id : Nat) : Cue :=
  let tm := s.bank.templates.getD n emptyTemplate
  let release : Int := match tm.release, r with
    | some m, some r => (if r.cancelled then r.sm else r.sm + r.delay.getD 0) * 60 - (m : Int) * 60
    | _, _ => (s.time.second : Int)
  { id := id, source := source, key := key, template := some n
    codes := spokenCodes tm.languages (languageGives s tm r), zones := zonesGiven s tm r
    priority := if source = .overrideCue then 7 else tm.priority, release := release
    expiry := release + (tm.lifetime : Int), playLimit := tm.playLimit
    state := if release ≤ (s.time.second : Int) then .due else .waiting
    retryHold := none, playCount := 0, preempted := false, completed := 0#8, lost := 0#8 }

/-- R131: every DUE cue with no usable zone dropped with reason NO ZONE. -/
def withoutHomeless (s : State) : State :=
  let homeless (c : Cue) : Bool := c.state == .due && (usableZones s.line c.zones).isEmpty
  { s with
    cues := { s.cues with queue := s.cues.queue.filter fun c => !homeless c }
    node := nodeAfterReports ((s.cues.queue.filter homeless).map (Cue.dropReport .noZone)) s.node }

/-- R109: `id` is the first id not in use, counting upward from the next cue id and wrapping at 256. -/
def FirstFreeId (q : List Cue) (next id : Nat) : Prop :=
  ∃ k, id = (next + k) % 256 ∧ (∀ c ∈ q, c.id ≠ id) ∧ ∀ j, j < k → ∃ c ∈ q, c.id = (next + j) % 256

/-- R109, R111, R113, R131: admission of a cue: coalesced into the waiting or due cue of its nonzero key and template; else
added under the first free id; else, on a full queue, in the victim's place or dropped itself. -/
def Admitted (c : Cue) (s t : State) : Prop :=
  let q := s.cues.queue
  let twin (x : Cue) : Prop := c.key ≠ 0 ∧ x.key = c.key ∧ x.template = c.template ∧ x.waits = true
  (∀ x ∈ q, twin x →
    t = withoutHomeless { s with cues := { s.cues with queue := q.map fun y =>
      if y.id = x.id then
        { y with source := c.source, codes := c.codes, zones := c.zones, priority := c.priority, release := c.release
                 expiry := c.expiry, playLimit := c.playLimit, state := c.state }
      else y } }) ∧
  ((∀ x ∈ q, ¬twin x) → q.length < 32 →
    ∃ id, FirstFreeId q s.cues.nextId id ∧
      t = withoutHomeless { s with cues := { queue := insertCue { c with id := id } q, nextId := (id + 1) % 256 } }) ∧
  ((∀ x ∈ q, ¬twin x) → q.length = 32 → ∀ v ∈ q, v.waits = true →
    (∀ w ∈ q, w.waits = true → w = v ∨ v.priority < w.priority ∨
      (v.priority = w.priority ∧ (w.release < v.release ∨ (v.release = w.release ∧ w.id < v.id)))) →
    (c.priority ≤ v.priority →
      t = withoutHomeless
        { s with node := nodeAfterReports [.cueDropped none c.source c.key c.template .full] s.node }) ∧
    (v.priority < c.priority →
      let q' := q.filter fun x => x.id != v.id
      ∃ id, FirstFreeId q' s.cues.nextId id ∧
        t = withoutHomeless
          { s with
            cues := { queue := insertCue { c with id := id } q', nextId := (id + 1) % 256 }
            node := nodeAfterReports [Cue.dropReport .full v] s.node }))

/-- R102 to R110: what a request leaves. Outside RUNNING, and where no template is named, it leaves everything; it is
dropped REFUSED, NO ZONE, REFUSED or EXPIRED at the step that fails, with no cue id; or its cue is admitted. -/
def RequestTaken (source : CueSource) (key : Nat) (template : Option Nat) (r : Option ServiceRecord) (s t : State) :
    Prop :=
  (s.node.state ≠ .running ∨ template = none → t = s) ∧
  ∀ n, s.node.state = .running → template = some n →
    let tm := s.bank.templates.getD n emptyTemplate
    let c := requestedCue s source key n r 0
    let dropped (reason : DropReason) : State :=
      { s with node := nodeAfterReports [.cueDropped none source key (some n) reason] s.node }
    if tm.inUse = false ∨ languageGives s tm r = [] then t = dropped .refused
    else if c.zones = 0#8 then t = dropped .noZone
    else if 172799 < c.expiry then t = dropped .refused
    else if c.expiry < (s.time.second : Int) then t = dropped .expired
    else Admitted c s t

/-- R102: the requests of one record, each handled whole before the next. -/
def RequestsTaken (r : ServiceRecord) : List (CueSource × Option Nat) → State → State → Prop
  | [], s, t => t = s
  | q :: qs, s, t => ∃ u, RequestTaken q.1 r.key q.2 (some r) s u ∧ RequestsTaken r qs u t

/-- R50 to R52: the rule requests of an evaluation that finds `r` with the match set `old` before it. -/
def ruleAsks (s : State) (old : BitVec 32) (r : ServiceRecord) : List (CueSource × Option Nat) :=
  if r.cueEnabled then
    ((List.range 32).filter fun n => ruleMatches s.bank s.time.second r n && !old.getLsbD n).map fun n =>
      (.rule n, (s.bank.rule n).template)
  else []

/-- R13 to R17: the built-in requests of a message that a record held with cue enable: CANCEL where the cancelled flag is
newly set, then CHANGE or ASSIGN where the platform `p` asks for it. -/
def builtInAsks (s : State) (old : ServiceRecord) (cancels : Bool) (p : Option Nat) : List (CueSource × Option Nat) :=
  if old.cueEnabled then
    (if cancels && !old.cancelled then [(.cancel, s.bank.params.cancelTemplate)] else []) ++
      (if p = old.platform ∨ p = none then []
       else if old.platform = none then [(.assign, s.bank.params.assignTemplate)]
       else if 0 < old.attention ∧ old.previous = p then []
       else [(.change, s.bank.params.changeTemplate)])
  else []

/-- R14 to R16: the attention and the previous platform after a present platform `p`. -/
def attentionAfter (period : Nat) (p : Option Nat) (old : ServiceRecord) : Nat × Option Nat :=
  if p = old.platform then (old.attention, old.previous)
  else if p = none then (0, none)
  else if old.platform = none then (old.attention, old.previous)
  else if 0 < old.attention ∧ old.previous = p then (0, none)
  else (period, if 0 < period then old.platform else none)

/-- R18, R171: the requests of a message on the record that it leaves as `r`, and then its WATCH report. -/
def AskedAndWatched (ev : WatchEvent) (asks : List (CueSource × Option Nat)) (r : ServiceRecord) (s t : State) : Prop :=
  ∃ u, RequestsTaken r asks s u ∧ t.cues = u.cues ∧
    t.node = nodeAfterReports (if r.key ∈ s.node.watch then [.watch ev r.summary] else []) u.node

/-! ### The service list unit -/

/-- What a service message leaves alone: everything but the table, the cue queue and the report queue with its loss flag. -/
def onlyServiceParts (s t : State) : Prop :=
  t = { s with table := t.table, cues := t.cues
               node := { s.node with reports := t.node.reports, loss := t.node.loss } }

/-- SERVICE_POST, SERVICE_AMEND, SERVICE_WITHDRAW (R6 to R8, R12, R19): a refused post changes nothing and reports BAD FIELD
when position-addressed, an absent key reports NOT FOUND likewise, a post that selection rejects is ignored or removes
the record with LEFT SELECTION, and outside RUNNING the messages are discarded. That BAD FIELD carries the kind and the key
is the model's reading (assumption 22, DEDUCED). -/
def Obligations.ServiceMessagesRefusedOrIgnored : Prop :=
  ∀ (s : State) (mode : AddrMode) (b : PostBody) (a : AmendBody) (key : Nat),
    let told (r : Report) : State := { s with node := if mode = .position then nodeAfterReports [r] s.node else s.node }
    (s.node.state ≠ .running →
      exec (.servicePost mode b) s = .next s ∧ exec (.serviceAmend mode a) s = .next s ∧
        exec (.serviceWithdraw mode key) s = .next s) ∧
    (s.node.state = .running →
      (b.key = 0 ∨ b.sm < -1440 ∨ 2879 < b.sm ∨ 3 < b.vias.length ∨ 1023 < b.destination ∨ (∃ v ∈ b.vias, 1023 < v) ∨
          15 < b.opClass →
        exec (.servicePost mode b) s = .next (told (.badField 0x01 (some b.key)))) ∧
      ((∀ r ∈ s.table, r.key ≠ a.key) → exec (.serviceAmend mode a) s = .next (told (.notFound a.key))) ∧
      ((∀ r ∈ s.table, r.key ≠ key) → exec (.serviceWithdraw mode key) s = .next (told (.notFound key))) ∧
      (postBad b = false → (selectRecord s.bank.selection (normPlatform b.platform) b.opClass).1 = 0#4 →
        ((∀ r ∈ s.table, r.key ≠ b.key) → exec (.servicePost mode b) s = .next s) ∧
        (∀ old, s.findRecord b.key = some old →
          exec (.servicePost mode b) s = .next
            { s with
              table := s.table.filter fun r => r.key != b.key
              node :=
                nodeAfterReports
                  (if old.key ∈ s.node.watch then [.leftSelection old.key, .watch .leftSelection old.summary]
                   else [.leftSelection old.key])
                  s.node })))

/-- SERVICE_POST (R3, R9, R10, R13 to R18, R50 to R53, R102 to R113): a post of a new key that selection keeps, with room in
the table, puts the record in its place with the posted fields, attention 0, no previous platform, and the rules decided
on it; a post of a held key that selection keeps restates the record, the delay, platform, cancelled and boarding applied
as an amend of all four, with the match set compared from before. The cue requests follow, the built-in ones of a
restatement first and then those of the rules, each building its cue from its template, timing it and admitting it; then
the WATCH report of a watched key. Where nothing names a template no cue is asked for. -/
def Obligations.PostCreatesRecordInPlace : Prop :=
  (∀ (s : State) (mode : AddrMode) (b : PostBody),
    s.node.state = .running → postBad b = false → (∀ r ∈ s.table, r.key ≠ b.key) → s.table.length < 96 →
    (selectRecord s.bank.selection (normPlatform b.platform) b.opClass).1 ≠ 0#4 →
    ∃ t, exec (.servicePost mode b) s = .next t ∧ onlyServiceParts s t ∧
      let sel := selectRecord s.bank.selection (normPlatform b.platform) b.opClass
      let r := decideRules s.bank s.time.second
        { key := b.key, sm := b.sm, delay := b.delay.map fun d => max (-15) (min 999 d)
          platform := if 1 ≤ b.platform ∧ b.platform ≤ 64 then some b.platform else none
          previous := none, attention := 0, destination := b.destination, vias := b.vias, opClass := b.opClass
          cancelled := b.cancelled, boarding := b.boarding, boards := sel.1, cueEnabled := sel.2
          matchSet := 0#32, notice := none }
      t.table = insertRecord r s.table ∧
      ((∀ n, (s.bank.rule n).template = none) → t.cues = s.cues) ∧
      (s.cuesOk → AskedAndWatched .posted (ruleAsks s 0#32 r) r s t)) ∧
  (∀ (s : State) (mode : AddrMode) (b : PostBody) (old : ServiceRecord),
    s.node.state = .running → postBad b = false → s.findRecord b.key = some old →
    (selectRecord s.bank.selection (normPlatform b.platform) b.opClass).1 ≠ 0#4 →
    ∃ t, exec (.servicePost mode b) s = .next t ∧ onlyServiceParts s t ∧
      let sel := selectRecord s.bank.selection (normPlatform b.platform) b.opClass
      let p := normPlatform b.platform
      let after := attentionAfter s.bank.params.attentionPeriod p old
      let r := decideRules s.bank s.time.second
        { key := b.key, sm := b.sm, delay := b.delay.map fun d => max (-15) (min 999 d), platform := p
          previous := after.2, attention := after.1, destination := b.destination, vias := b.vias, opClass := b.opClass
          cancelled := b.cancelled, boarding := b.boarding, boards := sel.1, cueEnabled := sel.2
          matchSet := old.matchSet, notice := old.notice }
      t.table = insertRecord r (s.table.filter fun x => x.key != b.key) ∧
      (s.cuesOk → AskedAndWatched .posted (builtInAsks s old b.cancelled p ++ ruleAsks s old.matchSet r) r s t))

/-- SERVICE_POST (R11): on a table of 96 records a new record earlier than the last takes its place, the last being evicted
with its WAITING and DUE cues; one that is not earlier is refused with FULL. -/
def Obligations.PostOnFullTableEvictsLast : Prop :=
  ∀ (s : State) (mode : AddrMode) (b : PostBody) (last : ServiceRecord),
    s.node.state = .running → postBad b = false → (∀ r ∈ s.table, r.key ≠ b.key) → s.table.length = 96 →
    s.table.getLast? = some last →
    let sel := selectRecord s.bank.selection (normPlatform b.platform) b.opClass
    sel.1 ≠ 0#4 →
    let r := postRecord b sel
    (before r last = false →
      exec (.servicePost mode b) s = .next { s with node := nodeAfterReports [.full b.key] s.node }) ∧
    (before r last = true →
      ∃ t, exec (.servicePost mode b) s = .next t ∧ onlyServiceParts s t ∧
        t.table = insertRecord (decideRules s.bank s.time.second r) (s.table.filter fun x => x.key != last.key) ∧
        (∀ c ∈ t.cues.queue, c.key = last.key → c.waits = false) ∧
        (s.node.reports.length < 16 → Report.evicted last.key ∈ t.node.reports))

/-- SERVICE_AMEND (R14 to R18, R50 to R52, R102 to R113): an amend whose platform alone is present and differs from the
stored one. A known platform after a known one starts attention anew, or, when it is the previous platform within its
attention, ends it; NONE ends it; a known platform after NONE leaves it. Selection is evaluated anew and an empty mask
removes the record. Where the record held cue enable, the CHANGE or ASSIGN cue is asked for, ahead of LEFT SELECTION or
of the rule requests and the WATCH report, and each request builds its cue from its template, times it and admits it. -/
def Obligations.AmendChangesPlatform : Prop :=
  ∀ (s : State) (mode : AddrMode) (key p : Nat) (old : ServiceRecord),
    s.node.state = .running → s.findRecord key = some old → normPlatform p ≠ old.platform →
    let period := s.bank.params.attentionPeriod
    let sel := selectRecord s.bank.selection (normPlatform p) old.opClass
    ∃ t, exec (.serviceAmend mode { key := key, delay := none, platform := some p, cancelled := none, boarding := none }) s =
        .next t ∧
      onlyServiceParts s t ∧
      (sel.1 = 0#4 → t.table = s.table.filter fun x => x.key != key) ∧
      (sel.1 ≠ 0#4 →
        ∃ r, t.findRecord key = some r ∧ r.platform = normPlatform p ∧ r.boards = sel.1 ∧ r.cueEnabled = sel.2 ∧
          r.sm = old.sm ∧ r.delay = old.delay ∧ r.destination = old.destination ∧ r.vias = old.vias ∧
          r.opClass = old.opClass ∧ r.cancelled = old.cancelled ∧ r.boarding = old.boarding ∧
          (normPlatform p = none → r.attention = 0 ∧ r.previous = none) ∧
          (old.platform = none → r.attention = old.attention ∧ r.previous = old.previous) ∧
          (normPlatform p ≠ none → old.platform ≠ none →
            (0 < old.attention ∧ old.previous = normPlatform p → r.attention = 0 ∧ r.previous = none) ∧
            (¬(0 < old.attention ∧ old.previous = normPlatform p) →
              r.attention = period ∧ r.previous = if 0 < period then old.platform else none))) ∧
      (old.cueEnabled = false → (∀ n, (s.bank.rule n).template = none) → t.cues = s.cues) ∧
      (s.cuesOk →
        let after := attentionAfter period (normPlatform p) old
        let changed := { old with platform := normPlatform p, attention := after.1, previous := after.2 }
        let asks := builtInAsks s old false (normPlatform p)
        (sel.1 = 0#4 →
          ∃ u, RequestsTaken changed asks s u ∧ t.cues = u.cues ∧
            t.node = nodeAfterReports
              (.leftSelection key :: if key ∈ s.node.watch then [.watch .leftSelection changed.summary] else []) u.node) ∧
        (sel.1 ≠ 0#4 →
          let r := decideRules s.bank s.time.second { changed with boards := sel.1, cueEnabled := sel.2 }
          t.findRecord key = some r ∧ AskedAndWatched .amended (asks ++ ruleAsks s old.matchSet r) r s t))

/-- SERVICE_AMEND (R3, R12, R13, R17, R18, R26, R50 to R52, R102 to R113): an amend without a platform replaces the present
fields, the delay clamped, moves the record to its place and decides the rules on it; the mask and the cue enable stay.
Where the record held cue enable and the cancelled flag is newly set, the CANCEL cue is asked for, and then the rule cues
on the match edges, each built, timed and admitted; then the WATCH report of a watched key follows. -/
def Obligations.AmendReplacesPresentFields : Prop :=
  ∀ (s : State) (mode : AddrMode) (key : Nat) (delay : Option (Option Int)) (cancelled boarding : Option Bool)
    (old : ServiceRecord),
    s.node.state = .running → s.findRecord key = some old → old.boards ≠ 0#4 →
    ∃ t, exec (.serviceAmend mode
          { key := key, delay := delay, platform := none, cancelled := cancelled, boarding := boarding }) s = .next t ∧
      onlyServiceParts s t ∧
      let r := decideRules s.bank s.time.second
        { old with
          delay := match delay with
            | none => old.delay
            | some none => none
            | some (some d) => some (if d < -15 then -15 else if 999 < d then 999 else d)
          cancelled := cancelled.getD old.cancelled
          boarding := boarding.getD old.boarding }
      t.table = insertRecord r (s.table.filter fun x => x.key != key) ∧
      (s.cuesOk →
        AskedAndWatched .amended (builtInAsks s old (cancelled.getD false) old.platform ++ ruleAsks s old.matchSet r) r s t)

/-- SERVICE_WITHDRAW (R19, R118): a held record leaves, the WAITING and DUE cues of its key are dropped WITHDRAWN in ascending
id, and a watched key has its WATCH report; the other cues stay. -/
def Obligations.WithdrawDropsRecordAndItsCues : Prop :=
  ∀ (s : State) (mode : AddrMode) (key : Nat) (r : ServiceRecord),
    s.node.state = .running → s.findRecord key = some r →
    exec (.serviceWithdraw mode key) s = .next
      { s with
        table := s.table.filter fun x => x.key != key
        cues := { s.cues with queue := s.cues.queue.filter fun c => !(c.key == key && c.waits) }
        node :=
          nodeAfterReports
            (((s.cues.queue.filter fun c => c.key == key && c.waits).map fun c =>
                .cueDropped (some c.id) c.source c.key c.template .withdrawn) ++
              if key ∈ s.node.watch then [.watch .withdrawn r.summary] else [])
            s.node }

/-- ATTENTION_EXPIRY, RETIREMENT (R20, R21): the last second of a record's attention takes its previous platform with it, and
a record past its grace leaves with a WATCH report if watched; no cue changes. That each names its record is the model's
choice (assumption 1). -/
def Obligations.AttentionExpiresAndRecordsRetire : Prop :=
  ∀ (s : State) (key : Nat),
    exec (.attentionExpiry key) s = .next
      { s with
        table := s.table.map fun r =>
          if r.key = key ∧ r.attention = 1 then { r with attention := 0, previous := none } else r } ∧
    (let gone (r : ServiceRecord) : Bool :=
       r.key == key && decide (retirementRemaining r s.time.second ≤ -(s.bank.params.grace : Int) * 60)
     exec (.retirement key) s = .next
      { s with
        table := s.table.filter fun r => !gone r
        node :=
          nodeAfterReports
            ((s.table.filter fun r => gone r && s.node.watch.contains r.key).map fun r => .watch .retired r.summary)
            s.node })

/-! ### The row composer -/

/-- NOTICE_SET (R69): an accepted one replaces the standing notice of every board in the mask and no other, reporting nothing;
a refused one changes none and reports BAD FIELD when position-addressed; outside RUNNING it is discarded. What BAD FIELD
carries is the model's reading (assumption 22, DEDUCED). -/
def Obligations.NoticeSetReplacesStandingNotices : Prop :=
  ∀ (s : State) (mode : AddrMode) (b : NoticeBody),
    (s.node.state ≠ .running → exec (.noticeSet mode b) s = .next s) ∧
    (s.node.state = .running →
      (b.boards = 0#4 ∨ 8 < b.phrases.length ∨ (∃ p ∈ b.phrases, 1023 < p) →
        exec (.noticeSet mode b) s = .next
          { s with node := if mode = .position then nodeAfterReports [.badField 0x08 none] s.node else s.node }) ∧
      (b.boards ≠ 0#4 → b.phrases.length ≤ 8 → (∀ p ∈ b.phrases, p ≤ 1023) →
        ∃ t, exec (.noticeSet mode b) s = .next t ∧
          t = { s with rows := { s.rows with standing := t.rows.standing } } ∧
          ∀ i, i < 4 → t.rows.standing[i]? = some (if b.boards.getLsbD i then b.phrases else s.rows.standing.getD i [])))

/-- R61, R74 to R77: a composition sends exactly the rows that differ from their last-sent records, or all 24 in own cycle 32,
in ascending row number, and each becomes its row's last-sent record; the next composition of an unchanged node sends
nothing. It also holds the normal content of every row, the record the row would show without an override. That the first
composition after the numbering was set back to exactly 32 is a full send too is DEDUCED (assumption 35). -/
def Obligations.CompositionSendsWhatDiffers : Prop :=
  ∀ s : State, s.node.state ≠ .powerUp →
    (compose s).ports.tile =
      ((List.range 24).filter fun i =>
          s.time.cycle == 32 || s.rows.fullDue || s.rows.lastSent.getD i none != some (composeRow s (i + 1))).map
        (fun i => (composeRow s (i + 1)).bytes (i + 1)) ∧
    (compose s).rows.lastSent = (List.range 24).map (fun i => some (composeRow s (i + 1))) ∧
    (compose s).rows.normal = (List.range 24).map (fun i => composeRow (s.setOvr noOverride) (i + 1)) ∧
    (compose s).rows.standing = s.rows.standing ∧ (compose s).rows.fullDue = false ∧ (compose s).node = s.node ∧
    (compose s).table = s.table ∧
    (s.time.cycle ≠ 32 → (compose (compose s)).ports.tile = [])

/-- R33, R58, R59, R62, R64 to R68, R70, R72 to R74, R148: a row out of use is blank; a CLOCK row shows the clock by the
node state, override or not; a board under override shows its page rows, paired with its rows in order, and blank rows
past them; and every other row is as it would be without an override: a RANK row the k-th record of its board with its
fields, or blank; a NOTICE row the standing notice, or the isolation phrase; a FIXED row its phrase; a BLANK row blank. -/
def Obligations.RowsFollowClockAndOverride : Prop :=
  ∀ (s : State) (n : Nat), 1 ≤ n → n ≤ 24 →
    let e := s.bank.rowMap.getD (n - 1) emptyRow
    let b := s.bank.boards.getD e.board emptyBoard
    let hold := decide (s.node.state = .holdover)
    let k := s.time.clock
    let under := decide (s.ovr.level ≠ 0) && s.ovr.boards.getLsbD e.board
    let i := ((s.bank.rowMap.take (n - 1)).filter fun x => x.inUse && x.board == e.board && x.role != .clock).length
    let page := s.bank.pages.getD (s.ovr.page * 4 + e.board) emptyPage
    let phase := if s.time.synchronised then s.time.second / b.period % b.langCount else 0
    let code (p : Option Nat) : Nat := match p with
      | none => 65535
      | some q => q + 1024 * phase
    (e.inUse = false → composeRow s n = .blank) ∧
    (e.inUse = true → e.role = .clock →
      (s.time.synchronised = false → composeRow s n = .clock [10, 10, 10, 10, 10, 10] hold) ∧
      (s.time.synchronised = true → s.node.state = .isolated ∨ s.node.state = .positionFault →
        composeRow s n = .clock [k.hourTens, k.hourUnits, k.minTens, k.minUnits, 11, 11] hold) ∧
      (s.time.synchronised = true → s.node.state ≠ .isolated → s.node.state ≠ .positionFault →
        composeRow s n = .clock [k.hourTens, k.hourUnits, k.minTens, k.minUnits, k.secTens, k.secUnits] hold)) ∧
    (e.inUse = true → e.role ≠ .clock → under = true →
      (page.rowCount ≤ i → composeRow s n = .blank) ∧
      (∀ r, i < page.rowCount → page.rows[i]? = some r →
        composeRow s n = .text ((r.phrases.take r.count).map fun p => p + 1024 * phase))) ∧
    (under = false → composeRow s n = composeRow (s.setOvr noOverride) n) ∧
    (e.inUse = true → under = false →
      (∀ m, e.role = .rank m → 1 ≤ m →
        let shown := s.table.filter fun r => r.boards.getLsbD e.board
        (shown.length < m → composeRow s n = .blank) ∧
        (∀ r, shown[m - 1]? = some r →
          let c := countdown r s.time.second
          composeRow s n =
            .rank (((s.bank.params.dayStart : Int) + r.sm) % 1440).toNat
              [code (some r.destination), code r.vias[0]?, code r.vias[1]?, code r.vias[2]?]
              (if 0 < r.attention ∧ b.blink = true ∧ s.time.cycle / 16 % 2 = 1 then 255 else r.platform.getD 0)
              (if r.cancelled then .phrase (code b.cancelledPhrase)
               else match r.delay with
                | none => .phrase (code b.delayedPhrase)
                | some d =>
                  if c ≤ b.window then .phrase (code b.duePhrase)
                  else if c ≤ b.limit then .number c.toNat
                  else if (b.threshold : Int) ≤ d then
                    .time (((s.bank.params.dayStart : Int) + (r.sm + d)) % 1440).toNat
                  else .phrase (code b.onTimePhrase))
              (code r.notice) hold r.cancelled)) ∧
      (e.role = .notice →
        (s.node.state = .isolated ∨ s.node.state = .positionFault →
          composeRow s n = .text (b.isolationPhrase.toList.map fun p => p + 1024 * phase)) ∧
        (s.node.state ≠ .isolated → s.node.state ≠ .positionFault →
          composeRow s n = .text ((s.rows.standing.getD e.board []).map fun p => p + 1024 * phase))) ∧
      (∀ p, e.role = .fixed p → composeRow s n = .text [p + 1024 * phase]) ∧
      (e.role = .blank → composeRow s n = .blank))

/-! ### The cue scheduler -/

/-- The cue an accepted CUE POST gives, with its id (R109, R114). -/
def postedCue (s : State) (b : CuePostBody) (id : Nat) : Cue :=
  let release : Int := match b.release with
    | none => (s.time.second : Int)
    | some r => (r : Int)
  { id := id, source := .explicit, key := 0, template := none, codes := b.codes
    zones := b.zones &&& s.bank.zonesInUse, priority := b.priority, release := release
    expiry := release + (b.lifetime : Int), playLimit := 120
    state := if release ≤ (s.time.second : Int) then .due else .waiting
    retryHold := none, playCount := 0, preempted := false, completed := 0#8, lost := 0#8 }

/-- CUE_POST (R109, R110, R113, R114): an accepted CUE POST joins a queue with room under the first free id counting up from the
next cue id; a refused one reports BAD FIELD when position-addressed, and one whose zones are all unused is dropped NO
ZONE. What BAD FIELD carries is the model's reading (assumption 22, DEDUCED). -/
def Obligations.CuePostJoinsQueue : Prop :=
  ∀ (s : State) (mode : AddrMode) (b : CuePostBody),
    let bad := b.codes.length < 1 ∨ 16 < b.codes.length ∨ (∃ c ∈ b.codes, 4095 < c) ∨ b.zones = 0#8 ∨ 7 < b.priority ∨
      (∃ r, b.release = some r ∧ 172799 < r) ∨ b.lifetime < 10 ∨ 1800 < b.lifetime ∨
      (∃ r, b.release = some r ∧ 172799 < r + b.lifetime)
    (s.node.state ≠ .running → exec (.cuePost mode b) s = .next s) ∧
    (s.node.state = .running → bad →
      exec (.cuePost mode b) s = .next
        { s with node := if mode = .position then nodeAfterReports [.badField 0x10 none] s.node else s.node }) ∧
    (s.node.state = .running → ¬bad → b.zones &&& s.bank.zonesInUse = 0#8 →
      exec (.cuePost mode b) s = .next
        { s with node := nodeAfterReports [.cueDropped none .explicit 0 none .noZone] s.node }) ∧
    (s.node.state = .running → ¬bad → b.zones &&& s.bank.zonesInUse ≠ 0#8 → s.time.second ≤ 86399 →
      s.cues.queue.length < 32 → s.cues.nextId < 256 →
      (∀ c ∈ s.cues.queue, c.state = .due → usableZones s.line c.zones ≠ []) →
      usableZones s.line (b.zones &&& s.bank.zonesInUse) ≠ [] →
      (s.time.second : Int) ≤ (postedCue s b 0).expiry →
      ∃ id k, id = (s.cues.nextId + k) % 256 ∧ (∀ c ∈ s.cues.queue, c.id ≠ id) ∧
        (∀ j, j < k → ∃ c ∈ s.cues.queue, c.id = (s.cues.nextId + j) % 256) ∧
        exec (.cuePost mode b) s = .next
          { s with cues := { queue := insertCue (postedCue s b id) s.cues.queue, nextId := (id + 1) % 256 } })

/-- CUE_POST (R113): on a queue of 32 cues the victim is the WAITING or DUE cue of lowest priority, then latest release, then
highest id; a cue of higher priority pushes it out with reason FULL, and any other is itself dropped FULL with no id. -/
def Obligations.FullQueueGivesUpVictim : Prop :=
  ∀ (s : State) (mode : AddrMode) (b : CuePostBody) (v : Cue),
    s.cuesOk → s.node.state = .running → cuePostBad b = false → b.zones &&& s.bank.zonesInUse ≠ 0#8 →
    s.time.second ≤ 86399 → s.cues.queue.length = 32 →
    (∀ c ∈ s.cues.queue, c.state = .due → usableZones s.line c.zones ≠ []) →
    usableZones s.line (b.zones &&& s.bank.zonesInUse) ≠ [] →
    (s.time.second : Int) ≤ (postedCue s b 0).expiry →
    v ∈ s.cues.queue → v.waits = true →
    (∀ w ∈ s.cues.queue, w.waits = true → w = v ∨ v.priority < w.priority ∨
      (v.priority = w.priority ∧ (w.release < v.release ∨ (v.release = w.release ∧ w.id < v.id)))) →
    (b.priority ≤ v.priority →
      exec (.cuePost mode b) s = .next
        { s with node := nodeAfterReports [.cueDropped none .explicit 0 none .full] s.node }) ∧
    (v.priority < b.priority →
      ∃ id, (∀ c ∈ s.cues.queue, c.id = id → c = v) ∧
        exec (.cuePost mode b) s = .next
          { s with
            cues :=
              { queue := insertCue (postedCue s b id) (s.cues.queue.filter fun c => c.id != v.id)
                nextId := (id + 1) % 256 }
            node := nodeAfterReports [.cueDropped (some v.id) v.source v.key v.template .full] s.node })

/-- CUE_RELEASE, CUE_EXPIRY (R116, R131): a WAITING cue whose release has come becomes DUE, and a DUE cue found with no usable
zone is dropped NO ZONE; a WAITING or DUE cue whose expiry has passed is dropped EXPIRED. That each names its cue is the
model's choice (assumption 1). -/
def Obligations.CuesReleaseAndExpire : Prop :=
  ∀ (s : State) (id : Nat),
    (let released := s.cues.queue.map fun c =>
       if c.id = id ∧ c.state = .waiting ∧ c.release ≤ (s.time.second : Int) then { c with state := .due } else c
     let homeless (c : Cue) : Bool := c.state == .due && (usableZones s.line c.zones).isEmpty
     exec (.cueRelease id) s = .next
      { s with
        cues := { s.cues with queue := released.filter fun c => !homeless c }
        node :=
          nodeAfterReports
            ((released.filter homeless).map fun c => .cueDropped (some c.id) c.source c.key c.template .noZone) s.node }) ∧
    (let gone (c : Cue) : Bool := c.id == id && c.waits && decide (c.expiry < (s.time.second : Int))
     exec (.cueExpiry id) s = .next
      { s with
        cues := { s.cues with queue := s.cues.queue.filter fun c => !gone c }
        node :=
          nodeAfterReports
            ((s.cues.queue.filter gone).map fun c => .cueDropped (some c.id) c.source c.key c.template .expired) s.node })

/-! ### Override control -/

/-- OVERRIDE_SET, OVERRIDE_CLEAR (R144, R146, R147, R152): taken in JOINING and RUNNING; malformed ones report BAD FIELD when
position-addressed; one below the level in force is refused with OVERRIDE REFUSED; an accepted SET of level 1 or 2 that
names no template replaces the context and nothing else; one that names a template replaces the context and, in RUNNING,
asks for the override cue, of priority 7 and built from the template's fixed phrases (R104 to R110, R115, R150); an
accepted CLEAR returns the context to level 0 and changes nothing else. What BAD FIELD carries is the model's reading
(assumption 22, DEDUCED). -/
def Obligations.OverrideSetAndClearByLevel : Prop :=
  ∀ (s : State) (mode : AddrMode) (b : OverrideBody) (level : Nat),
    let told (r : Report) : State := { s with node := if mode = .position then nodeAfterReports [r] s.node else s.node }
    let malformed := b.level < 1 ∨ 3 < b.level ∨ 7 < b.page ∨ 7 < b.floor ∨ ∃ t, b.template = some t ∧ 31 < t
    (s.node.state ≠ .joining → s.node.state ≠ .running →
      exec (.overrideSet mode b) s = .next s ∧ exec (.overrideClear mode level) s = .next s) ∧
    (s.node.state = .joining ∨ s.node.state = .running →
      (malformed → exec (.overrideSet mode b) s = .next (told (.badField 0x18 none))) ∧
      (¬malformed → b.level < s.ovr.level →
        exec (.overrideSet mode b) s = .next
          { s with node := nodeAfterReports [.overrideRefused .set b.level s.ovr.level] s.node }) ∧
      (¬malformed → s.ovr.level ≤ b.level → b.level ≤ 2 → b.template = none →
        exec (.overrideSet mode b) s = .next
          { s with ovr := { level := b.level, boards := b.boards, page := b.page, floor := b.floor, template := none } }) ∧
      (¬malformed → s.ovr.level ≤ b.level → b.level ≤ 2 → s.cuesOk →
        ∃ t, exec (.overrideSet mode b) s = .next t ∧
          RequestTaken .overrideCue 0 b.template none
            { s with
              ovr := { level := b.level, boards := b.boards, page := b.page, floor := b.floor, template := b.template } }
            t) ∧
      (level < 1 ∨ 3 < level → exec (.overrideClear mode level) s = .next (told (.badField 0x19 none))) ∧
      (1 ≤ level → level ≤ 3 → level < s.ovr.level →
        exec (.overrideClear mode level) s = .next
          { s with node := nodeAfterReports [.overrideRefused .clear level s.ovr.level] s.node }) ∧
      (1 ≤ level → level ≤ 3 → s.ovr.level ≤ level →
        exec (.overrideClear mode level) s = .next
          { s with ovr := { level := 0, boards := 0#4, page := 0, floor := 0, template := none } }))

/-- OVERRIDE_SET of level 3 (R115, R127, R147, R150, R151): the line is broken, the cues that were OFFERED or PLAYING are
dropped STOPPED in ascending id, WAITING and DUE cues stay, and the context is replaced; then, in RUNNING and where the
message names a template, the override cue is asked for. No zone waits to take an address (R142). -/
def Obligations.OverrideLevelThreeBreaksLine : Prop :=
  ∀ (s : State) (mode : AddrMode) (b : OverrideBody),
    s.node.state = .joining ∨ s.node.state = .running → b.level = 3 → b.page ≤ 7 → b.floor ≤ 7 →
    (∀ n, b.template = some n → n ≤ 31) → s.ovr.level ≤ 3 → s.line.zones.length = 8 →
    (∀ z ∈ s.line.zones, z.pendingAddr = none) → s.cuesOk →
    ∃ u t, exec (.overrideSet mode b) s = .next t ∧ RequestTaken .overrideCue 0 b.template none u t ∧
      LineBroken s.line u.line ∧
      u.ovr = { level := 3, boards := b.boards, page := b.page, floor := b.floor, template := b.template } ∧
      u.cues =
        { s.cues with queue := s.cues.queue.filter fun c => !(c.state == .offered || c.state == .playing) } ∧
      u.node =
        nodeAfterReports
          ((s.cues.queue.filter fun c => c.state == .offered || c.state == .playing).map fun c =>
            .cueDropped (some c.id) c.source c.key c.template .stopped)
          s.node ∧
      u.table = s.table ∧ u.store = s.store ∧ u.time = s.time ∧ u.rows = s.rows ∧ u.chain = s.chain ∧ u.ports = s.ports ∧
      (b.template = none → t = u)

/-! ### The configuration store -/

/-- R167: what a TABLE WRITE makes of the shadow bank: the entry at `index` of table `table` is the one the bytes hold by
10.6, every other entry of the table is as it was, and so is every other table. -/
def EntryWritten (table index : Nat) (bs : List Byte) (b b' : Bank) : Prop :=
  (table = 0 → b' = { b with params := parseParams bs }) ∧
  (table = 1 → b' = { b with selection := b'.selection } ∧
    ∀ j, b'.selection[j]? = if j = index then some (parseSelection bs) else b.selection[j]?) ∧
  (table = 2 → b' = { b with rowMap := b'.rowMap } ∧
    ∀ j, b'.rowMap[j]? = if j = index then some (parseRow bs) else b.rowMap[j]?) ∧
  (table = 3 → b' = { b with boards := b'.boards } ∧
    ∀ j, b'.boards[j]? = if j = index then some (parseBoard bs) else b.boards[j]?) ∧
  (table = 4 → b' = { b with rules := b'.rules } ∧
    ∀ j, b'.rules[j]? = if j = index then some (parseRule bs) else b.rules[j]?) ∧
  (table = 5 → b' = { b with templates := b'.templates } ∧
    ∀ j, b'.templates[j]? = if j = index then some (parseTemplate bs) else b.templates[j]?) ∧
  (table = 6 → b' = { b with platformZones := b'.platformZones } ∧
    ∀ j, b'.platformZones[j]? = if j = index then bs[0]? else b.platformZones[j]?) ∧
  (table = 7 → b' = { b with zoneTable := b'.zoneTable } ∧
    ∀ j, b'.zoneTable[j]? = if j = index then bs[0]?.map BitVec.toNat else b.zoneTable[j]?) ∧
  (table = 8 → b' = { b with pages := b'.pages } ∧
    ∀ j, b'.pages[j]? = if j = index then some (parsePage bs) else b.pages[j]?)

/-- TABLE_WRITE, TABLE_COPY (R167): in JOINING and RUNNING a write replaces one entry of the shadow bank and leaves every
other entry as it was; a table or index that does not exist reports BAD INDEX whatever the addressing, a wrong length BAD
FIELD when position-addressed; and a copy makes the shadow bank the active one's equal. Neither touches the active bank or
a pending commit, and in any other state these messages and TABLE COMMIT are discarded. What BAD FIELD carries is the
model's reading (assumption 22, DEDUCED). -/
def Obligations.TableWriteTouchesShadowAlone : Prop :=
  ∀ (s : State) (mode : AddrMode) (table index gen cycle : Nat) (entry : List Byte),
    let entries := [1, 16, 24, 4, 32, 32, 64, 8, 32].getD table 0
    let length := [12, 6, 5, 16, 10, 37, 1, 1, 103].getD table 0
    (s.node.state ≠ .joining → s.node.state ≠ .running →
      exec (.tableWrite mode table index entry) s = .next s ∧ exec (.tableCopy mode) s = .next s ∧
        exec (.tableCommit mode gen cycle) s = .next s) ∧
    (s.node.state = .joining ∨ s.node.state = .running →
      (8 < table ∨ entries ≤ index →
        exec (.tableWrite mode table index entry) s = .next
          { s with node := nodeAfterReports [.badIndex table index] s.node }) ∧
      (table ≤ 8 → index < entries → entry.length ≠ length →
        exec (.tableWrite mode table index entry) s = .next
          { s with node := if mode = .position then nodeAfterReports [.badField 0x20 none] s.node else s.node }) ∧
      (table ≤ 8 → index < entries → entry.length = length → s.store.shadow.shapely →
        ∃ b, exec (.tableWrite mode table index entry) s = .next { s with store := { s.store with shadow := b } } ∧
          b.shapely ∧ EntryWritten table index entry s.store.shadow b) ∧
      exec (.tableCopy mode) s = .next { s with store := { s.store with shadow := s.store.active } })

/-- R142: zone `n` compared with its address `a` in the new bank. -/
def zoneCompared (a : Nat) (z : Zone) : Zone :=
  if a = z.addr then { z with pendingAddr := none }
  else if z.state = .free then { z with addr := a, pendingAddr := none }
  else if z.state = .fault ∧ a ≠ 0 then { z with addr := a, pendingAddr := none }
  else if z.state = .fault then
    { state := .free, holding := none, miss := 0, timer := none, pendingAddr := none, addr := 0, taken := false
      pollDue := false }
  else if z.state = .playing ∧ a = 0 then
    { z with state := .stopping, timer := none, pollDue := false, pendingAddr := some a }
  else { z with pendingAddr := some a }

/-- TABLE_COMMIT, BANK_SWITCH (R23, R56, R87, R131, R142, R168, R169, R174): a commit for a cycle is held, superseding one
that was; a malformed one is refused; one with NOW acts as the switch of a commit that pends. At a switch the first
invalid entry of the shadow bank refuses it, and otherwise the banks exchange roles, every record is selected and decided
anew under the new bank or leaves, every zone is compared with its new address, which it takes at once or keeps pending,
DUE cues left without a usable zone are dropped, and S and the day number stay; a JOINING node whose clock is set enters
RUNNING. That the event is taken whatever the cycle number is the model's choice (assumption 1), and what BAD FIELD
carries its reading (assumption 22, DEDUCED). -/
def Obligations.CommitPendsAndSwitches : Prop :=
  (∀ (s : State) (mode : AddrMode) (gen cycle : Nat),
    s.node.state = .joining ∨ s.node.state = .running →
    let superseding (c : Option PendingCommit) : State :=
      { s with
        store := { s.store with commit := c }
        node := nodeAfterReports
          (match s.store.commit with
            | none => []
            | some c => [.commitSuperseded c.generation]) s.node }
    (gen < 1 ∨ 255 < gen ∨ (63 < cycle ∧ cycle ≠ 255) →
      exec (.tableCommit mode gen cycle) s = .next
        { s with node := if mode = .position then nodeAfterReports [.badField 0x22 none] s.node else s.node }) ∧
    (1 ≤ gen → gen ≤ 255 → cycle ≤ 63 →
      exec (.tableCommit mode gen cycle) s = .next (superseding (some { generation := gen, cycle := cycle }))) ∧
    (1 ≤ gen → gen ≤ 255 →
      exec (.tableCommit mode gen 255) s = exec .bankSwitch (superseding (some { generation := gen, cycle := 0 })))) ∧
  (∀ (s : State) (c : PendingCommit), s.store.commit = some c → s.node.state ≠ .powerUp →
    (∀ table index, s.store.shadow.firstInvalid = some (table, index) →
      exec .bankSwitch s = .next
        { s with
          store := { s.store with commit := none }
          node := nodeAfterReports [.commitRefused c.generation table index] s.node }) ∧
    (s.store.shadow.firstInvalid = none → (s.table.Pairwise fun a b => a.key ≠ b.key) →
      ∃ t, exec .bankSwitch s = .next t ∧
        t.store = { active := s.store.shadow, shadow := s.store.active, generation := c.generation, commit := none } ∧
        (let sel (r : ServiceRecord) := selectRecord s.store.shadow.selection r.platform r.opClass
         t.table = (s.table.filter fun r => (sel r).1 != 0#4).map fun r =>
           decideRules s.store.shadow s.time.second { r with boards := (sel r).1, cueEnabled := (sel r).2 }) ∧
        t.time.second = s.time.second ∧ t.time.day = s.time.day ∧
        t.time.clock =
          (if s.store.shadow.params.dayStart = s.store.active.params.dayStart then s.time.clock
           else civilClock s.store.shadow.params.dayStart s.time.second) ∧
        t.rows = s.rows ∧ t.ovr = s.ovr ∧ t.chain = s.chain ∧ t.ports = s.ports ∧
        (s.line.ok →
          (∀ n, n < 8 →
            let z := s.line.zone n
            let a := s.store.shadow.zoneTable.getD n 0
            t.line.zone n = zoneCompared a z ∧
              (z.state = .playing → a = 0 → z.addr ≠ 0 → ∀ i, z.holding = some i → LineJob.stop n i ∈ t.line.jobs)) ∧
          (∀ j ∈ s.line.jobs, j ∈ t.line.jobs) ∧ t.line.status = s.line.status ∧ t.line.seq = s.line.seq ∧
          t.cues = { s.cues with queue := s.cues.queue.filter fun c =>
            !(c.state == .due && (usableZones t.line c.zones).isEmpty) }) ∧
        (s.node.state = .joining → s.time.setPending = false → c.generation ≠ 0 →
          t.node.state = .running ∧ t.node.holdover = 0) ∧
        (s.node.state ≠ .joining ∨ s.time.setPending = true → t.node.state = s.node.state) ∧
        (s.node.state = .running → s.table = [] → s.cues.queue = [] →
          t.node = nodeAfterReports [.commitDone c.generation 0] s.node)))

/-! ### The cue line controller -/

/-- The command asks for the arbiter: LINE_ARBITRATION, or RETRY_HOLD_EXPIRY of a DUE cue whose hold has passed (R130, R134;
assumption 1). -/
def consultsArbiter (i : Instr) (s : State) : Prop :=
  i = .lineArbitration ∨
    ∃ id c h, i = .retryHoldExpiry id ∧ s.findCue id = some c ∧ c.state = .due ∧ c.retryHold = some h ∧
      h ≤ (s.time.second : Int)

/-- LINE_ARBITRATION, RETRY_HOLD_EXPIRY (R123 to R126, R130, 7.9): with the line idle outside POWER-UP, the oldest STOP or CANCEL
goes first, then the START of a sequence that is taken whole, then a due poll of a PLAYING zone before one of a FAULT zone,
then the next OFFER; each sends its message and holds the line for it and for the reply window. Every character of a
message is 12 bits, a start bit, 8 data bits from the least significant on, the address mark, which the first character
alone has set, a parity bit that makes the ones even, and a stop bit. That the start bit is the line's level 0 and the stop
bit 1 is PRESUMED (assumption 33). -/
def Obligations.ArbiterTakesFirstClass : Prop :=
  (∀ (address code : Nat) (body : List Nat),
    (lineMessage address code body).map (fun c => c.mark) = true :: List.replicate (body.length + 3) false ∧
    ∀ c ∈ lineMessage address code body, ∃ parity,
      LineChar.bits c = false :: (List.range 8).map (fun i => c.data.getLsbD i) ++ [c.mark, parity, true] ∧
        (((List.range 8).map fun i => c.data.getLsbD i) ++ [c.mark, parity]).count true % 2 = 0) ∧
  ∀ (i : Instr) (s : State), consultsArbiter i s → s.line.status = .idle → s.node.state ≠ .powerUp →
    (∀ n id rest, s.line.jobs = .stop n id :: rest →
      exec i s = .next
        { s with
          line :=
            { s.line with
              jobs := rest, status := .transaction (.stop n (s.line.zone n).addr id)
              sent := lineMessage (s.line.zone n).addr 0x14 [id], timer := 5 * 5000 + 480000 } }) ∧
    (∀ a id rest, s.line.jobs = .cancel a id :: rest →
      exec i s = .next
        { s with
          line :=
            { s.line with
              jobs := rest, status := .transaction (.cancel a id), sent := lineMessage a 0x13 [id], timer := 5 * 5000 } }) ∧
    (∀ id, s.line.jobs = [] → s.line.seq = some { cueId := id, left := [] } →
      exec i s = .next
        { s with
          line := { s.line with status := .transaction (.start id), sent := lineMessage 0 0x12 [id], timer := 5 * 5000 } }) ∧
    (∀ n, s.line.jobs = [] → (∀ id, s.line.seq ≠ some { cueId := id, left := [] }) → n < 8 →
      (s.line.zone n).pollDue = true →
      ((s.line.zone n).state = .playing ∧
          (∀ m, m < n → ¬((s.line.zone m).pollDue = true ∧ (s.line.zone m).state = .playing))) ∨
        ((s.line.zone n).state = .fault ∧
          (∀ m, m < 8 → ¬((s.line.zone m).pollDue = true ∧ (s.line.zone m).state = .playing)) ∧
          (∀ m, m < n → ¬((s.line.zone m).pollDue = true ∧ (s.line.zone m).state = .fault))) →
      exec i s = .next
        { s with
          line :=
            { s.line with
              zones := s.line.zones.set n { s.line.zone n with pollDue := false }
              status := .transaction (.poll n (s.line.zone n).addr)
              sent := lineMessage (s.line.zone n).addr 0x15 [], timer := 4 * 5000 + 480000 } }) ∧
    (∀ n id rest c, s.line.jobs = [] → s.line.seq = some { cueId := id, left := n :: rest } → s.findCue id = some c →
      (∀ m, m < 8 → (s.line.zone m).pollDue = true →
        (s.line.zone m).state ≠ .playing ∧ (s.line.zone m).state ≠ .fault) →
      exec i s = .next
        { s with
          line :=
            { s.line with
              seq := some { cueId := id, left := rest }
              status := .transaction (.offer n (s.line.zone n).addr id)
              sent := lineMessage (s.line.zone n).addr 0x11
                (id :: c.playLimit :: c.codes.length :: c.codes.flatMap fun p => [p / 256, p % 256])
              timer := (7 + 2 * c.codes.length) * 5000 + 480000 } })

/-- LINE_ARBITRATION (R128, R131, R132, R139, R149): with no work in classes 1 to 3 and no sequence, the cue taken is eligible,
above the cue floor, and of highest rank; its usable zones become OFFERED for it, or, where some are not available, the
lower cues that hold them are marked as preempted and all their PLAYING zones stopped. -/
def Obligations.ArbiterChoosesHighestCue : Prop :=
  ∀ (s : State) (c : Cue),
    s.cuesOk → s.line.ok → s.line.status = .idle → s.node.state ≠ .powerUp → s.line.jobs = [] → s.line.seq = none →
    (∀ m, m < 8 → (s.line.zone m).pollDue = false) →
    c ∈ s.cues.queue → eligible s c = true →
    (∀ d ∈ s.cues.queue, eligible s d = true → d = c ∨ d.priority < c.priority ∨
      (d.priority = c.priority ∧ (c.release < d.release ∨ (c.release = d.release ∧ c.id < d.id)))) →
    (s.ovr.level ≠ 0 → s.ovr.floor ≤ c.priority) ∧
    ∃ t, exec .lineArbitration s = .next t ∧ t.node = s.node ∧ t.table = s.table ∧ t.store = s.store ∧
      ((∀ n ∈ usableZones s.line c.zones, availableZone s.line n = true) →
        t.line.seq = some { cueId := c.id, left := usableZones s.line c.zones } ∧
        t.line.status = .idle ∧ t.line.jobs = [] ∧
        (∀ n, n < 8 → t.line.zone n =
          if n ∈ usableZones s.line c.zones then
            { s.line.zone n with state := .offered, holding := some c.id, taken := false }
          else s.line.zone n) ∧
        t.cues.queue = s.cues.queue.map fun d => if d.id = c.id then { d with state := .offered } else d) ∧
      ((∃ n ∈ usableZones s.line c.zones, availableZone s.line n = false) →
        s.bank.params.preemptLevel ≤ c.priority ∧ t.line.seq = none ∧
        (∀ n ∈ usableZones s.line c.zones, availableZone s.line n = false →
          ∃ v ∈ s.cues.queue, (s.line.zone n).holding = some v.id ∧ v.priority < c.priority ∧
            { v with preempted := true } ∈ t.cues.queue ∧
            ∀ m, m < 8 → (s.line.zone m).state = .playing → (s.line.zone m).holding = some v.id →
              (t.line.zone m).state = .stopping ∧ LineJob.stop m v.id ∈ t.line.jobs) ∧
        (∀ d ∈ t.cues.queue, d.id = c.id → d.state = .due))

/-- START_SENT, CANCEL_SENT, LINE_BREAK_END, LINE_QUIET_END (R126, R127, R133): the line becomes idle; with START sent, the cue
plays with a play count of 0 and every zone of its sequence plays with its timer at 32, but a zone whose pending address
is 0 is stopped. That each event commanded alone brings the line's timer to its end is the model's choice
(assumption 1). -/
def Obligations.SentCommandsFreeTheLine : Prop :=
  ∀ s : State,
    (∀ id, s.line.status = .transaction (.start id) → s.line.zones.length = 8 →
      ∃ t, exec .startSent s = .next t ∧ t.line.status = .idle ∧ t.line.seq = none ∧
        t.cues.queue = s.cues.queue.map (fun c =>
          if c.id = id then { c with state := .playing, playCount := 0, completed := 0#8, lost := 0#8 } else c) ∧
        (∀ n, n < 8 →
          let z := s.line.zone n
          (z.state = .offered → z.holding = some id → z.pendingAddr ≠ some 0 →
            t.line.zone n = { z with state := .playing, timer := some 32, taken := false }) ∧
          (z.state = .offered → z.holding = some id → z.pendingAddr = some 0 →
            t.line.zone n = { z with state := .stopping, timer := none, taken := false, pollDue := false } ∧
              LineJob.stop n id ∈ t.line.jobs) ∧
          (¬(z.state = .offered ∧ z.holding = some id) → t.line.zone n = z)) ∧
        t.node = s.node ∧ t.table = s.table) ∧
    (∀ a id, s.line.status = .transaction (.cancel a id) →
      exec .cancelSent s = .next { s with line := { s.line with status := .idle, timer := 0 } }) ∧
    (s.line.status = .lineBreak →
      exec .lineBreakEnd s = .next { s with line := { s.line with status := .idle, timer := 0 } }) ∧
    (∀ left, s.line.status = .quiet left →
      exec .lineQuietEnd s = .next { s with line := { s.line with status := .idle, timer := 0 } })

/-- TAKEN, BUSY (R112, R124, R132, R134): a valid TAKEN clears the zone's misses and marks it; a valid BUSY fails the sequence:
its zones become FREE, a CANCEL to each zone that had taken the cue becomes pending, and the cue is back in the queue,
waiting, with a retry hold of S + 1; where no other cue of its key and template waits it is DUE. Characters that are no
valid reply change nothing. -/
def Obligations.OfferRepliesTakenAndBusy : Prop :=
  ∀ (s : State) (n a id : Nat) (chars : List LineChar),
    s.line.status = .transaction (.offer n a id) → s.line.zones.length = 8 → n < 8 →
    (readMessage chars = some (a, 0x21, [id]) →
      exec (.taken chars) s = .next
        { s with
          line :=
            { s.line with
              status := .idle, timer := 0
              zones := s.line.zones.set n { s.line.zone n with miss := 0, taken := true } } }) ∧
    (readMessage chars ≠ some (a, 0x21, [id]) → exec (.taken chars) s = .next s) ∧
    (readMessage chars ≠ some (a, 0x22, [id]) → exec (.busy chars) s = .next s) ∧
    (readMessage chars = some (a, 0x22, [id]) → (∀ z ∈ s.line.zones, z.pendingAddr = none) →
      ∃ t, exec (.busy chars) s = .next t ∧ t.line.status = .idle ∧ t.line.seq = none ∧
        (∀ m, m < 8 → (s.line.zone m).state = .offered → (s.line.zone m).holding = some id →
          (t.line.zone m).state = .free ∧ (t.line.zone m).holding = none ∧ (t.line.zone m).addr = (s.line.zone m).addr ∧
            (t.line.zone m).miss = if m = n then 0 else (s.line.zone m).miss) ∧
        (∀ m, m < 8 → m ≠ n → ¬((s.line.zone m).state = .offered ∧ (s.line.zone m).holding = some id) →
          t.line.zone m = s.line.zone m) ∧
        (∀ m, m < 8 → (s.line.zone m).state = .offered → (s.line.zone m).holding = some id →
          (s.line.zone m).taken = true → LineJob.cancel (s.line.zone m).addr id ∈ t.line.jobs) ∧
        (∀ c ∈ t.cues.queue, c.id = id →
          c.waits = true ∧ c.retryHold = some ((s.time.second : Int) + 1) ∧ c.playCount = 0) ∧
        (∀ c, s.cuesOk → c ∈ s.cues.queue → c.id = id → (s.line.zone n).addr ≠ 0 → (s.line.zone n).state = .offered →
          (s.line.zone n).holding = some id → c.zones.getLsbD n = true →
          (∀ x ∈ s.cues.queue, x.id ≠ id → ¬(x.key ≠ 0 ∧ x.key = c.key ∧ x.template = c.template ∧ x.waits = true)) →
          ∃ d ∈ t.cues.queue, d.id = id ∧ d.state = .due ∧ d.codes = c.codes ∧ d.zones = c.zones))

/-- R137, R138: the line with zone `n` FREE, no address waiting, under the miss count given, and its pending STOP withdrawn. -/
def lineWithFreed (l : LineCtl) (n miss : Nat) : LineCtl :=
  { l with
    zones := l.zones.set n
      { l.zone n with state := .free, holding := none, miss := miss, timer := none, taken := false, pollDue := false }
    jobs := l.jobs.filter fun j => match j with
      | .stop m _ => m != n
      | .cancel _ _ => true }

/-- R135: the line with zone `n` in FAULT, no address waiting, to be polled in 320 cycles, and its pending STOP withdrawn. -/
def lineWithFault (l : LineCtl) (n : Nat) : LineCtl :=
  { lineWithFreed l n 3 with
    zones := l.zones.set n
      { l.zone n with state := .fault, holding := none, miss := 3, timer := some 320, taken := false, pollDue := false } }

/-- R112, R131, R134, R140: cue `id` is back in DUE with the retry hold given. A waiting or due cue of its nonzero key and
template is coalesced into it, which the cue then takes its content from, EXPIRED where that lies behind S. -/
def ReturnedToDue (id : Nat) (hold : Option Int) (s t : State) : Prop :=
  ∀ c ∈ s.cues.queue, c.id = id →
    let back : Cue :=
      { c with state := .due, retryHold := hold, playCount := 0, preempted := false, completed := 0#8, lost := 0#8 }
    let mate (o : Cue) : Prop := o.id ≠ id ∧ c.key ≠ 0 ∧ o.key = c.key ∧ o.template = c.template ∧ o.waits = true
    ((∀ o ∈ s.cues.queue, ¬mate o) →
      t = withoutHomeless
        { s with cues := { s.cues with queue := s.cues.queue.map fun d => if d.id = id then back else d } }) ∧
    (∀ o ∈ s.cues.queue, mate o →
      let both : Cue :=
        { back with
          source := o.source, codes := o.codes, zones := o.zones, priority := o.priority, release := o.release
          expiry := o.expiry, playLimit := o.playLimit
          state := if o.release ≤ (s.time.second : Int) then .due else .waiting }
      let rest := s.cues.queue.filter fun d => d.id != o.id
      ((s.time.second : Int) ≤ o.expiry →
        t = withoutHomeless { s with cues := { s.cues with queue := rest.map fun d => if d.id = id then both else d } }) ∧
      (o.expiry < (s.time.second : Int) →
        t = withoutHomeless
          { s with
            cues := { s.cues with queue := rest.filter fun d => d.id != id }
            node := nodeAfterReports [Cue.dropReport .expired both] s.node }))

/-- R137, R138, R140: zone `n`, no longer held, is counted for cue `id` as completed or as lost. While another zone holds
the cue it plays on; with the last one it leaves with CUE FINISHED, or CUE TRUNCATED at its play limit; a preempted one is
back in DUE, or dropped PREEMPTED where its expiry lies before S. -/
def ReleasedFrom (id n : Nat) (completed : Bool) (s t : State) : Prop :=
  ∀ c ∈ s.cues.queue, c.id = id →
    let done : BitVec 8 := if completed then c.completed ||| BitVec.twoPow 8 n else c.completed
    let lost : BitVec 8 := if completed then c.lost else c.lost ||| BitVec.twoPow 8 n
    let left := s.cues.queue.filter fun d => d.id != id
    ((∃ m, m < 8 ∧ (s.line.zone m).holding = some id) →
      t = { s with cues := { s.cues with queue := s.cues.queue.map fun d =>
        if d.id = id then { d with completed := done, lost := lost } else d } }) ∧
    ((∀ m, m < 8 → (s.line.zone m).holding ≠ some id) →
      (c.preempted = false →
        t = { s with
              cues := { s.cues with queue := left }
              node := nodeAfterReports
                [if c.playLimit * 64 ≤ c.playCount then .cueTruncated id c.source c.key c.template done lost
                 else .cueFinished id c.source c.key c.template done lost] s.node }) ∧
      (c.preempted = true → c.expiry < (s.time.second : Int) →
        t = { s with
              cues := { s.cues with queue := left }
              node := nodeAfterReports [.cueDropped (some id) c.source c.key c.template .preempted] s.node }) ∧
      (c.preempted = true → (s.time.second : Int) ≤ c.expiry → ReturnedToDue id none s t))

/-- STOPPED, PLAYING, FINISHED, IDLE (R112, R136 to R138, R140): a valid STOPPED, FINISHED or IDLE frees the zone as completed
with its misses cleared and its pending STOP withdrawn. When it was the last zone of its cue the cue leaves with CUE
FINISHED, or CUE TRUNCATED at its play limit; a preempted cue is back in DUE, coalesced with a waiting cue of its key and
template, or is dropped PREEMPTED past its expiry. A valid PLAYING sets the poll timer to 32 again; and a FAULT zone that
answers its poll is FREE again with ZONE RECOVERED. No zone waits to take an address. That ZONE RECOVERED carries the
address in effect at the end of the transaction, also where it is not the one polled, is DEDUCED (assumption 12). -/
def Obligations.RepliesEndPlayOrRecover : Prop :=
  ∀ (s : State) (n a : Nat) (chars : List LineChar),
    s.line.zones.length = 8 → n < 8 → (s.line.zone n).pendingAddr = none →
    let z := s.line.zone n
    (∀ (i : Instr) (id : Nat) (c : Cue),
      (i = .stopped chars ∧ s.line.status = .transaction (.stop n a id) ∧ readMessage chars = some (a, 0x23, [id]) ∧
          z.state = .stopping) ∨
        (i = .finished chars ∧ s.line.status = .transaction (.poll n a) ∧ readMessage chars = some (a, 0x25, []) ∧
          (z.state = .playing ∨ z.state = .stopping)) ∨
        (i = .idle chars ∧ s.line.status = .transaction (.poll n a) ∧ readMessage chars = some (a, 0x26, []) ∧
          (z.state = .playing ∨ z.state = .stopping)) →
      z.holding = some id → s.cuesOk → c ∈ s.cues.queue → c.id = id →
      ∃ t, exec i s = .next t ∧
        ReleasedFrom id n true { s with line := { lineWithFreed s.line n 0 with status := .idle, timer := 0 } } t) ∧
    (s.line.status = .transaction (.poll n a) → readMessage chars = some (a, 0x24, []) →
      (z.state = .playing →
        exec (.playing chars) s = .next
          { s with
            line :=
              { s.line with
                status := .idle, timer := 0, zones := s.line.zones.set n { z with miss := 0, timer := some 32 } } }) ∧
      (z.state = .stopping →
        exec (.playing chars) s = .next
          { s with
            line := { s.line with status := .idle, timer := 0, zones := s.line.zones.set n { z with miss := 0 } } })) ∧
    (∀ i : Instr,
      (i = .playing chars ∧ readMessage chars = some (a, 0x24, [])) ∨
        (i = .finished chars ∧ readMessage chars = some (a, 0x25, [])) ∨
        (i = .idle chars ∧ readMessage chars = some (a, 0x26, [])) →
      s.line.status = .transaction (.poll n a) → z.state = .fault →
      exec i s = .next
        { s with
          line :=
            { s.line with
              status := .idle, timer := 0
              zones := s.line.zones.set n
                { z with state := .free, holding := none, miss := 0, timer := none, taken := false, pollDue := false } }
          node := nodeAfterReports [.zoneRecovered n z.addr] s.node })

/-- REPLY_WINDOW_CLOSE (R112, R126, R131, R134 to R138, R140): no valid reply is a miss. A zone polled takes it, PLAYING to be
polled again in 32 cycles, and FAULT in 320. A zone sent STOP becomes FREE, released as lost. The third miss takes a zone
to FAULT with ZONE FAULT and the NO ZONE check, released as lost. The miss of an OFFER fails the sequence: its zones are
FREE, or the third time FAULT, a CANCEL is pending for each zone that had taken the cue, and the cue is back in DUE with a
hold of S + 1. That the window closes by an event one can command is the model's choice (assumption 1), as is the quiet of
2 character times, 10 000 ticks, begun at the close, begun anew by the characters of a late reply, and ended within 20 ms
of the close, 480 000 ticks (assumption 14). -/
def Obligations.WindowCloseCountsMiss : Prop :=
  ∀ (s : State) (n a id : Nat), s.line.zones.length = 8 → n < 8 →
    let z := s.line.zone n
    let quiet (l : LineCtl) : LineCtl := { l with status := .quiet 480000, timer := 10000 }
    let faulted : State :=
      { s with line := quiet (lineWithFault s.line n), node := nodeAfterReports [.zoneFault n z.addr] s.node }
    (∀ (i : Instr) (chars : List LineChar) (left : Nat), s.line.status = .quiet left → chars ≠ [] →
      i ∈ [.taken chars, .busy chars, .stopped chars, .playing chars, .finished chars, .idle chars] →
      exec i s = .next { s with line := { s.line with timer := min 10000 left } }) ∧
    (s.line.status = .transaction (.poll n a) →
      (z.state = .playing → z.miss < 2 →
        exec .replyWindowClose s = .next
          { s with line := { quiet s.line with
                             zones := s.line.zones.set n { z with miss := z.miss + 1, timer := some 32 } } }) ∧
      (z.state = .stopping → z.miss < 2 →
        exec .replyWindowClose s = .next
          { s with line := { quiet s.line with zones := s.line.zones.set n { z with miss := z.miss + 1 } } }) ∧
      (z.state = .fault →
        exec .replyWindowClose s = .next
          { s with line := { quiet s.line with
                             zones := s.line.zones.set n { z with miss := 3, timer := some 320 } } }) ∧
      (z.state = .playing ∨ z.state = .stopping → z.miss = 2 → z.holding = some id → z.pendingAddr = none →
        ∃ t, exec .replyWindowClose s = .next t ∧ t.line = quiet (lineWithFault s.line n) ∧
          (s.node.reports.length < 16 → Report.zoneFault n z.addr ∈ t.node.reports) ∧
          ((∃ m, m < 8 ∧ m ≠ n ∧ (s.line.zone m).holding = some id) →
            ∀ c ∈ t.cues.queue, c.id = id → c.lost.getLsbD n = true) ∧
          (s.cuesOk → ∃ u, ReleasedFrom id n false faulted u ∧ t = withoutHomeless u))) ∧
    (s.line.status = .transaction (.stop n a id) → z.state = .stopping → z.holding = some id → z.pendingAddr = none →
      s.cuesOk → ∃ t, exec .replyWindowClose s = .next t ∧
        (z.miss < 2 → ReleasedFrom id n false { s with line := quiet (lineWithFreed s.line n (z.miss + 1)) } t) ∧
        (2 ≤ z.miss → ∃ u, ReleasedFrom id n false faulted u ∧ t = withoutHomeless u)) ∧
    (s.line.status = .transaction (.offer n a id) → z.state = .offered → z.holding = some id → z.taken = false →
      (∀ m, m < 8 → (s.line.zone m).pendingAddr = none) →
      (∀ m i, LineJob.stop m i ∈ s.line.jobs → (s.line.zone m).state = .stopping) → s.cuesOk →
      let mine (m : Nat) : Bool := (s.line.zone m).state == .offered && (s.line.zone m).holding == some id
      let failed (l : LineCtl) : LineCtl :=
        { quiet l with
          seq := none
          jobs := s.line.jobs ++ ((List.range 8).filter fun m => mine m && (s.line.zone m).taken).map fun m =>
            .cancel (s.line.zone m).addr id
          zones := (List.range 8).map fun m =>
            if m ≠ n ∧ mine m = true then (lineWithFreed s.line m (s.line.zone m).miss).zone m else l.zone m }
      ∃ t, exec .replyWindowClose s = .next t ∧
        (z.miss < 2 →
          ReturnedToDue id (some ((s.time.second : Int) + 1))
            { s with line := failed (lineWithFreed s.line n (z.miss + 1)) } t) ∧
        (2 ≤ z.miss →
          ReturnedToDue id (some ((s.time.second : Int) + 1)) { faulted with line := failed (lineWithFault s.line n) } t))

/-- POLL_TIMER_EXPIRY, PLAY_LIMIT_REACHED (R129, R130, R137, R138): a timer at 0 makes the zone's poll due; a play count at its
limit stops every zone its cue still plays in, with a STOP pending for each, and the cue stays PLAYING. That each brings
the count there is the model's choice (assumption 1). -/
def Obligations.PollFallsDueAndPlayLimitStops : Prop :=
  (∀ (s : State) (n : Nat), n < 8 → s.line.zones.length = 8 →
    (s.line.zone n).state = .playing ∨ (s.line.zone n).state = .fault → (s.line.zone n).timer.isSome = true →
    (∀ a, s.line.status ≠ .transaction (.poll n a)) →
    exec (.pollTimerExpiry n) s = .next
      { s with
        line := { s.line with zones := s.line.zones.set n { s.line.zone n with timer := some 0, pollDue := true } } }) ∧
  (∀ (s : State) (id : Nat) (c : Cue), s.findCue id = some c → c.state = .playing → c.playCount < c.playLimit * 64 →
    s.line.zones.length = 8 →
    ∃ t, exec (.playLimitReached id) s = .next t ∧
      t.cues.queue = s.cues.queue.map (fun d => if d.id = id then { d with playCount := d.playLimit * 64 } else d) ∧
      (∀ n, n < 8 →
        let z := s.line.zone n
        (z.state = .playing → z.holding = some id →
          t.line.zone n = { z with state := .stopping, timer := none, pollDue := false } ∧
            LineJob.stop n id ∈ t.line.jobs) ∧
        (¬(z.state = .playing ∧ z.holding = some id) → t.line.zone n = z)) ∧
      (∀ j ∈ s.line.jobs, j ∈ t.line.jobs) ∧ t.line.status = s.line.status ∧ t.node = s.node ∧ t.table = s.table)
end

