-- ==== Sys2Proof/Laws/State.lean ====
section
/-! SUPPORT. What each setter of the state changes and what it leaves: one lemma for each field under each setter. -/

namespace Sys2Proof.Machine

variable (s : State)

/-! ### setPending -/

@[simp] theorem State.setPending_pending (v : List Instr) : (s.setPending v).pending = v := rfl
@[simp] theorem State.setPending_chain (v : List Instr) : (s.setPending v).chain = s.chain := rfl
@[simp] theorem State.setPending_store (v : List Instr) : (s.setPending v).store = s.store := rfl
@[simp] theorem State.setPending_table (v : List Instr) : (s.setPending v).table = s.table := rfl
@[simp] theorem State.setPending_cues (v : List Instr) : (s.setPending v).cues = s.cues := rfl
@[simp] theorem State.setPending_line (v : List Instr) : (s.setPending v).line = s.line := rfl
@[simp] theorem State.setPending_rows (v : List Instr) : (s.setPending v).rows = s.rows := rfl
@[simp] theorem State.setPending_time (v : List Instr) : (s.setPending v).time = s.time := rfl
@[simp] theorem State.setPending_ovr (v : List Instr) : (s.setPending v).ovr = s.ovr := rfl
@[simp] theorem State.setPending_node (v : List Instr) : (s.setPending v).node = s.node := rfl
@[simp] theorem State.setPending_ports (v : List Instr) : (s.setPending v).ports = s.ports := rfl
@[simp] theorem State.setPending_free (v : List Instr) : (s.setPending v).free = s.free := rfl
@[simp] theorem State.setPending_self : s.setPending s.pending = s := rfl
@[simp] theorem State.setPending_twice (v w : List Instr) : (s.setPending v).setPending w = s.setPending w := rfl

/-! ### setChain -/

@[simp] theorem State.setChain_pending (v : Chain) : (s.setChain v).pending = s.pending := rfl
@[simp] theorem State.setChain_chain (v : Chain) : (s.setChain v).chain = v := rfl
@[simp] theorem State.setChain_store (v : Chain) : (s.setChain v).store = s.store := rfl
@[simp] theorem State.setChain_table (v : Chain) : (s.setChain v).table = s.table := rfl
@[simp] theorem State.setChain_cues (v : Chain) : (s.setChain v).cues = s.cues := rfl
@[simp] theorem State.setChain_line (v : Chain) : (s.setChain v).line = s.line := rfl
@[simp] theorem State.setChain_rows (v : Chain) : (s.setChain v).rows = s.rows := rfl
@[simp] theorem State.setChain_time (v : Chain) : (s.setChain v).time = s.time := rfl
@[simp] theorem State.setChain_ovr (v : Chain) : (s.setChain v).ovr = s.ovr := rfl
@[simp] theorem State.setChain_node (v : Chain) : (s.setChain v).node = s.node := rfl
@[simp] theorem State.setChain_ports (v : Chain) : (s.setChain v).ports = s.ports := rfl
@[simp] theorem State.setChain_free (v : Chain) : (s.setChain v).free = s.free := rfl
@[simp] theorem State.setChain_self : s.setChain s.chain = s := rfl
@[simp] theorem State.setChain_twice (v w : Chain) : (s.setChain v).setChain w = s.setChain w := rfl

/-! ### setStore -/

@[simp] theorem State.setStore_pending (v : Store) : (s.setStore v).pending = s.pending := rfl
@[simp] theorem State.setStore_chain (v : Store) : (s.setStore v).chain = s.chain := rfl
@[simp] theorem State.setStore_store (v : Store) : (s.setStore v).store = v := rfl
@[simp] theorem State.setStore_table (v : Store) : (s.setStore v).table = s.table := rfl
@[simp] theorem State.setStore_cues (v : Store) : (s.setStore v).cues = s.cues := rfl
@[simp] theorem State.setStore_line (v : Store) : (s.setStore v).line = s.line := rfl
@[simp] theorem State.setStore_rows (v : Store) : (s.setStore v).rows = s.rows := rfl
@[simp] theorem State.setStore_time (v : Store) : (s.setStore v).time = s.time := rfl
@[simp] theorem State.setStore_ovr (v : Store) : (s.setStore v).ovr = s.ovr := rfl
@[simp] theorem State.setStore_node (v : Store) : (s.setStore v).node = s.node := rfl
@[simp] theorem State.setStore_ports (v : Store) : (s.setStore v).ports = s.ports := rfl
@[simp] theorem State.setStore_free (v : Store) : (s.setStore v).free = s.free := rfl
@[simp] theorem State.setStore_self : s.setStore s.store = s := rfl
@[simp] theorem State.setStore_twice (v w : Store) : (s.setStore v).setStore w = s.setStore w := rfl

/-! ### setTable -/

@[simp] theorem State.setTable_pending (v : List ServiceRecord) : (s.setTable v).pending = s.pending := rfl
@[simp] theorem State.setTable_chain (v : List ServiceRecord) : (s.setTable v).chain = s.chain := rfl
@[simp] theorem State.setTable_store (v : List ServiceRecord) : (s.setTable v).store = s.store := rfl
@[simp] theorem State.setTable_table (v : List ServiceRecord) : (s.setTable v).table = v := rfl
@[simp] theorem State.setTable_cues (v : List ServiceRecord) : (s.setTable v).cues = s.cues := rfl
@[simp] theorem State.setTable_line (v : List ServiceRecord) : (s.setTable v).line = s.line := rfl
@[simp] theorem State.setTable_rows (v : List ServiceRecord) : (s.setTable v).rows = s.rows := rfl
@[simp] theorem State.setTable_time (v : List ServiceRecord) : (s.setTable v).time = s.time := rfl
@[simp] theorem State.setTable_ovr (v : List ServiceRecord) : (s.setTable v).ovr = s.ovr := rfl
@[simp] theorem State.setTable_node (v : List ServiceRecord) : (s.setTable v).node = s.node := rfl
@[simp] theorem State.setTable_ports (v : List ServiceRecord) : (s.setTable v).ports = s.ports := rfl
@[simp] theorem State.setTable_free (v : List ServiceRecord) : (s.setTable v).free = s.free := rfl
@[simp] theorem State.setTable_self : s.setTable s.table = s := rfl
@[simp] theorem State.setTable_twice (v w : List ServiceRecord) : (s.setTable v).setTable w = s.setTable w := rfl

/-! ### setCues -/

@[simp] theorem State.setCues_pending (v : Scheduler) : (s.setCues v).pending = s.pending := rfl
@[simp] theorem State.setCues_chain (v : Scheduler) : (s.setCues v).chain = s.chain := rfl
@[simp] theorem State.setCues_store (v : Scheduler) : (s.setCues v).store = s.store := rfl
@[simp] theorem State.setCues_table (v : Scheduler) : (s.setCues v).table = s.table := rfl
@[simp] theorem State.setCues_cues (v : Scheduler) : (s.setCues v).cues = v := rfl
@[simp] theorem State.setCues_line (v : Scheduler) : (s.setCues v).line = s.line := rfl
@[simp] theorem State.setCues_rows (v : Scheduler) : (s.setCues v).rows = s.rows := rfl
@[simp] theorem State.setCues_time (v : Scheduler) : (s.setCues v).time = s.time := rfl
@[simp] theorem State.setCues_ovr (v : Scheduler) : (s.setCues v).ovr = s.ovr := rfl
@[simp] theorem State.setCues_node (v : Scheduler) : (s.setCues v).node = s.node := rfl
@[simp] theorem State.setCues_ports (v : Scheduler) : (s.setCues v).ports = s.ports := rfl
@[simp] theorem State.setCues_free (v : Scheduler) : (s.setCues v).free = s.free := rfl
@[simp] theorem State.setCues_self : s.setCues s.cues = s := rfl
@[simp] theorem State.setCues_twice (v w : Scheduler) : (s.setCues v).setCues w = s.setCues w := rfl

/-! ### setLine -/

@[simp] theorem State.setLine_pending (v : LineCtl) : (s.setLine v).pending = s.pending := rfl
@[simp] theorem State.setLine_chain (v : LineCtl) : (s.setLine v).chain = s.chain := rfl
@[simp] theorem State.setLine_store (v : LineCtl) : (s.setLine v).store = s.store := rfl
@[simp] theorem State.setLine_table (v : LineCtl) : (s.setLine v).table = s.table := rfl
@[simp] theorem State.setLine_cues (v : LineCtl) : (s.setLine v).cues = s.cues := rfl
@[simp] theorem State.setLine_line (v : LineCtl) : (s.setLine v).line = v := rfl
@[simp] theorem State.setLine_rows (v : LineCtl) : (s.setLine v).rows = s.rows := rfl
@[simp] theorem State.setLine_time (v : LineCtl) : (s.setLine v).time = s.time := rfl
@[simp] theorem State.setLine_ovr (v : LineCtl) : (s.setLine v).ovr = s.ovr := rfl
@[simp] theorem State.setLine_node (v : LineCtl) : (s.setLine v).node = s.node := rfl
@[simp] theorem State.setLine_ports (v : LineCtl) : (s.setLine v).ports = s.ports := rfl
@[simp] theorem State.setLine_free (v : LineCtl) : (s.setLine v).free = s.free := rfl
@[simp] theorem State.setLine_self : s.setLine s.line = s := rfl
@[simp] theorem State.setLine_twice (v w : LineCtl) : (s.setLine v).setLine w = s.setLine w := rfl

/-! ### setRows -/

@[simp] theorem State.setRows_pending (v : Composer) : (s.setRows v).pending = s.pending := rfl
@[simp] theorem State.setRows_chain (v : Composer) : (s.setRows v).chain = s.chain := rfl
@[simp] theorem State.setRows_store (v : Composer) : (s.setRows v).store = s.store := rfl
@[simp] theorem State.setRows_table (v : Composer) : (s.setRows v).table = s.table := rfl
@[simp] theorem State.setRows_cues (v : Composer) : (s.setRows v).cues = s.cues := rfl
@[simp] theorem State.setRows_line (v : Composer) : (s.setRows v).line = s.line := rfl
@[simp] theorem State.setRows_rows (v : Composer) : (s.setRows v).rows = v := rfl
@[simp] theorem State.setRows_time (v : Composer) : (s.setRows v).time = s.time := rfl
@[simp] theorem State.setRows_ovr (v : Composer) : (s.setRows v).ovr = s.ovr := rfl
@[simp] theorem State.setRows_node (v : Composer) : (s.setRows v).node = s.node := rfl
@[simp] theorem State.setRows_ports (v : Composer) : (s.setRows v).ports = s.ports := rfl
@[simp] theorem State.setRows_free (v : Composer) : (s.setRows v).free = s.free := rfl
@[simp] theorem State.setRows_self : s.setRows s.rows = s := rfl
@[simp] theorem State.setRows_twice (v w : Composer) : (s.setRows v).setRows w = s.setRows w := rfl

/-! ### setTime -/

@[simp] theorem State.setTime_pending (v : TimeBase) : (s.setTime v).pending = s.pending := rfl
@[simp] theorem State.setTime_chain (v : TimeBase) : (s.setTime v).chain = s.chain := rfl
@[simp] theorem State.setTime_store (v : TimeBase) : (s.setTime v).store = s.store := rfl
@[simp] theorem State.setTime_table (v : TimeBase) : (s.setTime v).table = s.table := rfl
@[simp] theorem State.setTime_cues (v : TimeBase) : (s.setTime v).cues = s.cues := rfl
@[simp] theorem State.setTime_line (v : TimeBase) : (s.setTime v).line = s.line := rfl
@[simp] theorem State.setTime_rows (v : TimeBase) : (s.setTime v).rows = s.rows := rfl
@[simp] theorem State.setTime_time (v : TimeBase) : (s.setTime v).time = v := rfl
@[simp] theorem State.setTime_ovr (v : TimeBase) : (s.setTime v).ovr = s.ovr := rfl
@[simp] theorem State.setTime_node (v : TimeBase) : (s.setTime v).node = s.node := rfl
@[simp] theorem State.setTime_ports (v : TimeBase) : (s.setTime v).ports = s.ports := rfl
@[simp] theorem State.setTime_free (v : TimeBase) : (s.setTime v).free = s.free := rfl
@[simp] theorem State.setTime_self : s.setTime s.time = s := rfl
@[simp] theorem State.setTime_twice (v w : TimeBase) : (s.setTime v).setTime w = s.setTime w := rfl

/-! ### setOvr -/

@[simp] theorem State.setOvr_pending (v : OverrideContext) : (s.setOvr v).pending = s.pending := rfl
@[simp] theorem State.setOvr_chain (v : OverrideContext) : (s.setOvr v).chain = s.chain := rfl
@[simp] theorem State.setOvr_store (v : OverrideContext) : (s.setOvr v).store = s.store := rfl
@[simp] theorem State.setOvr_table (v : OverrideContext) : (s.setOvr v).table = s.table := rfl
@[simp] theorem State.setOvr_cues (v : OverrideContext) : (s.setOvr v).cues = s.cues := rfl
@[simp] theorem State.setOvr_line (v : OverrideContext) : (s.setOvr v).line = s.line := rfl
@[simp] theorem State.setOvr_rows (v : OverrideContext) : (s.setOvr v).rows = s.rows := rfl
@[simp] theorem State.setOvr_time (v : OverrideContext) : (s.setOvr v).time = s.time := rfl
@[simp] theorem State.setOvr_ovr (v : OverrideContext) : (s.setOvr v).ovr = v := rfl
@[simp] theorem State.setOvr_node (v : OverrideContext) : (s.setOvr v).node = s.node := rfl
@[simp] theorem State.setOvr_ports (v : OverrideContext) : (s.setOvr v).ports = s.ports := rfl
@[simp] theorem State.setOvr_free (v : OverrideContext) : (s.setOvr v).free = s.free := rfl
@[simp] theorem State.setOvr_self : s.setOvr s.ovr = s := rfl
@[simp] theorem State.setOvr_twice (v w : OverrideContext) : (s.setOvr v).setOvr w = s.setOvr w := rfl

/-! ### setNode -/

@[simp] theorem State.setNode_pending (v : Node) : (s.setNode v).pending = s.pending := rfl
@[simp] theorem State.setNode_chain (v : Node) : (s.setNode v).chain = s.chain := rfl
@[simp] theorem State.setNode_store (v : Node) : (s.setNode v).store = s.store := rfl
@[simp] theorem State.setNode_table (v : Node) : (s.setNode v).table = s.table := rfl
@[simp] theorem State.setNode_cues (v : Node) : (s.setNode v).cues = s.cues := rfl
@[simp] theorem State.setNode_line (v : Node) : (s.setNode v).line = s.line := rfl
@[simp] theorem State.setNode_rows (v : Node) : (s.setNode v).rows = s.rows := rfl
@[simp] theorem State.setNode_time (v : Node) : (s.setNode v).time = s.time := rfl
@[simp] theorem State.setNode_ovr (v : Node) : (s.setNode v).ovr = s.ovr := rfl
@[simp] theorem State.setNode_node (v : Node) : (s.setNode v).node = v := rfl
@[simp] theorem State.setNode_ports (v : Node) : (s.setNode v).ports = s.ports := rfl
@[simp] theorem State.setNode_free (v : Node) : (s.setNode v).free = s.free := rfl
@[simp] theorem State.setNode_self : s.setNode s.node = s := rfl
@[simp] theorem State.setNode_twice (v w : Node) : (s.setNode v).setNode w = s.setNode w := rfl

/-! ### setPorts -/

@[simp] theorem State.setPorts_pending (v : Ports) : (s.setPorts v).pending = s.pending := rfl
@[simp] theorem State.setPorts_chain (v : Ports) : (s.setPorts v).chain = s.chain := rfl
@[simp] theorem State.setPorts_store (v : Ports) : (s.setPorts v).store = s.store := rfl
@[simp] theorem State.setPorts_table (v : Ports) : (s.setPorts v).table = s.table := rfl
@[simp] theorem State.setPorts_cues (v : Ports) : (s.setPorts v).cues = s.cues := rfl
@[simp] theorem State.setPorts_line (v : Ports) : (s.setPorts v).line = s.line := rfl
@[simp] theorem State.setPorts_rows (v : Ports) : (s.setPorts v).rows = s.rows := rfl
@[simp] theorem State.setPorts_time (v : Ports) : (s.setPorts v).time = s.time := rfl
@[simp] theorem State.setPorts_ovr (v : Ports) : (s.setPorts v).ovr = s.ovr := rfl
@[simp] theorem State.setPorts_node (v : Ports) : (s.setPorts v).node = s.node := rfl
@[simp] theorem State.setPorts_ports (v : Ports) : (s.setPorts v).ports = v := rfl
@[simp] theorem State.setPorts_free (v : Ports) : (s.setPorts v).free = s.free := rfl
@[simp] theorem State.setPorts_self : s.setPorts s.ports = s := rfl
@[simp] theorem State.setPorts_twice (v w : Ports) : (s.setPorts v).setPorts w = s.setPorts w := rfl

/-! ### setFree -/

@[simp] theorem State.setFree_pending (v : Nat) : (s.setFree v).pending = s.pending := rfl
@[simp] theorem State.setFree_chain (v : Nat) : (s.setFree v).chain = s.chain := rfl
@[simp] theorem State.setFree_store (v : Nat) : (s.setFree v).store = s.store := rfl
@[simp] theorem State.setFree_table (v : Nat) : (s.setFree v).table = s.table := rfl
@[simp] theorem State.setFree_cues (v : Nat) : (s.setFree v).cues = s.cues := rfl
@[simp] theorem State.setFree_line (v : Nat) : (s.setFree v).line = s.line := rfl
@[simp] theorem State.setFree_rows (v : Nat) : (s.setFree v).rows = s.rows := rfl
@[simp] theorem State.setFree_time (v : Nat) : (s.setFree v).time = s.time := rfl
@[simp] theorem State.setFree_ovr (v : Nat) : (s.setFree v).ovr = s.ovr := rfl
@[simp] theorem State.setFree_node (v : Nat) : (s.setFree v).node = s.node := rfl
@[simp] theorem State.setFree_ports (v : Nat) : (s.setFree v).ports = s.ports := rfl
@[simp] theorem State.setFree_free (v : Nat) : (s.setFree v).free = v := rfl
@[simp] theorem State.setFree_self : s.setFree s.free = s := rfl
@[simp] theorem State.setFree_twice (v w : Nat) : (s.setFree v).setFree w = s.setFree w := rfl

end Sys2Proof.Machine
end

