-- ==== Sys2Proof/Laws/Touch.lean ====
section
/-! SUPPORT. Frames: which blocks of the state an operation may touch. One lemma for each operation says it in these
terms, and a proof reads off that any other block is as it was. -/

namespace Sys2Proof.Laws

open Sys2Proof.Machine

/-- The parts of the state a frame speaks of. -/
inductive Block where
  | pending | chain | store | table | cues | line | rows | time | ovr | node | ports | free
  deriving DecidableEq, Repr

/-- Two states agree on a block. -/
def Block.same (b : Block) (s t : State) : Prop :=
  match b with
  | .pending => t.pending = s.pending
  | .chain => t.chain = s.chain
  | .store => t.store = s.store
  | .table => t.table = s.table
  | .cues => t.cues = s.cues
  | .line => t.line = s.line
  | .rows => t.rows = s.rows
  | .time => t.time = s.time
  | .ovr => t.ovr = s.ovr
  | .node => t.node = s.node
  | .ports => t.ports = s.ports
  | .free => t.free = s.free

/-- From `s` to `t` no block outside the list changes. -/
def Touches (bs : List Block) (s t : State) : Prop := ∀ b : Block, b ∉ bs → b.same s t

theorem Block.same_refl (b : Block) (s : State) : b.same s s := by cases b <;> rfl

theorem Block.same_trans {b : Block} {s t u : State} (h : b.same s t) (k : b.same t u) : b.same s u := by
  cases b <;> exact Eq.trans k h

theorem touches_refl (bs : List Block) (s : State) : Touches bs s s := fun b _ => b.same_refl s

theorem Touches.trans {bs : List Block} {s t u : State} (h : Touches bs s t) (k : Touches bs t u) : Touches bs s u :=
  fun b hb => Block.same_trans (h b hb) (k b hb)

theorem Touches.mono {bs cs : List Block} {s t : State} (h : Touches bs s t) (hsub : ∀ b ∈ bs, b ∈ cs) :
    Touches cs s t := fun b hb => h b fun hm => hb (hsub b hm)

/-- A fold touches what its steps touch. -/
theorem touches_foldl {α : Type} {bs : List Block} {f : State → α → State} (hf : ∀ s a, Touches bs s (f s a)) :
    ∀ (l : List α) (s : State), Touches bs s (l.foldl f s)
  | [], s => touches_refl bs s
  | a :: l, s => (hf s a).trans (touches_foldl hf l (f s a))

/-- A choice touches what its two sides touch. -/
theorem touches_ite {bs : List Block} {s t u : State} {c : Prop} [Decidable c] (h : Touches bs s t) (k : Touches bs s u) :
    Touches bs s (if c then t else u) := by split <;> assumption

/-- Two states that agree on every block are equal. -/
theorem eq_of_touches_nil {s t : State} (h : Touches [] s t) : t = s := by
  have hp : t.pending = s.pending := h .pending (by simp)
  have h1 : t.chain = s.chain := h .chain (by simp)
  have h2 : t.store = s.store := h .store (by simp)
  have h3 : t.table = s.table := h .table (by simp)
  have h4 : t.cues = s.cues := h .cues (by simp)
  have h5 : t.line = s.line := h .line (by simp)
  have h6 : t.rows = s.rows := h .rows (by simp)
  have h7 : t.time = s.time := h .time (by simp)
  have h8 : t.ovr = s.ovr := h .ovr (by simp)
  have h9 : t.node = s.node := h .node (by simp)
  have h10 : t.ports = s.ports := h .ports (by simp)
  have h11 : t.free = s.free := h .free (by simp)
  cases s; cases t; simp_all

/-! ### Setters -/

section
variable (s : State)

theorem touches_setChain (v : Chain) : Touches [.chain] s (s.setChain v) := by
  intro b hb; cases b <;> first | rfl | simp at hb
theorem touches_setStore (v : Store) : Touches [.store] s (s.setStore v) := by
  intro b hb; cases b <;> first | rfl | simp at hb
theorem touches_setTable (v : List ServiceRecord) : Touches [.table] s (s.setTable v) := by
  intro b hb; cases b <;> first | rfl | simp at hb
theorem touches_setCues (v : Scheduler) : Touches [.cues] s (s.setCues v) := by
  intro b hb; cases b <;> first | rfl | simp at hb
theorem touches_setLine (v : LineCtl) : Touches [.line] s (s.setLine v) := by
  intro b hb; cases b <;> first | rfl | simp at hb
theorem touches_setRows (v : Composer) : Touches [.rows] s (s.setRows v) := by
  intro b hb; cases b <;> first | rfl | simp at hb
theorem touches_setTime (v : TimeBase) : Touches [.time] s (s.setTime v) := by
  intro b hb; cases b <;> first | rfl | simp at hb
theorem touches_setOvr (v : OverrideContext) : Touches [.ovr] s (s.setOvr v) := by
  intro b hb; cases b <;> first | rfl | simp at hb
theorem touches_setNode (v : Node) : Touches [.node] s (s.setNode v) := by
  intro b hb; cases b <;> first | rfl | simp at hb
theorem touches_setPorts (v : Ports) : Touches [.ports] s (s.setPorts v) := by
  intro b hb; cases b <;> first | rfl | simp at hb
theorem touches_setFree (v : Nat) : Touches [.free] s (s.setFree v) := by
  intro b hb; cases b <;> first | rfl | simp at hb

end

end Sys2Proof.Laws
end

