-- ==== Sys2Proof/Laws/Frames.lean ====
section
/-! SUPPORT. The frames of the shared operations, of the cue scheduler, of the service list unit and rule evaluator, and
of the cue line controller. -/

namespace Sys2Proof.Laws

open Sys2Proof.Machine

variable (s : State)

/-! ### Shared operations -/

theorem touches_queueReport (r : Report) : Touches [.node] s (queueReport r s) := by
  unfold queueReport
  split <;> exact touches_setNode s _

theorem touches_queueReports (rs : List Report) : Touches [.node] s (queueReports rs s) :=
  touches_foldl (fun s r => touches_queueReport s r) rs s

theorem touches_reportIfPosition (mode : AddrMode) (r : Report) : Touches [.node] s (reportIfPosition mode r s) :=
  touches_ite (touches_queueReport s r) (touches_refl _ s)

theorem touches_watchReport (ev : WatchEvent) (r : ServiceRecord) : Touches [.node] s (watchReport ev r s) :=
  touches_ite (touches_queueReport s _) (touches_refl _ s)

theorem touches_watchReports (ev : WatchEvent) (rs : List ServiceRecord) : Touches [.node] s (watchReports ev rs s) :=
  touches_foldl (fun s r => touches_watchReport s ev r) rs s

theorem touches_updateCue (i : Nat) (f : Cue → Cue) : Touches [.cues] s (updateCue i f s) := touches_setCues s _

theorem touches_removeCue (i : Nat) : Touches [.cues] s (removeCue i s) := touches_setCues s _

theorem touches_dropCues (p : Cue → Bool) (reason : DropReason) : Touches [.cues, .node] s (dropCues p reason s) :=
  ((touches_setCues s _).mono (by decide)).trans ((touches_queueReports _ _).mono (by decide))

theorem touches_noZoneCheck : Touches [.cues, .node] s (noZoneCheck s) := touches_dropCues s _ _

theorem touches_countFree : Touches [.free] s (countFree s) := touches_setFree s _

/-! ### The cue scheduler -/

theorem touches_addCue (c : Cue) : Touches [.cues] s (addCue c s) := touches_setCues s _

theorem touches_placeCue (c : Cue) : Touches [.cues, .node] s (placeCue c s) := by
  have add (s : State) : Touches [.cues, .node] s (addCue c s) := (touches_addCue s c).mono (by decide)
  have full : Touches [.cues, .node] s (queueReport (.cueDropped none c.source c.key c.template .full) s) :=
    (touches_queueReport s _).mono (by decide)
  unfold placeCue
  split
  · exact add s
  · split
    · exact full
    · split
      · exact (touches_dropCues s _ _).trans (add _)
      · exact full

theorem touches_enterCue (c : Cue) : Touches [.cues, .node] s (enterCue c s) := by
  unfold enterCue
  split
  · exact ((touches_updateCue s _ _).mono (by decide)).trans (touches_noZoneCheck _)
  · exact (touches_placeCue s c).trans (touches_noZoneCheck _)

theorem touches_dropRequest (source : CueSource) (key : Nat) (t : Option Nat) (reason : DropReason) :
    Touches [.node] s (dropRequest source key t reason s) := touches_queueReport s _

theorem touches_timeCue (source : CueSource) (key : Nat) (t : Option Nat) (codes : List Nat) (zones : BitVec 8)
    (priority : Nat) (release : Int) (lifetime playLimit : Nat) :
    Touches [.cues, .node] s (timeCue source key t codes zones priority release lifetime playLimit s) := by
  unfold timeCue
  split
  · exact (touches_dropRequest s _ _ _ _).mono (by decide)
  · split
    · exact (touches_dropRequest s _ _ _ _).mono (by decide)
    · exact touches_enterCue s _

theorem touches_requestTemplate (source : CueSource) (key t : Nat) (r : Option ServiceRecord) :
    Touches [.cues, .node] s (requestTemplate source key t r s) := by
  unfold requestTemplate
  simp only
  split
  · exact (touches_dropRequest s _ _ _ _).mono (by decide)
  · split
    · exact (touches_dropRequest s _ _ _ _).mono (by decide)
    · exact touches_timeCue s _ _ _ _ _ _ _ _ _

theorem touches_requestCue (source : CueSource) (key : Nat) (t : Option Nat) (r : Option ServiceRecord) :
    Touches [.cues, .node] s (requestCue source key t r s) := by
  unfold requestCue
  split
  · split
    · exact touches_refl _ s
    · exact touches_requestTemplate s _ _ _ _
  · exact touches_refl _ s

theorem touches_cuePost (mode : AddrMode) (b : CuePostBody) : Touches [.cues, .node] s (cuePost mode b s) := by
  unfold cuePost
  split
  · split
    · exact (touches_reportIfPosition s _ _).mono (by decide)
    · split
      · exact (touches_dropRequest s _ _ _ _).mono (by decide)
      · exact touches_timeCue s _ _ _ _ _ _ _ _ _
  · exact touches_refl _ s

theorem touches_dropKey (key : Nat) (reason : DropReason) : Touches [.cues, .node] s (dropKey key reason s) :=
  touches_dropCues s _ _

theorem touches_expiryTest (sec : Int) : Touches [.cues, .node] s (expiryTest sec s) := touches_dropCues s _ _

theorem touches_releaseTest (sec : Int) : Touches [.cues] s (releaseTest sec s) := touches_setCues s _

theorem touches_lowerCues : Touches [.cues] s (lowerCues s) := touches_setCues s _

theorem touches_schedulerTests : Touches [.cues, .node] s (schedulerTests s) :=
  ((touches_expiryTest s _).trans ((touches_releaseTest _ _).mono (by decide))).trans (touches_noZoneCheck _)

theorem touches_schedulerStep (cls : StepClass) (old new : Int) (crosses : Bool) :
    Touches [.cues, .node] s (schedulerStep cls old new crosses s) := by
  unfold schedulerStep
  refine Touches.trans ?_ (touches_noZoneCheck _)
  have tests (s : State) : Touches [.cues, .node] s (releaseTest new (expiryTest new s)) :=
    (touches_expiryTest s _).trans ((touches_releaseTest _ _).mono (by decide))
  have skip : Touches [.cues, .node] s
      (if cls = .longStep then
        dropCues (fun c => c.state == .waiting && decide (old < c.release) && decide (c.release ≤ new)) .skipped s
      else s) := touches_ite (touches_dropCues s _ _) (touches_refl _ s)
  cases crosses
  · exact skip.trans (tests _)
  · exact (skip.trans (tests _)).trans ((touches_lowerCues _).mono (by decide))

theorem touches_clearHolds : Touches [.cues] s (clearHolds s) := touches_setCues s _

theorem touches_flushCues : Touches [.cues, .node] s (flushCues s) := touches_dropCues s _ _

theorem touches_coalesceReturned (i : Nat) : Touches [.cues, .node] s (coalesceReturned i s) := by
  unfold coalesceReturned
  split
  · exact touches_refl _ s
  · split
    · exact touches_refl _ s
    · refine touches_ite ?_ ?_
      · exact (((touches_removeCue s _).trans (touches_updateCue _ _ _)).mono (by decide)).trans (touches_dropCues _ _ _)
      · exact ((touches_removeCue s _).trans (touches_updateCue _ _ _)).mono (by decide)

theorem touches_returnCue (i : Nat) (hold : Option Int) : Touches [.cues, .node] s (returnCue i hold s) :=
  (((touches_updateCue s _ _).mono (by decide)).trans (touches_coalesceReturned _ _)).trans (touches_noZoneCheck _)

/-! ### The rule evaluator and the service list unit -/

theorem touches_ruleRequests (edges : List Nat) (r : ServiceRecord) : Touches [.cues, .node] s (ruleRequests edges r s) := by
  refine touches_foldl (fun s n => ?_) edges s
  refine touches_ite ?_ (touches_refl _ s)
  split
  · exact touches_refl _ s
  · exact touches_requestCue s _ _ _ _

theorem touches_storeEvaluated (r : ServiceRecord) : Touches [.table] s (storeEvaluated r s) := touches_setTable s _

theorem touches_fullEvaluation (r : ServiceRecord) : Touches [.table, .cues, .node] s (fullEvaluation r s) :=
  ((touches_storeEvaluated s r).mono (by decide)).trans ((touches_ruleRequests _ _ _).mono (by decide))

theorem touches_evaluateAll : Touches [.table, .cues, .node] s (evaluateAll s) :=
  touches_foldl (fun s r => touches_fullEvaluation s r) _ s

theorem touches_rebaseline : Touches [.table] s (rebaseline s) := touches_setTable s _

theorem touches_builtInRequest (e : Bool) (source : CueSource) (r : ServiceRecord) :
    Touches [.cues, .node] s (builtInRequest e source r s) :=
  touches_ite (touches_requestCue s _ _ _ _) (touches_refl _ s)

theorem touches_builtInRequests (e : Bool) (ch : FieldChange) : Touches [.cues, .node] s (builtInRequests e ch s) := by
  have cancel : Touches [.cues, .node] s (if ch.cancelCue then builtInRequest e .cancel ch.record s else s) :=
    touches_ite (touches_builtInRequest s _ _ _) (touches_refl _ s)
  unfold builtInRequests
  simp only
  split
  · exact cancel
  · exact cancel.trans (touches_builtInRequest _ _ _ _)

theorem touches_afterApply (ev : WatchEvent) (key : Nat) : Touches [.table, .cues, .node] s (afterApply ev key s) := by
  unfold afterApply
  split
  · exact touches_refl _ s
  · simp only
    split
    · exact touches_fullEvaluation s _
    · exact (touches_fullEvaluation s _).trans ((touches_watchReport _ _ _).mono (by decide))

theorem touches_leaveSelection (r : ServiceRecord) : Touches [.node] s (leaveSelection r s) :=
  (touches_queueReport s _).trans (touches_watchReport _ _ _)

theorem touches_settleChange (ev : WatchEvent) (e : Bool) (ch : FieldChange) (sel : BitVec 4 × Bool) :
    Touches [.table, .cues, .node] s (settleChange ev e ch sel s) := by
  unfold settleChange
  refine touches_ite ?_ ?_
  · exact (((touches_setTable s _).mono (by decide)).trans ((touches_builtInRequests _ _ _).mono (by decide))).trans
      ((touches_leaveSelection _ _).mono (by decide))
  · exact (((touches_setTable s _).mono (by decide)).trans ((touches_builtInRequests _ _ _).mono (by decide))).trans
      (touches_afterApply _ _ _)

theorem touches_createRecord (r : ServiceRecord) : Touches [.table, .cues, .node] s (createRecord r s) :=
  ((touches_setTable s _).mono (by decide)).trans (touches_afterApply _ _ _)

theorem touches_evictRecord (r : ServiceRecord) : Touches [.table, .cues, .node] s (evictRecord r s) :=
  ((((touches_setTable s _).mono (by decide)).trans ((touches_queueReport _ _).mono (by decide))).trans
    ((touches_dropKey _ _ _).mono (by decide))).trans ((touches_watchReport _ _ _).mono (by decide))

theorem touches_postNew (r : ServiceRecord) : Touches [.table, .cues, .node] s (postNew r s) := by
  unfold postNew
  split
  · exact touches_createRecord s r
  · split
    · exact touches_createRecord s r
    · exact touches_ite ((touches_evictRecord s _).trans (touches_createRecord _ _))
        ((touches_queueReport s _).mono (by decide))

theorem touches_postHeld (b : PostBody) (old : ServiceRecord) (sel : BitVec 4 × Bool) :
    Touches [.table, .cues, .node] s (postHeld b old sel s) := touches_settleChange s _ _ _ _

theorem touches_servicePost (mode : AddrMode) (b : PostBody) : Touches [.table, .cues, .node] s (servicePost mode b s) := by
  unfold servicePost
  split
  · split
    · exact (touches_reportIfPosition s _ _).mono (by decide)
    · simp only
      split
      · exact touches_ite (touches_refl _ s) (touches_postNew s _)
      · exact touches_ite
          (((touches_setTable s _).mono (by decide)).trans ((touches_leaveSelection _ _).mono (by decide)))
          (touches_postHeld s _ _ _)
  · exact touches_refl _ s

theorem touches_serviceAmend (mode : AddrMode) (b : AmendBody) :
    Touches [.table, .cues, .node] s (serviceAmend mode b s) := by
  unfold serviceAmend
  split
  · split
    · exact (touches_reportIfPosition s _ _).mono (by decide)
    · exact touches_settleChange s _ _ _ _
  · exact touches_refl _ s

theorem touches_serviceWithdraw (mode : AddrMode) (key : Nat) :
    Touches [.table, .cues, .node] s (serviceWithdraw mode key s) := by
  unfold serviceWithdraw
  split
  · split
    · exact (touches_reportIfPosition s _ _).mono (by decide)
    · exact (((touches_setTable s _).mono (by decide)).trans ((touches_dropKey _ _ _).mono (by decide))).trans
        ((touches_watchReport _ _ _).mono (by decide))
  · exact touches_refl _ s

theorem touches_tickAttention : Touches [.table] s (tickAttention s) := touches_setTable s _

theorem touches_retireWhere (p : ServiceRecord → Bool) : Touches [.table, .node] s (retireWhere p s) :=
  ((touches_setTable s _).mono (by decide)).trans ((touches_watchReports _ _ _).mono (by decide))

theorem touches_retireRecords : Touches [.table, .node] s (retireRecords s) := touches_retireWhere s _

theorem touches_turnTable : Touches [.table, .node] s (turnTable s) :=
  (touches_retireWhere s _).trans ((touches_setTable _ _).mono (by decide))

theorem touches_ageTable (turn : Bool) : Touches [.table, .node] s (ageTable turn s) := by
  exact touches_ite (((touches_tickAttention s).mono (by decide)).trans (touches_turnTable _))
    ((touches_tickAttention s).mono (by decide))

theorem touches_reselectOne (r : ServiceRecord) : Touches [.table, .node] s (reselectOne s r) := by
  unfold reselectOne
  simp only
  exact touches_ite (((touches_setTable s _).mono (by decide)).trans ((touches_leaveSelection _ _).mono (by decide)))
    ((touches_setTable s _).mono (by decide))

theorem touches_reselectAll : Touches [.table, .node] s (reselectAll s) :=
  touches_foldl (fun s r => touches_reselectOne s r) _ s

/-! ### The cue line controller -/

theorem touches_putZone (n : Nat) (z : Zone) : Touches [.line] s (putZone n z s) := touches_setLine s _

theorem touches_withdrawStop (n : Nat) : Touches [.line] s (withdrawStop n s) := touches_setLine s _

theorem touches_freeZone (n : Nat) : Touches [.cues, .line, .node] s (freeZone n s) := by
  have h : Touches [.cues, .line, .node] s (withdrawStop n (putZone n (s.line.zone n).freed s)) :=
    ((touches_putZone s _ _).trans (touches_withdrawStop _ _)).mono (by decide)
  exact touches_ite (h.trans ((touches_noZoneCheck _).mono (by decide))) h

theorem touches_faultZone (n : Nat) : Touches [.cues, .line, .node] s (faultZone n s) := by
  have h : Touches [.cues, .line, .node] s
      (withdrawStop n (putZone n (s.line.zone n).faulted (queueReport (.zoneFault n (s.line.zone n).addr) s))) :=
    ((touches_queueReport s _).mono (by decide)).trans
      (((touches_putZone _ _ _).trans (touches_withdrawStop _ _)).mono (by decide))
  exact touches_ite (h.trans ((touches_noZoneCheck _).mono (by decide))) h

theorem touches_haltZone (n : Nat) : Touches [.line] s (haltZone n s) := by
  unfold haltZone
  split
  · exact touches_refl _ s
  · exact touches_setLine s _

theorem touches_haltCues (ids : List Nat) : Touches [.line] s (haltCues ids s) :=
  touches_foldl (fun s n => touches_haltZone s n) _ s

theorem touches_endPlay (i : Nat) : Touches [.cues, .node] s (endPlay i s) := by
  unfold endPlay
  split
  · exact touches_refl _ s
  · split
    · exact touches_ite (touches_returnCue s _ _) (touches_dropCues s _ _)
    · exact ((touches_removeCue s _).mono (by decide)).trans ((touches_queueReport _ _).mono (by decide))

theorem touches_releaseFrom (i n : Nat) (completed : Bool) : Touches [.cues, .node] s (releaseFrom i n completed s) := by
  unfold releaseFrom
  exact touches_ite (((touches_updateCue s _ _).mono (by decide)).trans (touches_endPlay _ _))
    ((touches_updateCue s _ _).mono (by decide))

theorem touches_freeAndRelease (n : Nat) (completed : Bool) :
    Touches [.cues, .line, .node] s (freeAndRelease n completed s) := by
  unfold freeAndRelease
  split
  · exact touches_freeZone s n
  · exact (touches_freeZone s n).trans ((touches_releaseFrom _ _ _ _).mono (by decide))

theorem touches_faultAndRelease (n : Nat) : Touches [.cues, .line, .node] s (faultAndRelease n s) := by
  unfold faultAndRelease
  split
  · exact (touches_faultZone s n).trans ((touches_noZoneCheck _).mono (by decide))
  · exact ((touches_faultZone s n).trans ((touches_releaseFrom _ _ _ _).mono (by decide))).trans
      ((touches_noZoneCheck _).mono (by decide))

theorem touches_failSequence (i : Nat) : Touches [.cues, .line, .node] s (failSequence i s) := by
  unfold failSequence
  simp only
  exact (((touches_setLine s _).mono (by decide)).trans (touches_foldl (fun s n => touches_freeZone s n) _ _)).trans
    ((touches_returnCue _ _ _).mono (by decide))

theorem touches_setMiss (n k : Nat) : Touches [.line] s (setMiss n k s) := touches_putZone s _ _

theorem touches_missOffer (n i : Nat) : Touches [.cues, .line, .node] s (missOffer n i s) :=
  touches_ite
    (((touches_faultZone s n).trans (touches_failSequence _ _)).trans ((touches_noZoneCheck _).mono (by decide)))
    (((touches_setMiss s _ _).mono (by decide)).trans (touches_failSequence _ _))

theorem touches_missStop (n : Nat) : Touches [.cues, .line, .node] s (missStop n s) :=
  touches_ite (touches_faultAndRelease s n)
    (((touches_setMiss s _ _).mono (by decide)).trans (touches_freeAndRelease _ _ _))

theorem touches_missPoll (n : Nat) : Touches [.cues, .line, .node] s (missPoll n s) := by
  unfold missPoll
  split
  · exact (touches_putZone s _ _).mono (by decide)
  · exact touches_ite (touches_faultAndRelease s n) ((touches_putZone s _ _).mono (by decide))
  · exact touches_ite (touches_faultAndRelease s n) ((touches_setMiss s _ _).mono (by decide))

theorem touches_missTransaction (t : Transaction) : Touches [.cues, .line, .node] s (missTransaction t s) := by
  cases t
  · exact touches_missOffer s _ _
  · exact touches_refl _ s
  · exact touches_refl _ s
  · exact touches_missStop s _
  · exact touches_missPoll s _

theorem touches_recoverZone (n : Nat) : Touches [.line, .node] s (recoverZone n s) :=
  ((touches_putZone s _ _).mono (by decide)).trans ((touches_queueReport _ _).mono (by decide))

theorem touches_onTaken (n : Nat) : Touches [.line] s (onTaken n s) := touches_putZone s _ _

theorem touches_onBusy (n i : Nat) : Touches [.cues, .line, .node] s (onBusy n i s) :=
  ((touches_setMiss s _ _).mono (by decide)).trans (touches_failSequence _ _)

theorem touches_onStopped (n : Nat) : Touches [.cues, .line, .node] s (onStopped n s) :=
  ((touches_setMiss s _ _).mono (by decide)).trans (touches_freeAndRelease _ _ _)

theorem touches_onPlaying (n : Nat) : Touches [.line, .node] s (onPlaying n s) := by
  unfold onPlaying
  split
  · exact touches_recoverZone s n
  · exact (touches_putZone s _ _).mono (by decide)
  · exact (touches_setMiss s _ _).mono (by decide)

theorem touches_onEnded (n : Nat) : Touches [.cues, .line, .node] s (onEnded n s) := by
  unfold onEnded
  split
  · exact (touches_recoverZone s n).mono (by decide)
  · exact ((touches_setMiss s _ _).mono (by decide)).trans (touches_freeAndRelease _ _ _)
  · exact ((touches_setMiss s _ _).mono (by decide)).trans (touches_freeAndRelease _ _ _)
  · exact (touches_setMiss s _ _).mono (by decide)

theorem touches_lineIdle : Touches [.line] s (lineIdle s) := touches_setLine s _

theorem touches_lateCharacters (left : Nat) : Touches [.line] s (lateCharacters left s) := touches_setLine s _

theorem touches_onReply (k : ReplyKind) (chars : List LineChar) : Touches [.cues, .line, .node] s (onReply k chars s) := by
  have idle : Touches [.cues, .line, .node] s (lineIdle s) := (touches_lineIdle s).mono (by decide)
  unfold onReply
  split
  · exact touches_ite (touches_refl _ s) ((touches_lateCharacters s _).mono (by decide))
  · split
    · split
      · exact idle.trans ((touches_onTaken _ _).mono (by decide))
      · exact idle.trans (touches_onBusy _ _ _)
      · exact idle.trans (touches_onStopped _ _)
      · exact idle.trans ((touches_onPlaying _ _).mono (by decide))
      · exact idle.trans (touches_onEnded _ _)
      · exact idle.trans (touches_onEnded _ _)
      · exact touches_refl _ s
    · exact touches_refl _ s
  · exact touches_refl _ s

theorem touches_closeWindow : Touches [.cues, .line, .node] s (closeWindow s) := by
  unfold closeWindow
  split
  · exact touches_ite (((touches_setLine s _).mono (by decide)).trans (touches_missTransaction _ _)) (touches_refl _ s)
  · exact touches_refl _ s

theorem touches_startSent : Touches [.cues, .line] s (startSent s) := by
  unfold startSent
  split
  · simp only
    exact ((((touches_setLine s _).trans (touches_lineIdle _)).mono (by decide)).trans
      (((touches_updateCue _ _ _).mono (by decide)).trans
        ((touches_foldl (fun s n => touches_putZone s n _) _ _).mono (by decide)))).trans
      ((touches_foldl (fun s n => touches_haltZone s n) _ _).mono (by decide))
  · exact touches_refl _ s

theorem touches_cancelSent : Touches [.line] s (cancelSent s) := by
  unfold cancelSent
  split
  · exact touches_lineIdle s
  · exact touches_refl _ s

theorem touches_beginSequence (c : Cue) : Touches [.cues, .line] s (beginSequence c s) := by
  unfold beginSequence
  simp only
  exact (((touches_updateCue s _ _).mono (by decide)).trans
    ((touches_foldl (fun s n => touches_putZone s n _) _ _).mono (by decide))).trans
      ((touches_setLine _ _).mono (by decide))

theorem touches_preemptFor (c : Cue) : Touches [.cues, .line] s (preemptFor c s) :=
  ((touches_setCues s _).mono (by decide)).trans ((touches_haltCues _ _).mono (by decide))

theorem touches_chooseCue : Touches [.cues, .line] s (chooseCue s) := by
  unfold chooseCue
  split
  · exact touches_refl _ s
  · exact touches_ite (touches_beginSequence s _) (touches_preemptFor s _)

theorem touches_sendTransaction (t : Transaction) : Touches [.line] s (sendTransaction t s) := touches_setLine s _

theorem touches_sendPoll (n : Nat) : Touches [.line] s (sendPoll n s) :=
  (touches_putZone s _ _).trans (touches_sendTransaction _ _)

theorem touches_arbiterWork : Touches [.cues, .line] s (arbiterWork s) := by
  have send (s : State) (t : Transaction) : Touches [.cues, .line] s (sendTransaction t s) :=
    (touches_sendTransaction s t).mono (by decide)
  have poll (n : Nat) : Touches [.cues, .line] s (sendPoll n s) := (touches_sendPoll s n).mono (by decide)
  unfold arbiterWork
  split
  · exact ((touches_setLine s _).mono (by decide)).trans (send _ _)
  · split
    · exact send s _
    · split
      · exact poll _
      · exact ((touches_setLine s _).mono (by decide)).trans (send _ _)
    · split
      · exact poll _
      · exact touches_chooseCue s

theorem touches_arbitrate : Touches [.cues, .line] s (arbitrate s) :=
  touches_ite (touches_arbiterWork s) (touches_refl _ s)

theorem touches_countTimers : Touches [.line] s (countTimers s) := touches_setLine s _

theorem touches_countPlays : Touches [.cues, .line] s (countPlays s) :=
  ((touches_setCues s _).mono (by decide)).trans ((touches_haltCues _ _).mono (by decide))

theorem touches_lineCycle : Touches [.cues, .line] s (lineCycle s) :=
  ((touches_countTimers s).mono (by decide)).trans (touches_countPlays _)

theorem touches_lineBreak : Touches [.cues, .line, .node] s (lineBreak s) :=
  ((touches_setLine s _).mono (by decide)).trans (touches_foldl (fun s n => touches_freeZone s n) _ _)

theorem touches_resetLine : Touches [.cues, .line, .node] s (resetLine s) :=
  (touches_lineBreak s).trans ((touches_setLine _ _).mono (by decide))

theorem touches_compareZone (n : Nat) : Touches [.line] s (compareZone n s) := by
  unfold compareZone
  simp only
  split
  · exact touches_putZone s _ _
  · split
    · exact touches_putZone s _ _
    · exact touches_ite (touches_putZone s _ _) (touches_putZone s _ _)
    · exact touches_ite ((touches_putZone s _ _).trans (touches_haltZone _ _)) (touches_putZone s _ _)
    · exact touches_putZone s _ _

theorem touches_compareZones : Touches [.cues, .line, .node] s (compareZones s) :=
  ((touches_foldl (fun s n => touches_compareZone s n) _ s).mono (by decide)).trans
    ((touches_noZoneCheck _).mono (by decide))

theorem touches_lineBreakEnd : Touches [.line] s (lineBreakEnd s) := touches_ite (touches_lineIdle s) (touches_refl _ s)

theorem touches_lineQuietEnd : Touches [.line] s (lineQuietEnd s) := touches_ite (touches_lineIdle s) (touches_refl _ s)

theorem touches_pollFallsDue (n : Nat) : Touches [.line] s (pollFallsDue n s) :=
  touches_ite (touches_putZone s _ _) (touches_refl _ s)

theorem touches_reachPlayLimit (i : Nat) : Touches [.cues, .line] s (reachPlayLimit i s) :=
  touches_ite (((touches_updateCue s _ _).mono (by decide)).trans ((touches_haltCues _ _).mono (by decide)))
    (touches_refl _ s)

end Sys2Proof.Laws
end

