-- ==== Sys2Proof/Laws/FramesNode.lean ====
section
/-! SUPPORT. The frames of the node controller, override control, the row composer, the time base, the configuration
store and the chain interface. -/

namespace Sys2Proof.Laws

open Sys2Proof.Machine

variable (s : State)

/-! ### The node controller -/

theorem touches_changeState (new : NodeState) (old : Option Nat) : Touches [.time, .node] s (changeState new old s) := by
  unfold changeState
  simp only
  exact (((touches_setNode s _).mono (by decide)).trans
    (touches_ite (touches_refl _ _) ((touches_setTime _ _).mono (by decide)))).trans
      ((touches_queueReport _ _).mono (by decide))

theorem touches_flushNode : Touches [.table, .cues, .line, .node] s (flushNode s) :=
  (((touches_setTable s _).mono (by decide)).trans ((touches_flushCues _).mono (by decide))).trans
    ((touches_lineBreak _).mono (by decide))

theorem touches_enterIsolated : Touches [.table, .cues, .line, .time, .node] s (enterIsolated s) :=
  ((touches_changeState s _ _).mono (by decide)).trans ((touches_flushNode _).mono (by decide))

theorem touches_enterPositionFault (old : Option Nat) :
    Touches [.table, .cues, .line, .time, .node] s (enterPositionFault old s) := by
  unfold enterPositionFault
  simp only
  exact (((touches_changeState s _ _).mono (by decide)).trans
    (touches_ite ((touches_setNode _ _).mono (by decide)) (touches_refl _ _))).trans
      ((touches_flushNode _).mono (by decide))

theorem touches_enterJoining (old : Option Nat) : Touches [.time, .node] s (enterJoining old s) :=
  ((touches_setTime s _).mono (by decide)).trans (touches_changeState _ _ _)

theorem touches_completeJoining (held : Option Nat) : Touches [.time, .node] s (completeJoining held s) :=
  touches_ite (((touches_setNode s _).mono (by decide)).trans (touches_changeState _ _ _)) (touches_refl _ s)

theorem touches_nodeLinkLoss : Touches [.time, .node] s (nodeLinkLoss s) := by
  unfold nodeLinkLoss
  split
  · exact ((touches_setNode s _).mono (by decide)).trans (touches_changeState _ _ _)
  · exact touches_changeState s _ _
  · exact touches_refl _ s

theorem touches_nodeFrame (old : Option Nat) : Touches [.time, .node] s (nodeFrame old s) := by
  unfold nodeFrame
  split
  · exact touches_enterJoining s _
  · exact touches_enterJoining s _
  · exact touches_ite (touches_enterJoining s _) (touches_refl _ s)
  · exact ((touches_setNode s _).mono (by decide)).trans (touches_changeState _ _ _)
  · exact touches_refl _ s

theorem touches_resetNode (cause : ResetCause) :
    Touches [.chain, .store, .table, .cues, .line, .rows, .time, .ovr, .node] s (resetNode cause s) := by
  unfold resetNode
  simp only
  exact ((((((((touches_setTable s _).mono (by decide)).trans ((touches_setCues _ _).mono (by decide))).trans
    ((touches_resetLine _).mono (by decide))).trans ((touches_setNode _ _).mono (by decide))).trans
    (((touches_setOvr _ _).mono (by decide)).trans ((touches_setStore _ _).mono (by decide)))).trans
    ((touches_setRows _ _).mono (by decide))).trans ((touches_setTime _ _).mono (by decide))).trans
    ((touches_setChain _ _).mono (by decide))

theorem touches_commandReset :
    Touches [.chain, .store, .table, .cues, .line, .rows, .time, .ovr, .node] s (commandReset s) :=
  touches_ite (touches_resetNode s _) (touches_refl _ s)

theorem touches_holdTick : Touches [.table, .cues, .line, .time, .node] s (holdTick s) := by
  unfold holdTick
  simp only
  exact touches_ite
    (touches_ite (((touches_setNode s _).mono (by decide)).trans (touches_enterIsolated _))
      ((touches_setNode s _).mono (by decide)))
    (touches_refl _ s)

theorem touches_reachHoldoverLimit : Touches [.table, .cues, .line, .time, .node] s (reachHoldoverLimit s) :=
  touches_ite (((touches_setNode s _).mono (by decide)).trans (touches_enterIsolated _)) (touches_refl _ s)

theorem touches_queueAnswer (a : Answer) : Touches [.node] s (queueAnswer a s) :=
  touches_ite (touches_queueReport s _) (touches_refl _ s)

theorem touches_clearAttention (mode : AddrMode) (key : Nat) : Touches [.table, .node] s (clearAttention mode key s) := by
  unfold clearAttention
  split
  · split
    · exact (touches_reportIfPosition s _ _).mono (by decide)
    · exact (touches_setTable s _).mono (by decide)
  · exact touches_refl _ s

theorem touches_watchSet (mode : AddrMode) (key : Nat) : Touches [.node] s (watchSet mode key s) :=
  touches_ite (touches_ite (touches_reportIfPosition s _ _) (touches_setNode s _)) (touches_refl _ s)

theorem touches_watchClear : Touches [.node] s (watchClear s) := touches_ite (touches_setNode s _) (touches_refl _ s)

theorem touches_unknownKind (mode : AddrMode) (kind : Nat) : Touches [.node] s (unknownKind mode kind s) :=
  touches_ite (touches_reportIfPosition s _ _) (touches_refl _ s)

theorem touches_powerUpEnd : Touches [.chain, .node] s (powerUpEnd s) :=
  touches_ite (((touches_setNode s _).mono (by decide)).trans ((touches_setChain _ _).mono (by decide)))
    (touches_refl _ s)

/-! ### Override control and the row composer -/

theorem touches_stopLine : Touches [.cues, .line, .node] s (stopLine s) :=
  (touches_lineBreak s).trans ((touches_dropCues _ _ _).mono (by decide))

theorem touches_enterOverride (b : OverrideBody) : Touches [.cues, .line, .ovr, .node] s (enterOverride b s) := by
  unfold enterOverride
  simp only
  exact (((touches_setOvr s _).mono (by decide)).trans
    (touches_ite ((touches_stopLine _).mono (by decide)) (touches_refl _ _))).trans
      ((touches_requestCue _ _ _ _ _).mono (by decide))

theorem touches_overrideSet (mode : AddrMode) (b : OverrideBody) :
    Touches [.cues, .line, .ovr, .node] s (overrideSet mode b s) :=
  touches_ite
    (touches_ite ((touches_reportIfPosition s _ _).mono (by decide))
      (touches_ite (touches_enterOverride s b) ((touches_queueReport s _).mono (by decide))))
    (touches_refl _ s)

theorem touches_overrideClear (mode : AddrMode) (level : Nat) : Touches [.ovr, .node] s (overrideClear mode level s) :=
  touches_ite
    (touches_ite ((touches_reportIfPosition s _ _).mono (by decide))
      (touches_ite ((touches_setOvr s _).mono (by decide)) ((touches_queueReport s _).mono (by decide))))
    (touches_refl _ s)

theorem touches_compose : Touches [.rows, .ports] s (compose s) :=
  touches_ite (touches_refl _ s) (((touches_setPorts s _).mono (by decide)).trans ((touches_setRows _ _).mono (by decide)))

theorem touches_noticeSet (mode : AddrMode) (b : NoticeBody) : Touches [.rows, .node] s (noticeSet mode b s) :=
  touches_ite
    (touches_ite ((touches_reportIfPosition s _ _).mono (by decide)) ((touches_setRows s _).mono (by decide)))
    (touches_refl _ s)

/-! ### The time base -/

theorem touches_setClock (day sec : Nat) : Touches [.time] s (setClock day sec s) := touches_setTime s _

theorem touches_tickWork (w : CycleWork) : Touches [.table, .cues, .line, .time, .node] s (tickWork w s) := by
  cases w
  case age turn => exact (touches_ageTable s turn).mono (by decide)
  case retire => exact (touches_retireRecords s).mono (by decide)
  case rules => exact (touches_evaluateAll s).mono (by decide)
  case scheduler => exact (touches_schedulerTests s).mono (by decide)
  case hold => exact touches_holdTick s
  all_goals exact touches_refl _ s

theorem touches_advanceSecond : Touches [.cues, .time] s (advanceSecond s) := by
  unfold advanceSecond
  simp only
  exact touches_ite (((touches_setTime s _).mono (by decide)).trans ((touches_lowerCues _).mono (by decide)))
    ((touches_setTime s _).mono (by decide))

theorem touches_secondTick : Touches [.table, .cues, .line, .time, .node, .free] s (secondTick s) :=
  (((touches_advanceSecond s).mono (by decide)).trans ((touches_countFree _).mono (by decide))).trans
    ((touches_foldl (fun s w => touches_tickWork s w) _ _).mono (by decide))

theorem touches_closeTrim (t16 : Nat) : Touches [.time, .node] s (closeTrim t16 s) :=
  touches_ite ((touches_setTime s _).mono (by decide))
    (touches_ite (touches_refl _ s)
      (((touches_setTime s _).mono (by decide)).trans ((touches_queueReport _ _).mono (by decide))))

theorem touches_openTrim : Touches [.time] s (openTrim s) := touches_ite (touches_setTime s _) (touches_refl _ s)

theorem touches_trimAtFrameStart : Touches [.time, .node] s (trimAtFrameStart s) := by
  unfold trimAtFrameStart
  split
  · exact (touches_openTrim s).mono (by decide)
  · exact touches_ite ((touches_closeTrim s _).trans ((touches_setTime _ _).mono (by decide))) (touches_refl _ s)

theorem touches_dateJump (day sec : Nat) : Touches [.table, .cues, .line, .time, .node] s (dateJump day sec s) :=
  (((touches_setClock s _ _).mono (by decide)).trans ((touches_queueReport _ _).mono (by decide))).trans
    ((touches_flushNode _).mono (by decide))

theorem touches_setBack (day sec : Nat) : Touches [.table, .cues, .time, .node] s (setBack day sec s) :=
  ((((touches_setClock s _ _).mono (by decide)).trans ((touches_queueReport _ _).mono (by decide))).trans
    ((touches_clearHolds _).mono (by decide))).trans ((touches_evaluateAll _).mono (by decide))

theorem touches_forwardStep (cls : StepClass) (day sec : Nat) :
    Touches [.table, .cues, .time, .node] s (forwardStep cls day sec s) := by
  unfold forwardStep
  simp only
  exact ((((((touches_queueReport s _).mono (by decide)).trans
    (touches_ite ((touches_turnTable _).mono (by decide)) (touches_refl _ _))).trans
    ((touches_schedulerStep _ _ _ _ _).mono (by decide))).trans ((touches_setClock _ _ _).mono (by decide))).trans
    ((touches_retireRecords _).mono (by decide))).trans ((touches_evaluateAll _).mono (by decide))

theorem touches_takeMark (held : Option Nat) (day sec : Nat) :
    Touches [.table, .cues, .line, .time, .node] s (takeMark held day sec s) := by
  unfold takeMark
  refine touches_ite (touches_ite ?_ ?_) (touches_refl _ s)
  · exact ((touches_setClock s _ _).mono (by decide)).trans ((touches_completeJoining _ _).mono (by decide))
  · split
    · exact touches_refl _ s
    · exact touches_dateJump s _ _
    · exact (touches_setBack s _ _).mono (by decide)
    · exact (touches_forwardStep s _ _ _).mono (by decide)
    · exact (touches_forwardStep s _ _ _).mono (by decide)

theorem touches_correctCycle (n : Nat) :
    Touches [.table, .cues, .line, .rows, .time, .node, .free] s (correctCycle n s) := by
  have number : Touches [.table, .cues, .line, .rows, .time, .node, .free] s
      ((s.setTime { s.time with cycle := n, window := none }).setRows
        { s.rows with fullDue := n == 32 && decide (n < s.time.cycle) }) :=
    ((touches_setTime s _).mono (by decide)).trans ((touches_setRows _ _).mono (by decide))
  exact touches_ite (touches_refl _ s)
    (touches_ite (number.trans ((touches_secondTick _).mono (by decide))) number)

/-- R77, R82: what a cycle number correction does to the row composer. -/
theorem correctCycle_rows (n : Nat) :
    (correctCycle n s).rows =
      if n = s.time.cycle then s.rows
      else { s.rows with fullDue := n == 32 && decide (n < s.time.cycle) } := by
  unfold correctCycle
  split
  · rfl
  · dsimp only
    split
    · exact touches_secondTick _ .rows (by decide)
    · rfl

theorem touches_dayTurn : Touches [.table, .cues, .time, .node] s (dayTurn s) :=
  touches_ite (((touches_advanceSecond s).mono (by decide)).trans ((touches_turnTable _).mono (by decide)))
    (touches_refl _ s)

theorem touches_windowCloses (t16 : Nat) : Touches [.time, .node] s (windowCloses t16 s) :=
  touches_ite ((touches_closeTrim s _).trans ((touches_setTime _ _).mono (by decide))) (touches_refl _ s)

/-! ### The configuration store -/

theorem touches_setDayStart (old : Nat) : Touches [.time] s (setDayStart old s) :=
  touches_ite (touches_refl _ s) (touches_setTime s _)

theorem touches_acceptSwitch (held : Option Nat) (gen : Nat) :
    Touches [.store, .table, .cues, .line, .time, .node] s (acceptSwitch held gen s) := by
  have banks : Touches [.store, .table, .cues, .line, .time, .node] s (reselectAll (exchangeBanks gen s)) :=
    ((touches_setStore s _).mono (by decide)).trans ((touches_reselectAll _).mono (by decide))
  have zones (t : State) : Touches [.store, .table, .cues, .line, .time, .node] t (compareZones (rebaseline t)) :=
    ((touches_rebaseline t).mono (by decide)).trans ((touches_compareZones _).mono (by decide))
  have clock (t : State) (old : Nat) : Touches [.store, .table, .cues, .line, .time, .node] t (setDayStart old t) :=
    (touches_setDayStart t old).mono (by decide)
  have done (t : State) (n : Nat) : Touches [.store, .table, .cues, .line, .time, .node] t
      (completeJoining held (queueReport (.commitDone gen n) t)) :=
    ((touches_queueReport t _).mono (by decide)).trans ((touches_completeJoining _ _).mono (by decide))
  exact ((banks.trans (zones _)).trans (clock _ _)).trans (done _ _)

theorem touches_refuseSwitch (gen table index : Nat) : Touches [.store, .node] s (refuseSwitch gen table index s) :=
  ((touches_setStore s _).mono (by decide)).trans ((touches_queueReport _ _).mono (by decide))

theorem touches_switchBank (held : Option Nat) (gen : Nat) :
    Touches [.store, .table, .cues, .line, .time, .node] s (switchBank held gen s) := by
  unfold switchBank
  split
  · exact (touches_refuseSwitch s _ _ _).mono (by decide)
  · exact touches_acceptSwitch s held gen

theorem touches_switchAtCycle : Touches [.store, .table, .cues, .line, .time, .node] s (switchAtCycle s) := by
  unfold switchAtCycle
  split
  · exact touches_refl _ s
  · exact touches_ite (touches_switchBank s _ _) (touches_refl _ s)

theorem touches_tableWrite (mode : AddrMode) (table index : Nat) (entry : List Byte) :
    Touches [.store, .node] s (tableWrite mode table index entry s) :=
  touches_ite
    (touches_ite ((touches_queueReport s _).mono (by decide))
      (touches_ite ((touches_reportIfPosition s _ _).mono (by decide)) ((touches_setStore s _).mono (by decide))))
    (touches_refl _ s)

theorem touches_tableCopy : Touches [.store] s (tableCopy s) := touches_ite (touches_setStore s _) (touches_refl _ s)

theorem touches_supersede : Touches [.store, .node] s (supersede s) := by
  unfold supersede
  split
  · exact touches_refl _ s
  · exact ((touches_setStore s _).mono (by decide)).trans ((touches_queueReport _ _).mono (by decide))

theorem touches_tableCommit (held : Option Nat) (mode : AddrMode) (gen cycle : Nat) :
    Touches [.store, .table, .cues, .line, .time, .node] s (tableCommit held mode gen cycle s) := by
  have first : Touches [.store, .table, .cues, .line, .time, .node] s (supersede s) :=
    (touches_supersede s).mono (by decide)
  unfold tableCommit
  simp only
  exact touches_ite
    (touches_ite ((touches_reportIfPosition s _ _).mono (by decide))
      (touches_ite (first.trans (touches_switchBank _ _ _)) (first.trans ((touches_setStore _ _).mono (by decide)))))
    (touches_refl _ s)

theorem touches_bankSwitch : Touches [.store, .table, .cues, .line, .time, .node] s (bankSwitch s) := by
  unfold bankSwitch
  split
  · exact touches_refl _ s
  · exact touches_ite (touches_switchBank s _ _) (touches_refl _ s)

/-! ### The chain interface -/

theorem touches_tellLinkLoss : Touches [.chain, .time, .node] s (tellLinkLoss s) :=
  ((touches_setChain s _).mono (by decide)).trans ((touches_nodeLinkLoss _).mono (by decide))

theorem touches_raiseUpSilence : Touches [.chain, .time, .node] s (raiseUpSilence s) :=
  touches_ite (touches_refl _ s) (touches_ite (touches_tellLinkLoss s) ((touches_setChain s _).mono (by decide)))

theorem touches_loseDownstream : Touches [.chain, .node] s (loseDownstream s) :=
  touches_ite (((touches_setChain s _).mono (by decide)).trans ((touches_queueReport _ _).mono (by decide)))
    ((touches_setChain s _).mono (by decide))

theorem touches_raiseDownSilence : Touches [.chain, .node] s (raiseDownSilence s) :=
  touches_ite (touches_refl _ s) (touches_ite (touches_loseDownstream s) ((touches_setChain s _).mono (by decide)))

theorem touches_breakReset :
    Touches [.chain, .store, .table, .cues, .line, .rows, .time, .ovr, .node] s (breakReset s) :=
  touches_ite (((touches_setChain s _).mono (by decide)).trans (touches_resetNode _ _)) (touches_refl _ s)

theorem touches_enterBreak : Touches [.chain] s (enterBreak s) := touches_ite (touches_refl _ s) (touches_setChain s _)

theorem touches_leaveBreak : Touches [.chain] s (leaveBreak s) := touches_setChain s _

theorem touches_dequeuePlaced (body : List Byte) : Touches [.node] s (dequeuePlaced body s) := by
  unfold dequeuePlaced
  split
  · exact touches_refl _ s
  · exact touches_setNode s _

theorem touches_sendUpstream (good : Bool) (body : List Byte) (left : Nat) :
    Touches [.node, .ports] s (sendUpstream good body left s) :=
  ((touches_dequeuePlaced s _).mono (by decide)).trans ((touches_setPorts _ _).mono (by decide))

theorem touches_originateFrame : Touches [.node, .ports] s (originateFrame s) :=
  touches_ite (touches_refl _ s) (touches_sendUpstream s _ _ _)

theorem touches_upstreamFrame (bs : List Byte) : Touches [.node, .ports] s (upstreamFrame bs s) :=
  touches_ite (touches_refl _ s) (touches_sendUpstream s _ _ _)

theorem touches_upstreamStart : Touches [.chain, .ports] s (upstreamStart s) :=
  touches_ite (touches_refl _ s)
    (touches_ite (((touches_setChain s _).mono (by decide)).trans ((touches_setPorts _ _).mono (by decide)))
      ((touches_setChain s _).mono (by decide)))

/-- What the works of an own cycle start may touch: all but the override context, the free counter and the queue of
commands. -/
theorem touches_doWork (w : CycleWork) :
    Touches [.chain, .store, .table, .cues, .line, .rows, .time, .node, .ports] s (doWork w s) := by
  cases w
  case age turn => exact (touches_ageTable s turn).mono (by decide)
  case retire => exact (touches_retireRecords s).mono (by decide)
  case rules => exact (touches_evaluateAll s).mono (by decide)
  case scheduler => exact (touches_schedulerTests s).mono (by decide)
  case hold => exact (touches_holdTick s).mono (by decide)
  case switch => exact (touches_switchAtCycle s).mono (by decide)
  case upSilence => exact (touches_raiseUpSilence s).mono (by decide)
  case downSilence => exact (touches_raiseDownSilence s).mono (by decide)
  case line => exact touches_ite (touches_refl _ s) ((touches_lineCycle s).mono (by decide))
  case trim => exact (touches_trimAtFrameStart s).mono (by decide)
  case originate chainEnd => exact touches_ite ((touches_originateFrame s).mono (by decide)) (touches_refl _ s)
  case compose => exact (touches_compose s).mono (by decide)

theorem touches_generatorStart (boundary : Bool) : Touches [.time] s (generatorStart boundary s) := touches_setTime s _

theorem touches_startCycle (boundary : Bool) :
    Touches [.chain, .store, .table, .cues, .line, .rows, .time, .node, .ports, .free] s (startCycle boundary s) := by
  unfold startCycle
  simp only
  exact ((((touches_generatorStart s _).mono (by decide)).trans
    (touches_ite ((touches_advanceSecond _).mono (by decide)) (touches_refl _ _))).trans
    ((touches_countFree _).mono (by decide))).trans
    ((touches_foldl (fun s w => touches_doWork s w) _ _).mono (by decide))

theorem touches_mergeFrameStart : Touches [.time, .node] s (mergeFrameStart s) :=
  touches_ite ((touches_setTime s _).mono (by decide))
    (((touches_setTime s _).mono (by decide)).trans (touches_trimAtFrameStart _))

theorem touches_frameStart :
    Touches [.chain, .store, .table, .cues, .line, .rows, .time, .node, .ports, .free] s (frameStart s) := by
  unfold frameStart
  simp only
  exact touches_ite (touches_refl _ s)
    (((touches_setChain s _).mono (by decide)).trans
      (touches_ite ((touches_mergeFrameStart _).mono (by decide)) (touches_startCycle _ _)))

theorem touches_lengthRefused (takes : Bool) (mode : AddrMode) (kind : Nat) (key : Option Nat) :
    Touches [.node] s (lengthRefused takes mode kind key s) :=
  touches_ite (touches_reportIfPosition s _ _) (touches_refl _ s)

theorem touches_deliverQuery (mode : AddrMode) (bs : List Byte) : Touches [.node] s (deliverQuery mode bs s) := by
  unfold deliverQuery
  split
  all_goals first | exact touches_queueAnswer s _ | exact touches_lengthRefused s _ _ _ _

theorem touches_deliverControl (mode : AddrMode) (bs : List Byte) :
    Touches [.chain, .store, .table, .cues, .line, .rows, .time, .ovr, .node] s (deliverControl mode bs s) := by
  unfold deliverControl
  split
  · exact touches_commandReset s
  · exact (touches_clearAttention s _ _).mono (by decide)
  · exact (touches_watchSet s _ _).mono (by decide)
  · exact (touches_watchClear s).mono (by decide)
  · exact (touches_lengthRefused s _ _ _ _).mono (by decide)

theorem touches_deliver (held : Option Nat) (mode : AddrMode) (kind : Nat) (bs : List Byte) :
    Touches [.chain, .store, .table, .cues, .line, .rows, .time, .ovr, .node] s (deliver held mode kind bs s) := by
  have refused (t : Bool) (k : Nat) (key : Option Nat) :
      Touches [.chain, .store, .table, .cues, .line, .rows, .time, .ovr, .node] s (lengthRefused t mode k key s) :=
    (touches_lengthRefused s _ _ _ _).mono (by decide)
  unfold deliver
  simp only
  split
  · split
    · exact (touches_servicePost s _ _).mono (by decide)
    · exact refused _ _ _
  · split
    · exact (touches_serviceAmend s _ _).mono (by decide)
    · exact refused _ _ _
  · exact touches_ite ((touches_serviceWithdraw s _ _).mono (by decide)) (refused _ _ _)
  · split
    · exact (touches_noticeSet s _ _).mono (by decide)
    · exact refused _ _ _
  · split
    · exact (touches_cuePost s _ _).mono (by decide)
    · exact refused _ _ _
  · split
    · exact (touches_overrideSet s _ _).mono (by decide)
    · exact refused _ _ _
  · exact touches_ite ((touches_overrideClear s _ _).mono (by decide)) (refused _ _ _)
  · exact touches_ite ((touches_tableWrite s _ _ _ _).mono (by decide)) (refused _ _ _)
  · exact touches_ite ((touches_tableCopy s).mono (by decide)) (refused _ _ _)
  · exact touches_ite ((touches_tableCommit s _ _ _ _).mono (by decide)) (refused _ _ _)
  · exact (touches_deliverQuery s _ _).mono (by decide)
  · exact touches_deliverControl s _ _
  · exact (touches_unknownKind s _ _).mono (by decide)

theorem touches_deliverMessage (held : Option Nat) (m : RawMessage) :
    Touches [.chain, .store, .table, .cues, .line, .rows, .time, .ovr, .node] s (deliverMessage held m s) := by
  unfold deliverMessage
  refine touches_ite ?_ (touches_refl _ s)
  split
  · exact touches_refl _ s
  · exact touches_deliver s _ _ _ _

theorem touches_takePosition (hop : Nat) :
    Touches [.chain, .table, .cues, .line, .time, .node] s (takePosition hop s) := by
  have move : Touches [.chain, .table, .cues, .line, .time, .node] s
      (s.setChain { s.chain with hopCount := some hop, position := some (hop + 1) }) :=
    (touches_setChain s _).mono (by decide)
  unfold takePosition
  simp only
  exact touches_ite (touches_ite move (move.trans ((touches_enterPositionFault _ _).mono (by decide))))
    (touches_ite (move.trans ((touches_queueReport _ _).mono (by decide))) move)

theorem touches_takeHeader (f : ParsedFrame) :
    Touches [.chain, .table, .cues, .line, .rows, .time, .node, .free] s (takeHeader f s) := by
  have first : Touches [.chain, .table, .cues, .line, .rows, .time, .node, .free] s
      (correctCycle f.cycle (nodeFrame s.chain.position (takePosition f.hop s))) :=
    (((touches_takePosition s _).mono (by decide)).trans ((touches_nodeFrame _ _).mono (by decide))).trans
      ((touches_correctCycle _ _).mono (by decide))
  unfold takeHeader
  simp only
  refine Touches.trans ?_ ((touches_setChain _ _).mono (by decide))
  split
  · exact first
  · exact first.trans ((touches_takeMark _ _ _ _).mono (by decide))

theorem touches_takeFrame (f : ParsedFrame) :
    Touches [.chain, .store, .table, .cues, .line, .rows, .time, .ovr, .node, .free] s (takeFrame f s) :=
  ((touches_takeHeader s f).mono (by decide)).trans
    ((touches_foldl (fun s m => touches_deliverMessage s _ m) _ _).mono (by decide))

theorem touches_failFrame : Touches [.chain] s (failFrame s) := touches_setChain s _

theorem touches_forward (bs : List Byte) : Touches [.ports] s (forward bs s) := touches_setPorts s _

theorem touches_receiveFrame (bs : List Byte) :
    Touches [.chain, .store, .table, .cues, .line, .rows, .time, .ovr, .node, .ports, .free] s (receiveFrame bs s) := by
  unfold receiveFrame
  refine touches_ite (touches_refl _ s) ?_
  split
  · exact ((touches_forward s _).mono (by decide)).trans ((touches_failFrame _).mono (by decide))
  · exact ((touches_forward s _).mono (by decide)).trans ((touches_takeFrame _ _).mono (by decide))

theorem touches_linkLoss : Touches [.chain, .time, .node] s (linkLoss s) :=
  touches_ite (touches_refl _ s) (touches_tellLinkLoss s)

theorem touches_downstreamLost : Touches [.chain, .node] s (downstreamLost s) :=
  touches_ite (touches_refl _ s) (touches_loseDownstream s)

end Sys2Proof.Laws
end

