-- ==== Sys2Proof/Laws/Ops.lean ====
section
/-! SUPPORT. What the shared operations answer, once for each: bit masks, the report queue, the watch list, the order of
the table, the zones, drops of cues and the choice of a free cue id. -/

namespace Sys2Proof.Laws

open Sys2Proof.Machine

/-! ### Bit masks -/

theorem foldl_mask_getLsbD {n : Nat} (p : Nat → Bool) (i : Nat) (hi : i < n) :
    ∀ (l : List Nat) (m : BitVec n),
      (l.foldl (fun m i => if p i then m ||| BitVec.twoPow n i else m) m).getLsbD i
        = (m.getLsbD i || (p i && decide (i ∈ l)))
  | [], m => by simp
  | a :: l, m => by
    rw [List.foldl_cons, foldl_mask_getLsbD p i hi l]
    by_cases ha : i = a
    · subst ha
      cases hp : p i <;> simp [hi]
    · have ha' : a ≠ i := fun h => ha h.symm
      cases p a <;> simp [BitVec.getLsbD_twoPow, ha, ha']

/-- The mask has exactly the bits of its predicate. -/
theorem maskOf_getLsbD (n : Nat) (p : Nat → Bool) (i : Nat) (hi : i < n) : (maskOf n p).getLsbD i = p i := by
  rw [maskOf, foldl_mask_getLsbD p i hi]
  simp [hi]

theorem mem_bitsOf {n : Nat} (m : BitVec n) (i : Nat) : i ∈ bitsOf m ↔ i < n ∧ m.getLsbD i = true := by
  simp [bitsOf]

theorem mem_usableZones (l : LineCtl) (mask : BitVec 8) (n : Nat) :
    n ∈ usableZones l mask ↔ n < 8 ∧ mask.getLsbD n = true ∧ (l.zone n).usable = true := by
  simp [usableZones, mem_bitsOf, and_assoc]

theorem mem_matchEdges (old new : BitVec 32) (n : Nat) :
    n ∈ matchEdges old new ↔ n < 32 ∧ new.getLsbD n = true ∧ old.getLsbD n = false := by
  simp [matchEdges]

/-! ### The report queue (R171, R172) -/

@[simp] theorem nodeAfterReports_nil (n : Node) : nodeAfterReports [] n = n := rfl

theorem nodeAfterReports_cons (r : Report) (rs : List Report) (n : Node) :
    nodeAfterReports (r :: rs) n =
      nodeAfterReports rs
        (if n.reports.length < 16 then { n with reports := n.reports ++ [r] } else { n with loss := true }) := rfl

theorem nodeAfterReports_append (rs qs : List Report) (n : Node) :
    nodeAfterReports (rs ++ qs) n = nodeAfterReports qs (nodeAfterReports rs n) := List.foldl_append

theorem queueReport_eq (r : Report) (s : State) : queueReport r s = s.setNode (nodeAfterReports [r] s.node) := by
  by_cases h : s.node.reports.length < 16 <;> simp [queueReport, nodeAfterReports, Config.maxReports, h]

/-- Several reports leave the node of `nodeAfterReports`. -/
theorem queueReports_eq (rs : List Report) (s : State) : queueReports rs s = s.setNode (nodeAfterReports rs s.node) := by
  induction rs generalizing s with
  | nil => rfl
  | cons r rs ih =>
    change queueReports rs (queueReport r s) = _
    rw [ih, queueReport_eq]
    rfl

/-- Reports change the report queue and its loss flag alone. -/
theorem nodeAfterReports_rest (rs : List Report) (n : Node) :
    nodeAfterReports rs n = { n with reports := (nodeAfterReports rs n).reports, loss := (nodeAfterReports rs n).loss } := by
  induction rs generalizing n with
  | nil => rfl
  | cons r rs ih =>
    rw [nodeAfterReports_cons, ih]
    split <;> rfl

@[simp] theorem nodeAfterReports_watch (rs : List Report) (n : Node) : (nodeAfterReports rs n).watch = n.watch := by
  rw [nodeAfterReports_rest]

@[simp] theorem nodeAfterReports_state (rs : List Report) (n : Node) : (nodeAfterReports rs n).state = n.state := by
  rw [nodeAfterReports_rest]

/-- R172: the report queue never grows past 16. -/
theorem nodeAfterReports_length (rs : List Report) (n : Node) (h : n.reports.length ≤ 16) :
    (nodeAfterReports rs n).reports.length ≤ 16 := by
  induction rs generalizing n with
  | nil => exact h
  | cons r rs ih =>
    rw [nodeAfterReports_cons]
    refine ih _ ?_
    split
    · simp; omega
    · exact h

/-- Reports already queued stay in the queue. -/
theorem nodeAfterReports_keeps (rs : List Report) (n : Node) (q : Report) (h : q ∈ n.reports) :
    q ∈ (nodeAfterReports rs n).reports := by
  induction rs generalizing n with
  | nil => exact h
  | cons r rs ih =>
    rw [nodeAfterReports_cons]
    refine ih _ ?_
    split <;> simp [h]

theorem reportIfPosition_eq (mode : AddrMode) (r : Report) (s : State) :
    reportIfPosition mode r s =
      s.setNode (if mode = .position then nodeAfterReports [r] s.node else s.node) := by
  unfold reportIfPosition
  split
  · exact queueReport_eq r s
  · rfl

theorem watchReport_eq (ev : WatchEvent) (r : ServiceRecord) (s : State) :
    watchReport ev r s =
      s.setNode (nodeAfterReports (if r.key ∈ s.node.watch then [.watch ev r.summary] else []) s.node) := by
  by_cases h : r.key ∈ s.node.watch <;> simp [watchReport, h, queueReport_eq]

/-- WATCH reports for several records: those of the watched keys, in order. -/
theorem watchReports_eq (ev : WatchEvent) (rs : List ServiceRecord) (s : State) :
    watchReports ev rs s =
      s.setNode
        (nodeAfterReports ((rs.filter fun r => s.node.watch.contains r.key).map fun r => .watch ev r.summary) s.node) := by
  induction rs generalizing s with
  | nil => rfl
  | cons r rs ih =>
    change watchReports ev rs (watchReport ev r s) = _
    rw [ih, watchReport_eq]
    by_cases h : r.key ∈ s.node.watch
    · simp [h, ← nodeAfterReports_append]
    · simp [h]

/-! ### Cues (R109, R119, R131) -/

/-- R119: a drop takes the cues out and reports them in the order of the queue. -/
theorem dropCues_eq (p : Cue → Bool) (reason : DropReason) (s : State) :
    dropCues p reason s =
      (s.setCues { s.cues with queue := s.cues.queue.filter fun c => !p c }).setNode
        (nodeAfterReports ((s.cues.queue.filter p).map (Cue.dropReport reason)) s.node) := queueReports_eq _ _

/-- A drop that no cue meets changes nothing. -/
theorem dropCues_none (p : Cue → Bool) (reason : DropReason) (s : State) (h : ∀ c ∈ s.cues.queue, p c = false) :
    dropCues p reason s = s := by
  have h1 : s.cues.queue.filter p = [] := List.filter_eq_nil_iff.mpr fun c hc => by simp [h c hc]
  have h2 : (s.cues.queue.filter fun c => !p c) = s.cues.queue := List.filter_eq_self.mpr fun c hc => by simp [h c hc]
  rw [dropCues_eq, h1, h2]
  rfl

/-- R131: with a usable zone for every DUE cue, the NO ZONE check changes nothing. -/
theorem noZoneCheck_none (s : State) (h : ∀ c ∈ s.cues.queue, c.state = .due → usableZones s.line c.zones ≠ []) :
    noZoneCheck s = s :=
  dropCues_none _ _ s fun c hc => by
    by_cases hd : c.state = .due
    · have := h c hc hd
      simp [hd, this]
    · simp [hd]

theorem updateCue_queue (i : Nat) (f : Cue → Cue) (s : State) :
    (updateCue i f s).cues.queue = s.cues.queue.map fun c => if c.id = i then f c else c := by
  simp [updateCue]

/-- R109: what the search for a free id answers: the first id, counting on from `n` and wrapping at 256, that is not in
use, unless as many ids as the fuel were in use. -/
theorem freeId_cases (used : List Nat) : ∀ (fuel n : Nat), n < 256 →
    ∃ k, k ≤ fuel ∧ freeId used fuel n = (n + k) % 256 ∧ (∀ j, j < k → (n + j) % 256 ∈ used) ∧
      (k < fuel → (n + k) % 256 ∉ used)
  | 0, n, h => ⟨0, Nat.le_refl 0, (Nat.mod_eq_of_lt h).symm, by omega, by omega⟩
  | fuel + 1, n, h => by
    by_cases hu : n ∈ used
    · obtain ⟨k, hk, heq, hall, hfree⟩ := freeId_cases used fuel ((n + 1) % 256) (Nat.mod_lt _ (by decide))
      have step (j : Nat) : ((n + 1) % 256 + j) % 256 = (n + (j + 1)) % 256 := by omega
      refine ⟨k + 1, by omega, ?_, ?_, ?_⟩
      · simpa [freeId, hu, step] using heq
      · intro j hj
        cases j with
        | zero => simpa [Nat.mod_eq_of_lt h] using hu
        | succ j => simpa [step] using hall j (by omega)
      · intro hlt
        simpa [step] using hfree (by omega)
    · refine ⟨0, by omega, ?_, by omega, ?_⟩
      · simp [freeId, hu, Nat.mod_eq_of_lt h]
      · intro _
        simpa [Nat.mod_eq_of_lt h] using hu

/-! ### The order of the table (R1, R3) -/

theorem before_iff (a b : ServiceRecord) :
    before a b = true ↔
      sortKey a < sortKey b ∨ (sortKey a = sortKey b ∧ (a.sm < b.sm ∨ (a.sm = b.sm ∧ a.key < b.key))) := by
  simp [before]

theorem before_irrefl (a : ServiceRecord) : before a a = false := by
  rw [← Bool.not_eq_true, before_iff]
  omega

theorem before_trans {a b c : ServiceRecord} (h : before a b = true) (k : before b c = true) : before a c = true := by
  rw [before_iff] at *
  omega

/-- Of two records of different keys one comes before the other. -/
theorem before_total {a b : ServiceRecord} (h : a.key ≠ b.key) : before a b = true ∨ before b a = true := by
  rw [before_iff, before_iff]
  omega

theorem mem_insertRecord (r x : ServiceRecord) (t : List ServiceRecord) : x ∈ insertRecord r t ↔ x = r ∨ x ∈ t := by
  have h := List.takeWhile_append_dropWhile (p := fun x => before x r) (l := t)
  constructor
  · intro hx
    rw [insertRecord, List.mem_append, List.mem_cons] at hx
    rw [← h, List.mem_append]
    tauto
  · intro hx
    rw [← h, List.mem_append] at hx
    rw [insertRecord, List.mem_append, List.mem_cons]
    tauto

theorem length_insertRecord (r : ServiceRecord) (t : List ServiceRecord) : (insertRecord r t).length = t.length + 1 := by
  have h := congrArg List.length (List.takeWhile_append_dropWhile (p := fun x => before x r) (l := t))
  simp only [insertRecord, List.length_append, List.length_cons] at *
  omega

/-- R3: a record of a new key goes into an ordered table in its place. -/
theorem insertRecord_sorted (r : ServiceRecord) : ∀ (t : List ServiceRecord),
    (t.Pairwise fun a b => before a b = true) → (∀ x ∈ t, x.key ≠ r.key) →
    (insertRecord r t).Pairwise fun a b => before a b = true
  | [], _, _ => by simp [insertRecord]
  | x :: t, hs, hk => by
    obtain ⟨hx, ht⟩ := List.pairwise_cons.mp hs
    by_cases hb : before x r = true
    · have ih := insertRecord_sorted r t ht fun y hy => hk y (List.mem_cons_of_mem x hy)
      have hcons : insertRecord r (x :: t) = x :: insertRecord r t := by simp [insertRecord, hb]
      rw [hcons, List.pairwise_cons]
      refine ⟨fun y hy => ?_, ih⟩
      rcases (mem_insertRecord r y t).mp hy with rfl | hy
      · exact hb
      · exact hx y hy
    · have hrx : before r x = true := (before_total (hk x (by simp))).resolve_left hb
      have hcons : insertRecord r (x :: t) = r :: x :: t := by simp [insertRecord, hb]
      rw [hcons, List.pairwise_cons]
      refine ⟨fun y hy => ?_, hs⟩
      rcases List.mem_cons.mp hy with rfl | hy
      · exact hrx
      · exact before_trans hrx (hx y hy)

/-! ### Zones (R129, R142) -/

theorem putZone_zone_same (n : Nat) (z : Zone) (s : State) (h : n < s.line.zones.length) :
    (putZone n z s).line.zone n = z := by
  simp [putZone, LineCtl.setZone, LineCtl.zone, h]

theorem putZone_zone_other (n m : Nat) (z : Zone) (s : State) (h : m ≠ n) :
    (putZone n z s).line.zone m = s.line.zone m := by
  simp [putZone, LineCtl.setZone, LineCtl.zone, List.getElem?_set_ne (Ne.symm h)]

/-- R142: a zone without a pending address becomes FREE with no other effect than its own and its STOP's going. -/
theorem freeZone_eq (n : Nat) (s : State) (h : (s.line.zone n).pendingAddr = none) :
    freeZone n s = withdrawStop n (putZone n (s.line.zone n).freed s) := by
  simp [freeZone, h]

/-- R138, R139: a zone that holds a cue becomes STOPPING with its STOP last in class 1. -/
theorem haltZone_eq (n i : Nat) (s : State) (h : (s.line.zone n).holding = some i) :
    haltZone n s =
      s.setLine { s.line.setZone n (s.line.zone n).halted with jobs := s.line.jobs ++ [.stop n i] } := by
  simp [haltZone, h]

/-! ### Upstream frames -/

/-- R165: a frame that has a check goes on without it. -/
theorem upstreamBody_of_check (bs : List Byte) (h : 4 ≤ bs.length) : upstreamBody bs = bs.take (bs.length - 4) :=
  if_neg (Nat.not_lt.mpr h)

/-- R165: a frame too short for a check goes on whole. -/
theorem upstreamBody_of_short (bs : List Byte) (h : bs.length < 4) : upstreamBody bs = bs := if_pos h

/-! ### Free orders -/

/-- A work put at a free place is added and nothing else changes. -/
theorem weave_perm {α : Type} (k : Nat) (a : α) (l : List α) : (weave k a l).Perm (a :: l) := by
  unfold weave
  exact List.perm_middle.trans (by rw [List.take_append_drop])

/-- R61: the composition is added to the works of a cycle start, and nothing else changes. -/
theorem weaveComposition_perm (k : Nat) (l : List CycleWork) : (weaveComposition k l).Perm (.compose :: l) := by
  unfold weaveComposition
  split
  case isFalse => exact weave_perm k _ l
  case isTrue h =>
    have hd : l.dropWhile (fun w => w != .age true) = .age true :: (l.dropWhile fun w => w != .age true).drop 1 := by
      induction l with
      | nil => cases h
      | cons w l ih =>
        by_cases hw : w = .age true
        · subst hw; rfl
        · have hl : l.contains (.age true) = true := by
            simp only [List.contains_cons, Bool.or_eq_true, beq_iff_eq] at h
            exact h.resolve_left fun e => hw e.symm
          have he : (w :: l).dropWhile (fun w => w != CycleWork.age true) = l.dropWhile (fun w => w != CycleWork.age true) := by
            simp [hw]
          rw [he]
          exact ih hl
    refine ((List.Perm.cons _ (weave_perm k CycleWork.compose _)).append_left _).trans ?_
    refine ((List.Perm.swap _ _ _).append_left _).trans (List.perm_middle.trans ?_)
    rw [← hd, List.takeWhile_append_dropWhile]

/-- R29, R40: at a second tick that turns the day the composition comes after the day turn of the table. -/
theorem composition_after_day_turn (k : Nat) (l : List CycleWork) (h : l.contains (.age true) = true)
    (hc : CycleWork.compose ∉ l) :
    ∃ p q, weaveComposition k l = p ++ .age true :: q ∧ CycleWork.compose ∉ p ∧ CycleWork.compose ∈ q := by
  refine ⟨l.takeWhile fun w => w != .age true, _, by rw [weaveComposition, if_pos h], ?_, ?_⟩
  · exact fun hm => hc ((List.takeWhile_prefix _).subset hm)
  · exact (weave_perm k CycleWork.compose _).mem_iff.mpr (List.mem_cons_self ..)

end Sys2Proof.Laws
end

