-- ==== Sys2Proof/Tests/Machines.lean ====
section
/-! SUPPORT. Small machines for the tests and witnesses, built from the worked examples of the spec. -/

namespace Sys2Proof.Tests

open Sys2Proof Sys2Proof.Machine

/-! ### A bank (1.11, 2.8, 2.9, 3.7, 4.11, 6.12, 6.13, 7.13) -/

/-- A list with one place changed. -/
def put {α : Type} (i : Nat) (a : α) (l : List α) : List α := l.set i a

/-- 1.11: a selection entry. -/
def grant (low high : Nat) (classes : BitVec 16) (boards : BitVec 4) (cues : Bool) : SelectionEntry :=
  { inUse := true, alsoNone := false, cuesAllowed := cues, low := low, high := high, classMask := classes,
    boards := boards }

/-- 3.7: a rule. -/
def ruleOf (field : ValueField) (comparison : Comparison) (constant : Int) (mask : BitVec 6) (sense : FlagSense)
    (phrase template : Option Nat) : NoticeRule :=
  { inUse := true, field := field, comparison := comparison, constant := constant, flagMask := mask, sense := sense,
    phrase := phrase, template := template }

/-- 2.8, 4.11: board 0. -/
def board0 : BoardParams :=
  { emptyBoard with langCount := 2, period := 4, limit := 10, window := 2, threshold := 5, blink := true, onTimePhrase := some 61 }

/-- 2.9: board 2. -/
def board2 : BoardParams := { emptyBoard with limit := 20, window := 1, threshold := 10 }

/-- 6.12: template 5, the CHANGE cue. -/
def changeTemplate : CueTemplate :=
  { emptyTemplate with
    inUse := true, elementCount := 6
    elements := [.fixed 200, .dest, .fixed 201, .platform, .fixed 202, .oldPlatform]
    numberBase := 600, languages := 0b0011#4, zoneSource := .platformOld, fallbackZones := 0b1#8, priority := 5
    lifetime := 120, playLimit := 30 }

/-- 6.13: template 12, the call to the platform. -/
def callTemplate : CueTemplate :=
  { emptyTemplate with
    inUse := true, elementCount := 7
    elements := [.fixed 210, .dest, .vias, .fixed 211, .schedTime, .fixed 212, .platform]
    numberBase := 600, languages := 0b0111#4, zoneSource := .platform, priority := 4, release := some 3
    lifetime := 300, playLimit := 40 }

/-- The bank of the examples. -/
def wall : Bank :=
  { emptyBank with
    params := { emptyParams with changeTemplate := some 5 }
    selection :=
      put 0 (grant 1 8 (BitVec.allOnes 16) 0b0001#4 true)
        (put 1 (grant 9 16 (BitVec.allOnes 16) 0b0010#4 false)
          (put 2 (grant 1 16 0b1000#16 0b0100#4 true) emptyBank.selection))
    rowMap :=
      put 0 { inUse := true, board := 0, role := .clock }
        (put 1 { inUse := true, board := 0, role := .rank 1 }
          (put 2 { inUse := true, board := 0, role := .rank 2 }
            (put 3 { inUse := true, board := 0, role := .rank 3 }
              (put 4 { inUse := true, board := 0, role := .notice }
                (put 5 { inUse := true, board := 0, role := .fixed 300 } emptyBank.rowMap)))))
    boards := put 0 board0 (put 2 board2 emptyBank.boards)
    rules :=
      put 0 (ruleOf .delay .ge 30 0#6 .ignore (some 410) none)
        (put 1 (ruleOf .countdown .le 5 0b000101#6 .noneSet none (some 12))
          (put 2 (ruleOf .always .eq 0 0b000010#6 .allSet (some 402) none)
            (put 3 (ruleOf .opClass .eq 3 0#6 .ignore (some 415) none)
              (put 4 (ruleOf .always .eq 0 0b100000#6 .allSet none (some 13)) emptyBank.rules))))
    templates := put 5 changeTemplate (put 12 callTemplate emptyBank.templates)
    platformZones := put 6 0b00000010#8 (put 10 0b00001100#8 emptyBank.platformZones)
    zoneTable := [1, 2, 3, 5, 9, 0, 0, 0]
    pages := put 12 { rowCount := 2, rows := [{ count := 2, phrases := [700, 701] }, { count := 1, phrases := [702] }] }
      emptyBank.pages }

/-! ### Records -/

/-- 2.8: train A, as 1.11 holds it. -/
def trainA : ServiceRecord :=
  { key := 4172, sm := 1282, delay := some 7, platform := some 7, previous := none, attention := 0, destination := 120
    vias := [], opClass := 3, cancelled := false, boarding := false, boards := 0b0101#4, cueEnabled := true
    matchSet := 0#32, notice := none }

/-- 2.8: train B. -/
def trainB : ServiceRecord :=
  { trainA with key := 5020, sm := 1310, delay := some 0, platform := some 9, opClass := 1, destination := 133
                vias := [140], boards := 0b0010#4, cueEnabled := false }

/-- 1.11: record 3305. -/
def record3305 : ServiceRecord :=
  { trainA with key := 3305, sm := 1240, delay := some 4, platform := some 3, opClass := 1, boards := 0b0001#4 }

/-! ### Machines -/

/-- RUNNING at position 3, second 76640 of day 812, with the bank of the examples and an empty table. -/
def running : State :=
  { State.reset with
    chain := { resetChain with position := some 3, hopCount := some 2, grant := some 3 }
    store := { active := wall, shadow := wall, generation := 6, commit := none }
    line := { State.reset.line with zones := (List.range 8).map fun n => resetZone (wall.zoneTable.getD n 0) }
    time := { resetTime with second := 76640, day := 812, clock := civilClock 150 76640, synchronised := true,
                             setPending := false }
    node := { State.reset.node with state := .running } }

/-- The same node in another state. -/
def inState (x : NodeState) : State := { running with node := { running.node with state := x } }

/-- 1.11: the table of the example. -/
def listed : State := { running with table := [record3305, trainA] }

/-- A cue of the examples: content that matters little, with the parts given. -/
def cueOf (id priority : Nat) (zones : BitVec 8) (release expiry : Int) (state : CueState) : Cue :=
  { id := id, source := .explicit, key := 0, template := none, codes := [200, 201], zones := zones, priority := priority
    release := release, expiry := expiry, playLimit := 25, state := state, retryHold := none, playCount := 0
    preempted := false, completed := 0#8, lost := 0#8 }

/-- 7.13: cue 57. -/
def cue57 (state : CueState) : Cue :=
  { cueOf 57 3 0b00010010#8 61200 61500 state with
    source := .cancel, key := 3305, template := some 8, codes := [1, 2, 3, 4, 5, 6, 7, 8, 9, 10] }

/-- A held zone. -/
def held (n : Nat) (state : ZoneState) (cueId : Nat) : Zone :=
  { resetZone (wall.zoneTable.getD n 0) with state := state, holding := some cueId }

/-- 7.13, at 61200: cue 57 offered in zones 1 and 4, zone 1 taken, the OFFER to zone 4 in flight. -/
def offering : State :=
  { listed with
    time := { listed.time with second := 61200, clock := civilClock 150 61200 }
    cues := { queue := [cue57 .offered], nextId := 58 }
    line :=
      { running.line with
        zones := put 1 { held 1 .offered 57 with taken := true } (put 4 { held 4 .offered 57 with miss := 1 } running.line.zones)
        status := .transaction (.offer 4 9 57), timer := 400000, seq := some { cueId := 57, left := [] } } }

/-- The same node with the line as given. -/
def withLine (s : State) (l : LineCtl) : State := { s with line := l }

/-- Cue 57 DUE with the line idle and every zone FREE. -/
def dueCue : State := { offering with cues := { queue := [cue57 .due], nextId := 58 }, line := running.line }

/-- Cue 57 PLAYING in zones 1 and 4 (7.13), the line idle. -/
def playing57 : State :=
  { offering with
    cues := { queue := [cue57 .playing], nextId := 58 }
    line :=
      { running.line with
        zones := put 1 { held 1 .playing 57 with timer := some 3 } (put 4 { held 4 .playing 57 with timer := some 3 } running.line.zones) } }

/-- The same with a POLL of zone 4 in flight. -/
def polling4 : State :=
  { playing57 with line := { playing57.line with status := .transaction (.poll 4 9), timer := 400000 } }

/-- 7.14: cue 12 PLAYING in zones 0 and 1, cue 30 DUE for zones 1 and 2. -/
def preempting : State :=
  { running with
    time := { running.time with second := 70010, clock := civilClock 150 70010 }
    cues := { queue := [cueOf 12 2 0b011#8 70000 70500 .playing, cueOf 30 6 0b110#8 70010 70100 .due], nextId := 31 }
    line :=
      { running.line with
        zones := put 0 { held 0 .playing 12 with timer := some 9 } (put 1 { held 1 .playing 12 with timer := some 9 } running.line.zones) } }

/-- A queue of 32 WAITING cues (6.14), the ids 0 to 31 and priority 2, cues 19 and 23 of priority 1. -/
def fullQueue : State :=
  { running with
    cues :=
      { queue := (List.range 32).map fun i =>
          cueOf i (if i = 19 ∨ i = 23 then 1 else 2) 0b1#8 80000 80300 .waiting
        nextId := 23 } }

/-- A CUE POST of the given priority. -/
def cuePostOf (priority : Nat) : CuePostBody :=
  { zones := 0b1#8, priority := priority, release := none, lifetime := 60, codes := [200] }

/-- 1.12: a table of 96 records, the last of them 901. -/
def fullTable : State :=
  { running with
    table := (List.range 95).map (fun i => { trainA with key := 1 + i, sm := 1282 + (i : Int) }) ++
      [{ trainA with key := 901, sm := 2754, delay := some 0 }] }

/-- A SERVICE POST of the given key, SM and delay, for platform 7 and class 3. -/
def postOf (key : Nat) (sm : Int) (delay : Option Int) : PostBody :=
  { key := key, sm := sm, delay := delay, platform := 7, opClass := 3, cancelled := false, boarding := false
    destination := 120, vias := [] }

/-- Level 2 override of board 0 with page 3 (8.11). -/
def level2 : OverrideBody := { level := 2, boards := 0b1#4, page := 3, floor := 4, template := none }

/-! ### Frames (9.7) -/

/-- A downstream frame without messages, its check worked out. -/
def frameOf (cycleByte hop grant day sec : Nat) : List Byte :=
  let header : List Byte :=
    [toByte cycleByte, toByte hop, ~~~ (toByte hop), toByte grant, 0#8] ++ toBytes16 day ++
      [toByte (sec / 65536), toByte (sec / 256), toByte sec]
  header ++ toBytes32 (crc32 (checkedBytes (header ++ [0#8, 0#8, 0#8, 0#8])))

/-- An upstream frame of four empty slots from cycle 5, its check worked out. -/
def upFrame : List Byte := emptyReportBody 5 ++ toBytes32 (crc32 (emptyReportBody 5))

end Sys2Proof.Tests
end

