-- ==== Sys2Proof/WellFormed.lean ====
section
/-! DEFINITION. Which commands the connections can carry at all: each operand within the width its field has in 9.7,
10.6 and 7.9. The meanings are total and take ill-formed commands too. -/

namespace Sys2Proof

/-- A 16-bit field. -/
def fits16 (n : Nat) : Bool := decide (n < 65536)

/-- A byte. -/
def fits8 (n : Nat) : Bool := decide (n < 256)

/-- A signed 16-bit field. -/
def fitsSigned16 (n : Int) : Bool := decide (-32768 ≤ n) && decide (n < 32768)

/-- A delay: 8000h is UNKNOWN, so −32768 is no number of minutes. -/
def fitsDelay (d : Option Int) : Bool := d.all fun n => decide (-32768 < n) && decide (n < 32768)

/-- 9.7: the fields of a SERVICE POST. The via count of a 250-byte body is at most 119. -/
def PostBody.wellFormed (b : PostBody) : Bool :=
  fits16 b.key && fitsSigned16 b.sm && fitsDelay b.delay && fits8 b.platform && fits8 b.opClass && fits16 b.destination &&
    decide (b.vias.length ≤ 119) && b.vias.all fits16

/-- 9.7: the fields of a SERVICE AMEND. -/
def AmendBody.wellFormed (b : AmendBody) : Bool :=
  fits16 b.key && b.delay.all fitsDelay && b.platform.all fits8

/-- 9.7: the fields of a NOTICE SET. -/
def NoticeBody.wellFormed (b : NoticeBody) : Bool := decide (b.phrases.length ≤ 124) && b.phrases.all fits16

/-- 9.7: the fields of a CUE POST; FFFFFFh is IMMEDIATE. -/
def CuePostBody.wellFormed (b : CuePostBody) : Bool :=
  fits8 b.priority && (b.release.all fun r => decide (r < 16777215)) && fits16 b.lifetime &&
    decide (b.codes.length ≤ 121) && b.codes.all fits16

/-- 9.7: the fields of an OVERRIDE SET; template FFh is none. -/
def OverrideBody.wellFormed (b : OverrideBody) : Bool :=
  fits8 b.level && fits8 b.page && fits8 b.floor && b.template.all fun t => decide (t < 255)

/-- Every operand within its field. -/
def Instr.wellFormed : Instr → Bool
  | .powerOn | .powerUpEnd | .ownCycleBoundary | .frameStart | .upstreamFrameStart | .breakState | .breakStateEnd
  | .chainReset | .linkLoss | .downstreamLost | .secondTick | .dayTurn | .holdoverLimit | .bankSwitch | .queryState
  | .queryZones | .queryResetCause | .queryTrim | .commandReset | .watchClear | .lineArbitration | .startSent
  | .cancelSent | .replyWindowClose | .lineBreakEnd | .lineQuietEnd => true
  | .frame _ | .upstreamFrame _ => true
  | .attentionExpiry key | .retirement key | .queryRecord key => fits16 key
  | .cueRelease c | .cueExpiry c | .retryHoldExpiry c | .playLimitReached c | .queryCues c => fits8 c
  | .trimWindowClose _ => true
  | .servicePost _ b => b.wellFormed
  | .serviceAmend _ b => b.wellFormed
  | .serviceWithdraw _ key | .clearAttention _ key | .watchSet _ key => fits16 key
  | .noticeSet _ b => b.wellFormed
  | .cuePost _ b => b.wellFormed
  | .overrideSet _ b => b.wellFormed
  | .overrideClear _ level => fits8 level
  | .tableWrite _ t i e => fits8 t && fits8 i && decide (e.length ≤ 248)
  | .tableCopy _ => true
  | .tableCommit _ g c => fits8 g && fits8 c
  | .unknownMessageKind _ k => fits8 k && !([0x01, 0x02, 0x03, 0x08, 0x10, 0x18, 0x19, 0x20, 0x21, 0x22].contains k)
  | .taken _ | .busy _ | .stopped _ | .playing _ | .finished _ | .idle _ => true
  | .pollTimerExpiry z => decide (z < 8)

end Sys2Proof
end

