-- ==== Sys2Proof/Tests/Slice0.lean ====
section
/-! SUPPORT. Tests: what the checks of WellFormed refuse, and the worked examples of the spec. Each expected value is the
spec's own, or worked by hand from its rules; the docstring names the place. -/

namespace Sys2Proof.Tests

open Sys2Proof Sys2Proof.Machine

/-! ### WellFormed: one ill-formed term for each check, and terms at the edge that pass -/

theorem test_wf_post_key : (Instr.servicePost .all (postOf 65536 0 none)).wellFormed = false := by decide
theorem test_wf_post_sm : (Instr.servicePost .all (postOf 1 32768 none)).wellFormed = false := by decide
theorem test_wf_post_delay : (Instr.servicePost .all (postOf 1 0 (some (-32768)))).wellFormed = false := by decide
theorem test_wf_post_platform : (Instr.servicePost .all { postOf 1 0 none with platform := 256 }).wellFormed = false := by decide
theorem test_wf_post_class : (Instr.servicePost .all { postOf 1 0 none with opClass := 256 }).wellFormed = false := by decide
theorem test_wf_post_destination : (Instr.servicePost .all { postOf 1 0 none with destination := 65536 }).wellFormed = false := by
  decide
theorem test_wf_post_via_count :
    (Instr.servicePost .all { postOf 1 0 none with vias := List.replicate 120 0 }).wellFormed = false := by decide
theorem test_wf_post_via : (Instr.servicePost .all { postOf 1 0 none with vias := [65536] }).wellFormed = false := by decide
theorem test_wf_amend_key :
    (Instr.serviceAmend .all { key := 65536, delay := none, platform := none, cancelled := none, boarding := none }).wellFormed =
      false := by decide
theorem test_wf_amend_delay :
    (Instr.serviceAmend .all
      { key := 1, delay := some (some 32768), platform := none, cancelled := none, boarding := none }).wellFormed = false := by
  decide
theorem test_wf_amend_platform :
    (Instr.serviceAmend .all { key := 1, delay := none, platform := some 256, cancelled := none, boarding := none }).wellFormed =
      false := by decide
theorem test_wf_keys :
    (Instr.serviceWithdraw .all 65536).wellFormed = false ∧ (Instr.clearAttention .all 65536).wellFormed = false ∧
      (Instr.watchSet .all 65536).wellFormed = false ∧ (Instr.queryRecord 65536).wellFormed = false ∧
      (Instr.attentionExpiry 65536).wellFormed = false ∧ (Instr.retirement 65536).wellFormed = false := by decide
theorem test_wf_notice :
    (Instr.noticeSet .all { boards := 1#4, phrases := [65536] }).wellFormed = false ∧
      (Instr.noticeSet .all { boards := 1#4, phrases := List.replicate 125 0 }).wellFormed = false := by decide +kernel
theorem test_wf_cue_post :
    (Instr.cuePost .all (cuePostOf 256)).wellFormed = false ∧
      (Instr.cuePost .all { cuePostOf 1 with release := some 16777215 }).wellFormed = false ∧
      (Instr.cuePost .all { cuePostOf 1 with lifetime := 65536 }).wellFormed = false ∧
      (Instr.cuePost .all { cuePostOf 1 with codes := [65536] }).wellFormed = false ∧
      (Instr.cuePost .all { cuePostOf 1 with codes := List.replicate 122 0 }).wellFormed = false := by decide +kernel
theorem test_wf_override :
    (Instr.overrideSet .all { level2 with level := 256 }).wellFormed = false ∧
      (Instr.overrideSet .all { level2 with page := 256 }).wellFormed = false ∧
      (Instr.overrideSet .all { level2 with floor := 256 }).wellFormed = false ∧
      (Instr.overrideSet .all { level2 with template := some 255 }).wellFormed = false ∧
      (Instr.overrideClear .all 256).wellFormed = false := by decide
theorem test_wf_tables :
    (Instr.tableWrite .all 256 0 []).wellFormed = false ∧ (Instr.tableWrite .all 0 256 []).wellFormed = false ∧
      (Instr.tableWrite .all 0 0 (List.replicate 249 0#8)).wellFormed = false ∧
      (Instr.tableCommit .all 256 0).wellFormed = false ∧ (Instr.tableCommit .all 1 256).wellFormed = false := by decide +kernel
theorem test_wf_ids :
    (Instr.cueRelease 256).wellFormed = false ∧ (Instr.cueExpiry 256).wellFormed = false ∧
      (Instr.retryHoldExpiry 256).wellFormed = false ∧ (Instr.playLimitReached 256).wellFormed = false ∧
      (Instr.queryCues 256).wellFormed = false ∧ (Instr.pollTimerExpiry 8).wellFormed = false := by decide
/-- A kind the node knows is no unknown kind; 28h and 29h may be, for a query or a control of unknown kind (R170, R171). -/
theorem test_wf_unknown_kind :
    (Instr.unknownMessageKind .all 0x01).wellFormed = false ∧ (Instr.unknownMessageKind .all 256).wellFormed = false ∧
      (Instr.unknownMessageKind .all 0x28).wellFormed = true ∧ (Instr.unknownMessageKind .all 0x7F).wellFormed = true := by
  decide
theorem test_wf_edges :
    (Instr.servicePost .all (postOf 65535 (-32768) (some (-32767)))).wellFormed = true ∧
      (Instr.pollTimerExpiry 7).wellFormed = true ∧ (Instr.queryCues 255).wellFormed = true := by decide

/-- No row of the opcode table gives bits. -/
theorem test_no_word_decodes : decodeTableWord 16 0x1234 = none ∧ State.reset.withFetchWord 16 0x1234 = State.reset :=
  ⟨rfl, rfl⟩

/-! ### Departure arithmetic (2.8 to 2.10) -/

/-- 2.8: the service second at civil 23:47:20. -/
theorem test_civil_second : civilSecond 150 76640 = 85640 ∧ civilClock 150 76640 = ⟨2, 3, 4, 7, 2, 0⟩ := by decide

/-- 2.8: train A. -/
theorem test_train_a :
    expectedMinute trainA = 1289 ∧ sortKey trainA = 2745 ∧ remainingSeconds trainA 76640 = 700 ∧
      countdown trainA 76640 = 12 ∧ civilMinute 150 (expectedMinute trainA) = 23 * 60 + 59 := by decide

/-- 2.8: the EXPECT field of train A on board 0 as the minutes pass, and its retirement at 77400. -/
theorem test_train_a_passing :
    expectChoice board0 150 76740 trainA = .number 10 ∧ expectChoice board0 150 76741 trainA = .number 10 ∧
      expectChoice board0 150 77220 trainA = .phrase none ∧ expectChoice board0 150 76680 trainA = .time 1439 ∧
      retires 1 77399 trainA = false ∧ retires 1 77400 trainA = true := by decide

/-- 2.9: the same record on board 2. -/
theorem test_expect_on_two_boards :
    expectChoice board0 150 76640 trainA = .time 1439 ∧ expectChoice board2 150 76640 trainA = .number 12 ∧
      isDue wall 77219 trainA = false ∧ isDue wall 77220 trainA = true := by decide

/-- 2.8: the limit cases. -/
theorem test_limits :
    sortKey (postRecord (postOf 9001 (-1440) (some (-40))) (1#4, true)) = 1 ∧
      civilMinute 150 (-1455) = 135 ∧
      sortKey (postRecord (postOf 9002 2879 (some 999)) (1#4, true)) = 5334 ∧
      countdown (postRecord (postOf 9002 2879 (some 999)) (1#4, true)) 76640 = 2601 := by decide

/-- 2.10: the three records of the day turn. -/
def turning : State :=
  { running with
    time := { running.time with second := 86399, clock := civilClock 150 86399 }
    table :=
      [{ trainA with key := 77, sm := -5, delay := some 0 }, { trainA with key := 812, sm := 1430, delay := none },
        { trainA with key := 1507, sm := 1430, delay := some 30 }] }

/-- 2.10: the day turn removes record 77 and lowers the others; the clock shows 02:30:00. -/
theorem test_day_turn :
    (match exec .dayTurn turning with
      | .next t => decide (t.table.map (fun r => (r.key, r.sm)) = [(812, -10), (1507, -10)]) &&
          decide (t.time.second = 0 ∧ t.time.day = 813 ∧ t.time.clock = ⟨0, 2, 3, 0, 0, 0⟩)
      | _ => false) = true := by decide

/-! ### Records and selection (1.11, 1.12) -/

/-- 1.11: selection for platform 7 and class 3, and for platform 12 and class 1. -/
theorem test_selection :
    selectRecord wall.selection (some 7) 3 = (0b0101#4, true) ∧ selectRecord wall.selection (some 12) 1 = (0b0010#4, false) ∧
      selectRecord wall.selection none 3 = (0#4, false) := by decide

/-- An amend that carries a platform alone. -/
def platformAmend (key platform : Nat) : AmendBody :=
  { key := key, delay := none, platform := some platform, cancelled := none, boarding := none }

/-- 1.11 event 1 and 6.12: the platform change restarts attention, moves the record between boards and asks for the
CHANGE cue in two languages over zones 1 to 3. -/
theorem test_amend_platform :
    (match exec (.serviceAmend .all (platformAmend 4172 11)) listed with
      | .next t => (match t.findRecord 4172, t.findCue 0 with
        | some r, some c =>
          decide (r.platform = some 11 ∧ r.previous = some 7 ∧ r.attention = 120 ∧ r.boards = 0b0110#4 ∧ r.cueEnabled = true) &&
            decide (c.codes = [200, 120, 201, 611, 202, 607, 1224, 1144, 1225, 1635, 1226, 1631] ∧ c.zones = 0b1110#8 ∧
              c.priority = 5 ∧ c.release = 76640 ∧ c.expiry = 76760 ∧ c.state = .due ∧ c.source = .change)
        | _, _ => false)
      | _ => false) = true := by decide

/-- 1.11 event 4: the cue is asked for although the record's new boards allow none. -/
theorem test_amend_leaves_cue_boards :
    (match exec (.serviceAmend .all (platformAmend 3305 12)) listed with
      | .next t => (match t.findRecord 3305 with
        | some r => decide (r.boards = 0b0010#4 ∧ r.cueEnabled = false ∧ r.previous = some 3) && decide (t.cues.queue.length = 1)
        | none => false)
      | _ => false) = true := by decide

/-- 1.12 post A: the last record is evicted and the post becomes the last. -/
theorem test_post_evicts :
    (match exec (.servicePost .all (postOf 2222 2744 (some 10))) fullTable with
      | .next t => decide (t.table.length = 96 ∧ t.table.getLast?.map (fun r => r.key) = some 2222) &&
          t.node.reports.contains (.evicted 901)
      | _ => false) = true := by decide

/-- 1.12 post B: a later post is refused with FULL. -/
theorem test_post_full :
    (match exec (.servicePost .all (postOf 600 2755 (some 0))) fullTable with
      | .next t => decide (t.table = fullTable.table ∧ t.node.reports = [.full 600])
      | _ => false) = true := by decide

/-- R19: a withdrawal takes the record and its waiting cues. -/
theorem test_withdraw :
    (match exec (.serviceWithdraw .position 3305) dueCue with
      | .next t => decide (t.table = [trainA] ∧ t.cues.queue = [] ∧
          t.node.reports = [.cueDropped (some 57) .cancel 3305 (some 8) .withdrawn])
      | _ => false) = true := by decide

/-! ### Rules (3.7) -/

/-- 3.7: the match set and notice of train A at the events of the example. -/
theorem test_rule_events :
    (decideRules wall 76640 trainA).matchSet = 0b01000#32 ∧ (decideRules wall 76640 trainA).notice = some 415 ∧
      (decideRules wall 76900 { trainA with boarding := true }).matchSet = 0b01100#32 ∧
      (decideRules wall 77040 { trainA with boarding := true }).matchSet = 0b01110#32 ∧
      (decideRules wall 77100 { trainA with boarding := true, delay := some 35 }).matchSet = 0b01101#32 ∧
      (decideRules wall 77100 { trainA with boarding := true, delay := some 35 }).notice = some 410 ∧
      (decideRules wall 77220 { trainA with boarding := true }).matchSet = 0b11110#32 := by decide

/-- 6.13: rule 1's call to the platform, cut to two of three languages, waiting for its release. -/
theorem test_call_cue :
    expandLanguages callTemplate.languages (languageList 150 callTemplate (some trainA)) =
        [210, 120, 211, 623, 652, 212, 607, 1234, 1144, 1235, 1647, 1676, 1236, 1631] ∧
      templateRelease callTemplate (some trainA) 77040 = 77160 ∧ firstState 77160 77040 = .waiting := by decide

/-! ### Rows (4.11, 8.11) -/

/-- 4.11: the two records of board 0, at 76643. -/
def bilingual (sec : Nat) : State :=
  { running with
    time := { running.time with second := sec, clock := civilClock 150 sec }
    table := [{ trainA with platform := some 11, previous := some 7, attention := 90 },
              { trainB with boards := 0b0001#4 }] }

/-- 4.11: row 2 and row 3 at 76643, in language 0. -/
theorem test_rank_rows :
    composeRow (bilingual 76643) 2 =
        .rank 1432 [120, 65535, 65535, 65535] 11 (.time 1439) 65535 false false ∧
      composeRow (bilingual 76643) 3 =
        .rank 20 [133, 140, 65535, 65535] 9 (.phrase 61) 65535 false false ∧
      composeRow (bilingual 76643) 4 = .blank := by decide

/-- 4.11: at 76644 the language phase is 1; the clock shows 23:47:24. -/
theorem test_language_phase :
    composeRow (bilingual 76644) 1 = .clock [2, 3, 4, 7, 2, 4] false ∧
      composeRow (bilingual 76644) 3 = .rank 20 [1157, 1164, 65535, 65535] 9 (.phrase 1085) 65535 false false ∧
      composeRow (bilingual 76644) 6 = .text [1324] := by decide

/-- R76, R77: an unchanged node sends all 24 rows in cycle 32 and none in cycle 33; set back to exactly 32 it sends them all
again at the start of 33, once. -/
theorem test_full_send :
    (let at32 := compose { running with time := { running.time with cycle := 32 } }
     let at33 : State := { at32 with time := { at32.time with cycle := 33 } }
     let back : State := { at33 with rows := { at33.rows with fullDue := true } }
     at32.ports.tile.length = 24 ∧ (compose at33).ports.tile.length = 0 ∧ (compose back).ports.tile.length = 24 ∧
       (compose (compose back)).ports.tile.length = 0) := by decide +kernel

/-- 8.11: under an override of page 3 the rows of the board show the page, the clock row its clock. -/
theorem test_override_rows :
    (match exec (.overrideSet .all level2) running with
      | .next t => decide (composeRow t 2 = .text [700, 701] ∧ composeRow t 3 = .text [702] ∧ composeRow t 4 = .blank ∧
          composeRow t 1 = composeRow running 1)
      | _ => false) = true := by decide

/-- 8.11 event 2: a SET below the level in force is refused. -/
theorem test_override_refused :
    (match exec (.overrideSet .all { level2 with level := 1 }) { running with ovr := overrideOf level2 } with
      | .next t => decide (t.ovr = overrideOf level2 ∧ t.node.reports = [.overrideRefused .set 1 2])
      | _ => false) = true := by decide

/-! ### Time (5.3.1, 5.4.1) -/

/-- 5.3.1: a window of 5 999 900 ticks gives the trim 374 993 and 12/16. -/
theorem test_trim_window :
    (match exec (.trimWindowClose 5999900) { running with time := { running.time with window := some ⟨16, 0⟩ } } with
      | .next t => decide (t.time.trimInt = 374993 ∧ t.time.trimFrac = 12 ∧ t.time.excursion = false)
      | _ => false) = true := by decide

/-- 5.3.1: the accumulator and the lengths of the four cycles that follow. -/
theorem test_accumulator :
    let t0 := { resetTime with trimInt := 374993, trimFrac := 12 }
    let t1 := t0.nextCycle 0
    let t2 := t1.nextCycle 0
    let t3 := t2.nextCycle 0
    let t4 := t3.nextCycle 0
    [(t1.accumulator, t1.cycleLength), (t2.accumulator, t2.cycleLength), (t3.accumulator, t3.cycleLength),
      (t4.accumulator, t4.cycleLength)] = [(12, 374993), (8, 374994), (4, 374994), (0, 374994)] := by decide

/-- 5.4.1: the classes of the run of time marks. -/
theorem test_mark_classes :
    let at' (day second : Nat) : TimeBase := { resetTime with day := day, second := second }
    classifyMark (at' 812 50001) 812 50001 = .none ∧ classifyMark (at' 812 50002) 812 50120 = .shortStep ∧
      classifyMark (at' 812 50121) 812 50000 = .setBack ∧ classifyMark (at' 812 50001) 812 51000 = .longStep ∧
      classifyMark (at' 812 51001) 813 51001 = .longStep ∧ classifyMark (at' 813 51002) 815 10 = .dateJump ∧
      classifyMark (at' 815 11) 814 11 = .dateJump ∧ classifyMark (at' 65535 86390) 0 5 = .shortStep := by decide

/-- 5.4.1: the cue queue at the LONG STEP of the fourth line. -/
theorem test_long_step :
    let t := takeMark none 812 51000
      { running with
        time := { running.time with second := 50001, clock := civilClock 150 50001 }
        cues :=
          { queue := [cueOf 20 1 1#8 50500 50800 .waiting, cueOf 21 1 1#8 50900 51500 .waiting, cueOf 22 1 1#8 49990 50800 .due,
              cueOf 23 1 1#8 51000 51600 .waiting, cueOf 24 1 1#8 51200 51800 .waiting]
            nextId := 25 } }
    t.cues.queue = [cueOf 24 1 1#8 51200 51800 .waiting] ∧
      t.node.reports = [.clockStep .longStep 999, .cueDropped (some 20) .explicit 0 none .skipped,
        .cueDropped (some 21) .explicit 0 none .skipped, .cueDropped (some 23) .explicit 0 none .skipped,
        .cueDropped (some 22) .explicit 0 none .expired] := by decide

/-! ### Cues and the cue line (6.14, 7.13, 7.14) -/

/-- 6.14: a request of priority 1 is dropped, and one of priority 3 pushes cue 23 out. -/
theorem test_full_queue :
    (match exec (.cuePost .all (cuePostOf 1)) fullQueue, exec (.cuePost .all (cuePostOf 3)) fullQueue with
      | .next t, .next u =>
        decide (t.cues = fullQueue.cues ∧ t.node.reports = [.cueDropped none .explicit 0 none .full]) &&
          decide (u.node.reports = [.cueDropped (some 23) .explicit 0 none .full] ∧ (u.findCue 23).map (fun c => c.priority) = some 3)
      | _, _ => false) = true := by decide

/-- 7.13: an OFFER of 10 phrases is 27 characters. -/
theorem test_offer_length :
    (Transaction.message (.offer 1 2 57) 25 (cue57 .due).codes).length = 27 := by decide

/-- 7.13: the arbiter's choice offers cue 57 in zones 1 and 4. -/
theorem test_choice :
    (match exec .lineArbitration dueCue with
      | .next t => decide (t.line.seq = some { cueId := 57, left := [1, 4] } ∧ (t.line.zone 1).state = .offered ∧
          (t.line.zone 4).state = .offered ∧ (t.findCue 57).map (fun c => c.state) = some .offered)
      | _ => false) = true := by decide

/-- 7.13: BUSY from player 9 fails the sequence: CANCEL 57 to address 2, both zones FREE with miss count 0, a hold of
61201. -/
theorem test_busy :
    (match exec (.busy (lineMessage 9 0x22 [57])) offering with
      | .next t => decide (t.line.jobs = [.cancel 2 57] ∧ (t.line.zone 4).state = .free ∧ (t.line.zone 4).miss = 0 ∧
          (t.line.zone 1).state = .free ∧ (t.findCue 57).map (fun c => (c.state, c.retryHold)) = some (.due, some 61201)) &&
          decide (t.node.reports = [])
      | _ => false) = true := by decide

/-- 7.13: zone 4, with a miss already, misses its OFFER and stays usable. -/
theorem test_offer_missed :
    (match exec .replyWindowClose offering with
      | .next t => decide ((t.line.zone 4).miss = 2 ∧ (t.line.zone 4).state = .free ∧ t.line.status = .quiet 480000 ∧ t.node.reports = [])
      | _ => false) = true := by decide

/-- 7.13: START makes cue 57 PLAYING in zones 1 and 4 with their timers at 32. -/
theorem test_start :
    (match exec .startSent { offering with line := { offering.line with status := .transaction (.start 57) } } with
      | .next t => decide (((t.line.zone 1).state, (t.line.zone 1).timer) = (.playing, some 32) ∧
          ((t.line.zone 4).state, (t.line.zone 4).timer) = (.playing, some 32) ∧
          (t.findCue 57).map (fun c => (c.state, c.playCount)) = some (.playing, 0))
      | _ => false) = true := by decide

/-- 7.13: FINISHED from player 9 releases zone 4 as completed, and cue 57 goes on in zone 1. -/
theorem test_finished :
    (match exec (.finished (lineMessage 9 0x25 [])) polling4 with
      | .next t => decide ((t.line.zone 4).state = .free ∧ (t.line.zone 1).state = .playing ∧
          (t.findCue 57).map (fun c => c.completed) = some 0b10000#8) && decide (t.node.reports = [])
      | _ => false) = true := by decide

/-- 7.14: cue 30 preempts cue 12: zones 0 and 1 STOPPING with their STOPs pending. -/
theorem test_preemption :
    (match exec .lineArbitration preempting with
      | .next t => decide (t.line.jobs = [.stop 0 12, .stop 1 12] ∧ (t.line.zone 0).state = .stopping ∧
          (t.line.zone 1).state = .stopping ∧ (t.line.zone 2).state = .free ∧
          (t.findCue 12).map (fun c => (c.state, c.preempted)) = some (.playing, true) ∧
          (t.findCue 30).map (fun c => c.state) = some .due)
      | _ => false) = true := by decide

/-- R123, R124: a reply with one wrong parity bit is no message. -/
theorem test_bad_parity :
    readMessage (lineMessage 9 0x25 []) = some (9, 0x25, []) ∧
      readMessage ((lineMessage 9 0x25 []).map fun c => { c with parity := true }) = none := by decide

/-- R123: the address character 9: the start bit, 1001 from the least significant bit on, the address mark, a parity bit
that makes four ones of three, and the stop bit; 12 bits of 5000 ticks' worth. -/
theorem test_character_bits :
    LineChar.bits (mkChar true 9) = [false, true, false, false, true, false, false, false, false, true, true, true] ∧
      (LineChar.bits (mkChar true 9)).length = Config.charBits ∧ Config.charTicks = 5000 ∧
      LineChar.good { mkChar true 9 with start := true } = false := by decide

/-- R126: characters that arrive while the line is left quiet begin the 2 character times anew, within the 20 ms. -/
theorem test_late_characters :
    (match exec (.busy (lineMessage 9 0x22 [57])) { offering with line := { offering.line with status := .quiet 470000, timer := 100 } },
        exec (.taken [mkChar true 9]) { offering with line := { offering.line with status := .quiet 4000, timer := 100 } } with
      | .next t, .next u => decide (t.line.timer = 10000 ∧ t.line.status = .quiet 470000 ∧ t.cues = offering.cues ∧ u.line.timer = 4000)
      | _, _ => false) = true := by decide

/-! ### Tables (10.3.1) -/

/-- 10.3.1: the commit narrows entry 1 to platforms 9 to 11; record 3305 at platform 12 leaves. -/
theorem test_commit_removes_record :
    (match exec .bankSwitch
        { running with
          store := { running.store with shadow := wall.writeEntry 1 1 [0x01#8, 9#8, 11#8, 0xFF#8, 0xFF#8, 0x02#8],
                                        commit := some ⟨7, 32⟩ }
          table := [{ record3305 with platform := some 12, boards := 0b0010#4, cueEnabled := false }, trainA]
          node := { running.node with watch := [3305] } } with
      | .next t => decide (t.table.map (fun r => (r.key, r.boards)) = [(4172, 0b0101#4)] ∧ t.store.generation = 7) &&
          (match t.node.reports with
            | [.leftSelection 3305, .watch .leftSelection _, .commitDone 7 1] => true
            | _ => false)
      | _ => false) = true := by decide

/-! ### The chain (chapter 9) -/

/-- R157: the check value of this CRC for the nine characters 1 to 9, as its definitions outside the spec give it. -/
theorem test_crc : crc32 [0x31#8, 0x32#8, 0x33#8, 0x34#8, 0x35#8, 0x36#8, 0x37#8, 0x38#8, 0x39#8] = 0xCBF43926 := by
  decide +kernel

/-- R156, R159: a frame of hop count 4 puts the node at position 5 and goes on with hop count 5. -/
theorem test_frame_hop :
    (match exec (.frame (frameOf 7 4 5 0 0)) running with
      | .next t => decide (t.chain.position = some 5 ∧ t.chain.grant = some 5 ∧ t.time.cycle = 7 ∧
          t.ports.down.take 3 = [7#8, 5#8, 0xFA#8])
      | _ => false) = true := by decide +kernel

/-- R157: a frame with one wrong byte loses the grant and is forwarded all the same. -/
theorem test_bad_frame :
    (match exec (.frame ((frameOf 7 4 5 0 0).set 3 6#8)) running with
      | .next t => decide (t.chain.grant = none ∧ t.chain.position = some 3 ∧ t.ports.down.take 3 = [7#8, 5#8, 0xFA#8])
      | _ => false) = true := by decide +kernel

/-- R165: an upstream frame cut after three bytes is forwarded as it arrived, with a failing check behind it. -/
theorem test_short_upstream_frame :
    (match exec (.upstreamFrame [5#8, 0x80#8, 7#8]) running with
      | .next t => decide (t.ports.up.take 3 = [5#8, 0x80#8, 7#8] ∧ t.ports.up.length = 7 ∧
          carriedCheck t.ports.up = crc32 [5#8, 0x80#8, 7#8] ^^^ 0xFFFFFFFF)
      | _ => false) = true := by decide +kernel

/-- R91, R92: the first time mark in JOINING sets the clock and, with a generation active, leads to RUNNING (R174). -/
theorem test_first_mark :
    (match exec (.frame (frameOf 0x40 2 0 812 50000))
        { running with
          time := { running.time with setPending := true, synchronised := false }
          node := { running.node with state := .joining } } with
      | .next t => decide (t.time.second = 50000 ∧ t.time.day = 812 ∧ t.time.synchronised = true ∧ t.node.state = .running)
      | _ => false) = true := by decide +kernel

/-- R173: a frame that moves the node and brings its first mark: STATE CHANGED carries the position held before it and the
new one. -/
theorem test_first_mark_moves :
    (match exec (.frame (frameOf 0x40 7 0 812 50000))
        { running with
          time := { running.time with setPending := true, synchronised := false }
          node := { running.node with state := .joining } } with
      | .next t => decide (t.node.reports = [.stateChanged .joining .running (some 3) (some 8) none])
      | _ => false) = true := by decide +kernel

/-- R29, R40, 2.10: record 1507, due 30 minutes late at 1430, has the same remaining seconds at the last second of the day
as one second later, after the day turn, but for that second. -/
theorem test_day_turn_remaining :
    (match turning.findRecord 1507 with
      | some r => decide (remainingSeconds r 86399 = 1201 ∧ remainingSeconds { r with sm := r.sm - 1440 } 0 = 1200)
      | none => false) = true := by decide

/-- R174: with nothing waiting, the first step after power-on ends POWER-UP. -/
theorem test_power_up_ends :
    (match step State.reset with
      | .next t => decide (t.node.state = .awaitChain ∧ t.node.cause = .powerOn)
      | _ => false) = true := by decide

/-- R161: link loss in RUNNING leads to HOLDOVER. -/
theorem test_link_loss :
    (match exec .linkLoss running with
      | .next t => decide (t.node.state = .holdover ∧ t.chain.grant = none ∧
          t.node.reports = [.stateChanged .running .holdover (some 3) (some 3) none])
      | _ => false) = true := by decide

end Sys2Proof.Tests
end

