-- ==== Sys2Proof/Tests/Witnesses.lean ====
section
/-! SUPPORT. For each statement with hypotheses, a concrete state and operands that meet them together, and for a statement
of several clauses a witness of each. -/

namespace Sys2Proof.Tests

open Sys2Proof Sys2Proof.Machine

/-! ### A sound state: 7.13, the OFFER to zone 4 in flight -/

theorem offering_timeOk : offering.timeOk := by constructor <;> decide

theorem wall_shapely : wall.shapely := by constructor <;> decide

theorem offering_storeOk : offering.storeOk where
  active := wall_shapely
  shadow := wall_shapely
  valid := by decide
  generation := by decide
  commit := by intro c h; cases h

theorem trainA_ok : trainA.ok wall := by constructor <;> decide

theorem record3305_ok : record3305.ok wall := by constructor <;> decide

theorem offering_tableOk : offering.tableOk where
  size := by decide
  sorted := by decide
  keys := by decide
  records := by
    intro r hr
    rcases List.mem_cons.mp hr with rfl | hr
    · exact record3305_ok
    · rcases List.mem_cons.mp hr with rfl | hr
      · exact trainA_ok
      · cases hr

theorem cue57_ok (state : CueState) : (cue57 state).ok := by
  cases state <;> constructor <;> decide

theorem offering_cuesOk : offering.cuesOk where
  size := by decide
  ids := by decide
  apart := List.pairwise_singleton _ _
  sound := by
    intro c hc
    rw [List.mem_singleton.mp hc]
    exact cue57_ok .offered
  nextId := by decide

/-- Cues without a service key are never twins. -/
theorem apart_of_no_key : ∀ q : List Cue, (∀ c ∈ q, c.key = 0) → q.Pairwise fun a b => ¬ a.twins b
  | [], _ => List.Pairwise.nil
  | a :: q, h =>
    List.pairwise_cons.mpr
      ⟨fun _ _ ht => ht.1 (h a (by simp)), apart_of_no_key q fun c hc => h c (List.mem_cons_of_mem a hc)⟩

theorem preempting_cuesOk : preempting.cuesOk where
  size := by decide
  ids := by decide
  apart := apart_of_no_key _ (by decide)
  sound := by
    intro c hc
    rcases List.mem_cons.mp hc with rfl | hc
    · constructor <;> decide
    · rw [List.mem_singleton.mp hc]
      constructor <;> decide
  nextId := by decide

theorem fullQueue_cuesOk : fullQueue.cuesOk where
  size := by decide
  ids := by decide
  apart := apart_of_no_key _ (by decide)
  sound := by
    intro c hc
    obtain ⟨i, hi, rfl⟩ := List.mem_map.mp hc
    have hi := List.mem_range.mp hi
    constructor
    · simp only [cueOf]; omega
    case priority => simp only [cueOf]; split <;> decide
    all_goals simp only [cueOf]; decide
  nextId := by decide

theorem dueCue_cuesOk : dueCue.cuesOk where
  size := by decide
  ids := by decide
  apart := List.pairwise_singleton _ _
  sound := by
    intro c hc
    rw [List.mem_singleton.mp hc]
    exact cue57_ok .due
  nextId := by decide

/-- A cue that meets the cue check. -/
theorem cue_ok (c : Cue)
    (h : (decide (c.id < 256) && decide (c.zones ≠ 0#8) && decide (1 ≤ c.codes.length ∧ c.codes.length ≤ 16) &&
      c.codes.all (fun p => decide (p ≤ 4095)) && decide (c.release + 10 ≤ c.expiry ∧ c.expiry ≤ c.release + 1800) &&
      decide (c.expiry ≤ 172799) && decide (c.priority ≤ 7) && decide (1 ≤ c.playLimit ∧ c.playLimit ≤ 120)) = true) :
    c.ok := by
  simp only [Bool.and_eq_true, decide_eq_true_eq, List.all_eq_true] at h
  exact ⟨h.1.1.1.1.1.1.1, h.1.1.1.1.1.1.2, h.1.1.1.1.1.2.1, h.1.1.1.1.1.2.2, h.1.1.1.1.2, h.1.1.1.2.1, h.1.1.1.2.2,
    h.1.1.2, h.1.2, h.2.1, h.2.2⟩

/-- A queue of one sound cue is sound. -/
theorem oneCue_ok (s : State) (c : Cue) (hq : s.cues.queue = [c]) (hc : c.ok) (hn : s.cues.nextId < 256) : s.cuesOk where
  size := by rw [hq]; exact Nat.le_of_ble_eq_true rfl
  ids := by rw [hq]; exact List.pairwise_singleton _ _
  apart := by rw [hq]; exact List.pairwise_singleton _ _
  sound := by intro d hd; rw [hq] at hd; rw [List.mem_singleton.mp hd]; exact hc
  nextId := hn

/-- An empty queue is sound. -/
theorem noCue_ok (s : State) (hq : s.cues.queue = []) (hn : s.cues.nextId < 256) : s.cuesOk where
  size := by rw [hq]; decide
  ids := by rw [hq]; exact List.Pairwise.nil
  apart := by rw [hq]; exact List.Pairwise.nil
  sound := by intro d hd; rw [hq] at hd; cases hd
  nextId := hn

/-- Two sound cues of rising id, the first of them on the line, are a sound queue. -/
theorem twoCues_ok (s : State) (c d : Cue) (hq : s.cues.queue = [c, d]) (hc : c.ok) (hd : d.ok) (hw : c.waits = false)
    (hi : c.id < d.id) (hn : s.cues.nextId < 256) : s.cuesOk where
  size := by rw [hq]; exact Nat.le_of_ble_eq_true rfl
  ids := by rw [hq]; exact List.pairwise_pair.mpr hi
  apart := by rw [hq]; exact List.pairwise_pair.mpr fun h => by have := h.2.2.2.1; rw [hw] at this; cases this
  sound := by
    intro e he
    rw [hq] at he
    rcases List.mem_cons.mp he with rfl | he
    · exact hc
    · rw [List.mem_singleton.mp he]; exact hd
  nextId := hn

/-- Eight zones that meet the zone check one by one. -/
theorem zones_ok (l : List Zone)
    (h : (l.all fun z =>
      decide (z.holding = none ↔ z.state = .free ∨ z.state = .fault) && decide (z.miss ≤ 3) &&
        decide (z.state = .fault → z.miss = 3) &&
        decide (z.timer.isSome = true → z.state = .playing ∨ z.state = .fault) &&
        decide (z.pollDue = true → z.state = .playing ∨ z.state = .fault) &&
        decide (z.pendingAddr.isSome = true → z.state ≠ .free ∧ z.state ≠ .fault)) = true) : ∀ z ∈ l, z.ok := by
  intro z hz
  have hz := List.all_eq_true.mp h z hz
  simp only [Bool.and_eq_true, decide_eq_true_eq] at hz
  exact ⟨hz.1.1.1.1.1, hz.1.1.1.1.2, hz.1.1.1.2, hz.1.1.2, hz.1.2, hz.2⟩

theorem offering_lineOk : offering.line.ok where
  eight := by decide
  zones := zones_ok _ (by decide)
  seq := by decide
  stops := by intro n i h; cases h
  offer := by
    intro n a i h
    have h : LineStatus.transaction (.offer 4 9 57) = LineStatus.transaction (.offer n a i) := h
    cases h
    decide
  stop := by intro n a i h; cases h
  poll := by intro n a h; cases h
  quiet := by intro left h; cases h

/-- Every held zone of the state is held by a cue of the queue as R129 has it. -/
theorem held_accord (s : State)
    (h : ((List.range 8).all fun n => (s.line.zone n).holding.all fun i => s.cues.queue.any fun c =>
      decide (c.id = i ∧ c.zones.getLsbD n = true ∧ ((s.line.zone n).state = .offered → c.state = .offered) ∧
        ((s.line.zone n).state = .playing ∨ (s.line.zone n).state = .stopping → c.state = .playing))) = true) :
    ∀ n, n < 8 → ∀ i, (s.line.zone n).holding = some i →
      ∃ c ∈ s.cues.queue, c.id = i ∧ c.zones.getLsbD n = true ∧
        ((s.line.zone n).state = .offered → c.state = .offered) ∧
        ((s.line.zone n).state = .playing ∨ (s.line.zone n).state = .stopping → c.state = .playing) := by
  intro n hn i hi
  have h := List.all_eq_true.mp h n (List.mem_range.mpr hn)
  rw [hi] at h
  obtain ⟨c, hc, h⟩ := List.any_eq_true.mp h
  exact ⟨c, hc, of_decide_eq_true h⟩

theorem offering_accordOk : offering.accordOk where
  held := held_accord _ (by decide)
  borne := by decide
  offered := by
    intro c hc _
    rw [List.mem_singleton.mp hc]
    exact ⟨⟨57, []⟩, rfl, rfl⟩
  seq := by
    intro q h
    have h : some (⟨57, []⟩ : OfferSeq) = some q := h
    cases h
    decide
  offer := by
    intro n a i h
    have h : LineStatus.transaction (.offer 4 9 57) = LineStatus.transaction (.offer n a i) := h
    cases h
    exact ⟨⟨57, []⟩, rfl, rfl⟩
  start := by intro i h; cases h
  stop := by intro n a i h; cases h
  stops := by intro n i h; cases h

theorem offering_cuesRecent : offering.cuesRecent := by
  intro c hc
  rw [List.mem_singleton.mp hc]
  decide

/-- A line at rest over sound zones, with no work pending, is sound. -/
theorem restingLine_ok (l : LineCtl) (h8 : l.zones.length = 8) (hz : ∀ z ∈ l.zones, z.ok) (hs : l.status = .idle)
    (hj : l.jobs = []) (hq : l.seq = none) : l.ok where
  eight := h8
  zones := hz
  seq := by intro q h; rw [hq] at h; cases h
  stops := by intro n i h; rw [hj] at h; cases h
  offer := by intro n a i h; rw [hs] at h; cases h
  stop := by intro n a i h; rw [hs] at h; cases h
  poll := by intro n a h; rw [hs] at h; cases h
  quiet := by intro left h; rw [hs] at h; cases h

theorem dueCue_lineOk : dueCue.line.ok :=
  restingLine_ok _ (by decide) (zones_ok _ (by decide)) rfl rfl rfl

theorem preempting_lineOk : preempting.line.ok :=
  restingLine_ok _ (by decide) (zones_ok _ (by decide)) rfl rfl rfl

theorem offering_chainOk : offering.chainOk := by constructor <;> decide

theorem offering_ovrOk : offering.ovrOk := by constructor <;> decide

theorem offering_nodeOk : offering.nodeOk := by constructor <;> decide

/-! ### The queue of commands and the invariants -/

theorem witness_StepTakesTheFrontCommand :
    (running.setPending [.queryState, .frameStart]).pending = .queryState :: [.frameStart] := rfl

theorem witness_IdleStepIsOneReferenceTick :
    running.pending = [] ∧ running.node.state ≠ .powerUp ∧ lineHasWork running = false ∧ running.chain.upBreak = false ∧
      running.line.timer = 0 ∧ running.time.tickCount + 1 < running.time.cycleLength := by decide

theorem witness_StepKeepsTimeBaseAndClock : offering.timeOk ∧ step offering = .next (idleStep offering) :=
  ⟨offering_timeOk, rfl⟩

theorem witness_StepKeepsServiceTable : offering.storeOk ∧ offering.tableOk ∧ step offering = .next (idleStep offering) :=
  ⟨offering_storeOk, offering_tableOk, rfl⟩

/-- The sound state at the last second of the day, the day turn commanded. -/
def turningDay : State :=
  { offering with
    pending := [.dayTurn]
    time := { offering.time with second := 86399, clock := civilClock 150 86399 } }

theorem witness_StepKeepsCueQueue :
    (offering.storeOk ∧ offering.tableOk ∧ offering.cuesOk ∧ step offering = .next (idleStep offering)) ∧
      (offering.time.second ≠ 86399 ∧ (idleStep offering).time.day = offering.time.day ∧ offering.cuesRecent) ∧
      (turningDay.storeOk ∧ turningDay.tableOk ∧ turningDay.cuesOk ∧ (∀ c ∈ turningDay.cues.queue, 0 ≤ c.release) ∧
        ∃ t, step turningDay = .next t ∧ t.time.day = (turningDay.time.day + 1) % 65536) :=
  ⟨⟨offering_storeOk, offering_tableOk, offering_cuesOk, rfl⟩, ⟨by decide, rfl, offering_cuesRecent⟩,
    ⟨offering_storeOk.active, offering_storeOk.shadow, offering_storeOk.valid, offering_storeOk.generation,
      offering_storeOk.commit⟩,
    ⟨offering_tableOk.size, offering_tableOk.sorted, offering_tableOk.keys, offering_tableOk.records⟩,
    oneCue_ok _ _ rfl (cue57_ok .offered) (by decide), by decide, ⟨_, rfl, by decide⟩⟩

theorem witness_StepKeepsZonesAndLine :
    (offering.line.ok ∧ step offering = .next (idleStep offering)) ∧ offering.storeOk ∧ offering.tableOk ∧ offering.cuesOk ∧
      offering.accordOk :=
  ⟨⟨offering_lineOk, rfl⟩, offering_storeOk, offering_tableOk, offering_cuesOk, offering_accordOk⟩

theorem witness_StepKeepsActiveBankValid : offering.storeOk ∧ step offering = .next (idleStep offering) :=
  ⟨offering_storeOk, rfl⟩

theorem witness_StepKeepsChainAndOverride :
    offering.chainOk ∧ offering.ovrOk ∧ step offering = .next (idleStep offering) := ⟨offering_chainOk, offering_ovrOk, rfl⟩

theorem witness_StepKeepsNodeController :
    offering.storeOk ∧ offering.nodeOk ∧ step offering = .next (idleStep offering) := ⟨offering_storeOk, offering_nodeOk, rfl⟩

/-- A JOINING node, whose table and queue must be empty. -/
theorem witness_StepKeepsRestingNodeEmpty :
    (inState .joining).restOk ∧ (inState .joining).node.state ≠ .running ∧ (inState .joining).node.state ≠ .holdover ∧
      step (inState .joining) = .next (idleStep (inState .joining)) :=
  ⟨fun _ _ => ⟨rfl, rfl⟩, by decide, by decide, rfl⟩

/-! ### Departure arithmetic and rules -/

theorem witness_CountdownRoundsUp :
    (0 < remainingSeconds trainA 76640 ∧ 0 < remainingSeconds trainA 77339) ∧ remainingSeconds trainA 77340 ≤ 0 ∧
      ({ trainA with cancelled := true } : ServiceRecord).cancelled = true ∧ ({ trainA with delay := none } : ServiceRecord).delay = none ∧
      ((-1440 : Int) ≤ 2879 ∧ (2879 : Int) ≤ 2879 ∧ (0 : Nat) ≤ 86399 ∧
        countdown { trainA with sm := 2879, delay := some 999 } 0 = 3878) := by decide

theorem witness_ClockShowsCivilSecond : offering.timeOk := offering_timeOk

theorem witness_ValueTestComparesDirectly :
    (wall.rule 2).field = .always ∧ ((wall.rule 0).field = .delay ∧ trainA.delay = some 7 ∧ (wall.rule 0).comparison = .ge) ∧
      ((wall.rule 1).field = .countdown ∧ countdown trainA 76640 = 12 ∧ (wall.rule 1).comparison = .le) ∧
      ((wall.rule 3).field = .opClass ∧ (trainA.opClass : Int) = 3 ∧ (wall.rule 3).comparison = .eq) ∧
      (-1024 ≤ (wall.rule 0).constant ∧ (wall.rule 0).constant ≤ 4095) ∧
      ((ruleOf .countdown .ge (-1024) 0#6 .ignore none none).field = .countdown ∧
        (ruleOf .countdown .ge (-1024) 0#6 .ignore none none).constant = -1024) ∧
      ((wall.rule 0).field = .delay ∧ ({ trainA with delay := none } : ServiceRecord).delay = none ∧ wall.rule 0 = wall.rule 0) ∧
      ((ruleOf .platform .ne 5 0#6 .ignore none none).field = .platform ∧
        ({ trainA with platform := none } : ServiceRecord).platform = none) := by decide

/-- A bank whose rule 5 is ANY SET with an empty mask. -/
def anySetBank : Bank := { wall with rules := put 5 (ruleOf .always .eq 0 0#6 .anySet none none) wall.rules }

theorem witness_FlagTestFollowsSense :
    (wall.rule 2).sense = .allSet ∧ (wall.rule 1).sense = .noneSet ∧ (wall.rule 0).sense = .ignore ∧
      ((5 : Nat) < 32 ∧ (anySetBank.rule 5).sense = .anySet ∧ (anySetBank.rule 5).flagMask = 0#6) := by decide

theorem witness_EvaluationSetsMatchesAndNotice :
    (decideRules wall 76640 trainA).notice = some 415 ∧ (3 : Nat) < 32 ∧ ruleMatches wall 76640 trainA 3 = true ∧
      (0#32).getLsbD 3 = false ∧ (decideRules wall 76640 record3305).notice = none := by decide

/-! ### Power, resets and the node controller -/

theorem witness_PowerOnGivesEveryBlockItsValues : State.reset.node.state = .powerUp := rfl

theorem witness_ResetsActAlikeOnEveryBlock :
    running.node.state = .running ∧
      ((inState .holdover).node.state ≠ .joining ∧ (inState .holdover).node.state ≠ .running) ∧
      (let s := { running with chain := { running.chain with upBreak := true, breakLength := 1499999, downBreak := true } }
       s.node.state ≠ .powerUp ∧ s.chain.upBreak = true ∧ s.chain.breakLength < 1500000) := by decide

theorem witness_LinkLossFollowsNodeState :
    State.reset.node.state = .powerUp ∧ (running.chain.upSilence < 3 ∧ running.node.state = .running) ∧
      ((inState .joining).chain.upSilence < 3 ∧ (inState .joining).node.state = .joining) ∧
      ((inState .isolated).chain.upSilence < 3 ∧ (inState .isolated).node.state = .isolated) := by decide

theorem witness_HoldoverLimitIsolates :
    ({ offering with node := { offering.node with state := .holdover, holdover := 899 } } : State).node.state = .holdover ∧
      offering.line.zones.length = 8 := by decide

theorem witness_QueriesQueueOneAnswer :
    listed.node.state = .running ∧ (∀ r ∈ listed.table, r.key ≠ 777) ∧ listed.table[1]? = some trainA ∧
      (∀ j, j < 1 → ∀ q, listed.table[j]? = some q → q.key ≠ trainA.key) := by decide

/-- The node with four keys watched. -/
def watching : State := { listed with node := { listed.node with watch := [10, 11, 12, 13] } }

theorem witness_ControlsActOnAttentionAndWatch :
    listed.node.state = .running ∧ (∃ r ∈ listed.table, r.key = 4172) ∧ (∀ r ∈ listed.table, r.key ≠ 777) ∧
      ((10 : Nat) ≠ 0 ∧ 10 ∈ watching.node.watch) ∧ (777 ∉ listed.node.watch ∧ listed.node.watch.length < 4) ∧
      (777 ∉ watching.node.watch ∧ watching.node.watch.length = 4) ∧
      ((inState .holdover).node.state ≠ .joining ∧ (inState .holdover).node.state ≠ .running) := by decide

/-! ### The time base -/

/-- The node in cycle 63, with the accumulator and the fraction of 5.3.1. -/
def cycle63 (second : Nat) : State :=
  { running with
    time := { running.time with cycle := 63, accumulator := 12, trimFrac := 12, second := second, clock := civilClock 150 second
                                tickCount := 187500 } }

/-- Cue 57 playing, one cycle short of its limit where `last` is set, zone 4's poll timer as given, and the POLL of zone 4 in
flight where `polled` is set; the oldest report waits. -/
def cycling (last : Bool) (timer : Nat) (polled : Bool) : State :=
  { playing57 with
    chain := { playing57.chain with upSilence := 0, downSilence := 0 }
    node := { playing57.node with reports := [.notFound 5] }
    cues := { queue := [{ cue57 .playing with playCount := if last then 25 * 64 - 1 else 7 }], nextId := 58 }
    line :=
      { playing57.line with
        zones := put 4 { held 4 .playing 57 with timer := some timer } playing57.line.zones
        status := if polled then .transaction (.poll 4 9) else .idle } }

/-- A node with its silence counts at 2 and a downstream partner. -/
def nearSilence : State :=
  { running with chain := { running.chain with upSilence := 2, downSilence := 2, chainEnd := false, partnerSeen := true } }

theorem witness_BoundaryStartsNextCycle :
    (running.time.cycle < 64 ∧ running.time.accumulator + running.time.trimFrac < 16 ∧ running.time.cycle ≠ 63) ∧
      ((cycle63 500).time.cycle < 64 ∧ 16 ≤ (cycle63 500).time.accumulator + (cycle63 500).time.trimFrac ∧
        (cycle63 500).time.cycle = 63 ∧ (cycle63 500).time.second ≠ 86399) ∧
      ((cycle63 86399).time.cycle = 63 ∧ (cycle63 86399).time.second = 86399) ∧
      (nearSilence.node.state ≠ .powerUp ∧ nearSilence.chain.upSilence = 2 ∧ nearSilence.chain.downSilence = 2 ∧
        nearSilence.chain.partnerSeen = true ∧ nearSilence.chain.chainEnd = false) ∧
      (let s := cycling true 3 false
       s.node.state ≠ .powerUp ∧ s.time.cycle ≠ 63 ∧ s.store.commit = none ∧ s.chain.upSilence ≤ 3 ∧ s.chain.downSilence ≤ 3 ∧
         (s.line.zone 4).state = .playing ∧ (∃ c ∈ s.cues.queue, (s.line.zone 4).holding = some c.id ∧
           c.state = .playing ∧ c.playCount + 1 = c.playLimit * 64) ∧
         (s.chain.upSilence ≠ 2 ∧ s.chain.downSilence ≠ 2 ∧ s.chain.chainEnd = true ∧ s.node.state ≠ .positionFault ∧
           s.chain.position = some 3 ∧ s.node.reports = .notFound 5 :: [])) ∧
      (let s := cycling false 1 false
       (∀ c ∈ s.cues.queue, c.playCount + 1 ≠ c.playLimit * 64) ∧ (s.line.zone 4).state = .playing ∧
         (s.line.zone 4).timer = some (0 + 1) ∧ (s.line.zone 0).state = .free) ∧
      ((((cycling false 0 false).line.zone 4).timer = some 0 ∧ (cycling false 0 false).line.status = .idle) ∧
        ((cycling false 0 true).line.zone 4).timer = some 0 ∧
        (cycling false 0 true).line.status = .transaction (.poll 4 9)) := by decide

theorem witness_FrameStartMergesOrStartsCycle :
    (running.chain.upBreak = false ∧ running.time.tickCount < 187500) ∧
      ({ running with time := { running.time with tickCount := 187499 } } : State).time.tickCount < 187500 ∧
      ((cycle63 86399).chain.upBreak = false ∧ 187500 ≤ (cycle63 86399).time.tickCount ∧ (cycle63 86399).time.cycle < 64) := by
  decide

/-- The node at the last second before the day turn. -/
def lastSecond : State := { running with time := { running.time with second := 86399, clock := civilClock 150 86399 } }

theorem lastSecond_timeOk : lastSecond.timeOk := by constructor <;> decide

/-- The node at civil 23:59:59. -/
def beforeMidnight : State := { running with time := { running.time with second := 77399, clock := civilClock 150 77399 } }

theorem beforeMidnight_timeOk : beforeMidnight.timeOk := by constructor <;> decide

theorem witness_SecondTickAdvancesClock :
    (offering.timeOk ∧ offering.time.second < 86399) ∧ (lastSecond.timeOk ∧ lastSecond.time.second = 86399) ∧
      (beforeMidnight.timeOk ∧ beforeMidnight.time.clock = ⟨2, 3, 5, 9, 5, 9⟩) :=
  ⟨⟨offering_timeOk, by decide⟩, ⟨lastSecond_timeOk, rfl⟩, beforeMidnight_timeOk, by decide⟩

/-- The listed node under a bank whose rules are all out of use. -/
def ruleless : State :=
  { listed with store := { listed.store with active := { wall with rules := emptyBank.rules } } }

theorem ruleless_names_no_template (n : Nat) : (ruleless.bank.rule n).template = none := by
  change ((List.replicate 32 emptyRule).getD n emptyRule).template = none
  rw [List.getD_eq_getElem?_getD, List.getElem?_replicate]
  split <;> rfl

/-- The ruleless node with one cue past its expiry, one WAITING that this tick releases, and one DUE without a usable zone. -/
def cuesAtTick : State :=
  { ruleless with
    cues :=
      { queue := [cueOf 3 1 1#8 76000 76640 .due, cueOf 4 1 1#8 76641 76900 .waiting, cueOf 5 1 0x80#8 76000 76900 .due]
        nextId := 6 } }

/-- The ruleless node in HOLDOVER with the count given. -/
def holding (count : Nat) : State := { ruleless with node := { ruleless.node with state := .holdover, holdover := count } }

theorem witness_SecondTickRenewsServiceTable :
    ((listed.table.Pairwise fun a b => a.key ≠ b.key) ∧ listed.node.state ≠ .holdover ∧ lastSecond.time.second = 86399) ∧
      ((∀ n, (cuesAtTick.bank.rule n).template = none) ∧ cuesAtTick.node.watch = [] ∧ cuesAtTick.time.second = 76640 ∧
        usableZones cuesAtTick.line 0x80#8 = [] ∧ usableZones cuesAtTick.line 1#8 ≠ []) ∧
      ((holding 5).node.state = .holdover ∧ (holding 5).node.holdover + 1 < (holding 5).bank.params.holdoverLimit ∧
        (∀ n, ((holding 5).bank.rule n).template = none) ∧ (holding 5).node.watch = []) ∧
      ((holding 899).node.state = .holdover ∧ (holding 899).bank.params.holdoverLimit ≤ (holding 899).node.holdover + 1 ∧
        (holding 899).line.zones.length = 8 ∧ (holding 899).table.Pairwise fun a b => a.key ≠ b.key) :=
  ⟨by decide, ⟨ruleless_names_no_template, by decide⟩, ⟨by decide, by decide, ruleless_names_no_template, by decide⟩,
    by decide⟩

theorem witness_DayTurnLowersTableAndCues :
    (lastSecond.time.second = 86399 ∧ lastSecond.timeOk) ∧ running.time.second ≠ 86399 :=
  ⟨⟨rfl, lastSecond_timeOk⟩, by decide⟩

/-- A trim window about to close. -/
def windowOpen (excursion : Bool) : State :=
  { running with time := { running.time with window := some ⟨16, 0⟩, excursion := excursion } }

theorem witness_TrimWindowAcceptedOrRejected :
    (windowOpen false).time.window.isSome = true ∧ (374925 ≤ 5998800 / 16 ∧ 5998800 / 16 ≤ 375075) ∧
      (374925 ≤ 6001215 / 16 ∧ 6001215 / 16 ≤ 375075) ∧ (5998799 / 16 < 374925 ∧ 375075 < 6001216 / 16) ∧
      ((windowOpen false).time.excursion = false ∧ (windowOpen true).time.excursion = true) := by decide

theorem witness_MarkClassByFirstLine :
    (running.time.day < 65536 ∧ (812 : Nat) < 65536 ∧ running.time.second ≤ 86399 ∧ (76760 : Nat) ≤ 86399 ∧
        ((0 : Int) - ((812 : Nat) - (running.time.day : Int))) % 65536 = 0 ∧ classifyMark running.time 812 76760 = .shortStep) ∧
      (((1 : Int) - ((813 : Nat) - (running.time.day : Int))) % 65536 = 0 ∧ classifyMark running.time 813 76640 = .longStep) ∧
      classifyMark running.time 812 76639 = .setBack ∧ classifyMark running.time 812 76940 = .shortStep ∧
      classifyMark running.time 812 76941 = .longStep ∧ classifyMark running.time 813 76641 = .dateJump ∧
      classifyMark running.time 811 76640 = .dateJump ∧
      ({ running.time with day := 65535 } : TimeBase).day = 65535 := by decide

theorem running_timeOk : running.timeOk := by constructor <;> decide

/-- JOINING with the set-pending flag raised and the generation given. -/
def unset (generation : Nat) : State :=
  { inState .joining with
    time := { running.time with setPending := true }, store := { running.store with generation := generation } }

theorem unset_timeOk : (unset 6).timeOk ∧ (unset 0).timeOk := by constructor <;> constructor <;> decide

theorem ruleless_timeOk : ruleless.timeOk := by constructor <;> decide

/-- The cycle 0 frame with hop count 2 and the mark given, taken apart. -/
def markedFrame (day sec : Nat) : ParsedFrame :=
  { cycle := 0, mark := some (day, sec), hop := 2, grant := some 3, messages := [] }

theorem markedFrame_parses :
    parseFrame (frameOf 0x40 2 3 812 76760) = some (markedFrame 812 76760) ∧
      parseFrame (frameOf 0x40 2 3 812 76640) = some (markedFrame 812 76640) ∧
      parseFrame (frameOf 0x40 2 3 812 76600) = some (markedFrame 812 76600) ∧
      parseFrame (frameOf 0x40 2 3 812 77640) = some (markedFrame 812 77640) ∧
      parseFrame (frameOf 0x40 2 3 813 100) = some (markedFrame 813 100) ∧
      parseFrame (frameOf 0x40 2 3 900 10) = some (markedFrame 900 10) := by decide +kernel

/-- A mark of each class, one that steps nothing, and a LONG STEP that crosses the day turn. -/
theorem witness_TimeMarkSetsClock :
    (ruleless.timeOk ∧ ruleless.node.state = .running ∧ ruleless.chain.upBreak = false ∧ (76760 : Nat) ≤ 86399 ∧
        parseFrame (frameOf 0x40 2 3 812 76760) = some (markedFrame 812 76760) ∧
        (markedFrame 812 76760).messages = [] ∧ (markedFrame 812 76760).hop + 1 ≤ 48 ∧
        (markedFrame 812 76760).cycle = ruleless.time.cycle) ∧
      (ruleless.time.setPending = false ∧ (ruleless.table.Pairwise fun a b => a.key ≠ b.key) ∧
        ruleless.chain.position = some ((markedFrame 812 76760).hop + 1) ∧ ruleless.node.watch = [] ∧
        (∀ n, (ruleless.bank.rule n).template = none)) ∧
      (classifyMark ruleless.time 812 76640 = .none ∧ classifyMark ruleless.time 900 10 = .dateJump ∧
        classifyMark ruleless.time 812 76600 = .setBack ∧ classifyMark ruleless.time 812 76760 = .shortStep ∧
        classifyMark ruleless.time 812 77640 = .longStep ∧ classifyMark ruleless.time 813 100 = .longStep ∧
        dayDifference ruleless.time.day 813 = 1) ∧
      ((unset 6).timeOk ∧ (unset 0).timeOk ∧ (unset 6).node.state = .joining ∧ (unset 6).time.setPending = true ∧ (unset 6).time.cycle = 0 ∧
        (unset 6).store.generation ≠ 0 ∧ (unset 0).store.generation = 0) :=
  ⟨⟨ruleless_timeOk, by decide, by decide, by decide, markedFrame_parses.1, by decide, by decide, by decide⟩,
    ⟨by decide, by decide, by decide, by decide, ruleless_names_no_template⟩, by decide,
    ⟨unset_timeOk.1, unset_timeOk.2, by decide, by decide, by decide, by decide, by decide⟩⟩

/-! ### The chain interface -/

/-- A frame of cycle 7 without a mark, taken apart. -/
def plainFrame (hop : Nat) : ParsedFrame := { cycle := 7, mark := none, hop := hop, grant := some 5, messages := [] }

theorem plainFrame_parses :
    parseFrame (frameOf 7 4 5 0 0) = some (plainFrame 4) ∧ parseFrame (frameOf 7 47 5 0 0) = some (plainFrame 47) ∧
      parseFrame (frameOf 7 48 5 0 0) = some (plainFrame 48) ∧ parseFrame ((frameOf 7 4 5 0 0).set 3 6#8) = none := by
  decide +kernel

theorem witness_FailingFrameOnlyClearsGrant :
    running.node.state ≠ .powerUp ∧ running.chain.upBreak = false ∧ parseFrame ((frameOf 7 4 5 0 0).set 3 6#8) = none :=
  ⟨by decide, rfl, plainFrame_parses.2.2.2⟩

/-- The message that withdraws 4172 at the address given, and a frame of cycle 0 that carries it. -/
def withdrawMessage (address : Nat) : RawMessage := { kind := 3, address := address, body := [0x10#8, 0x4C#8] }

/-- The frame, its check worked out. -/
def messageFrame (address : Nat) : List Byte :=
  let front : List Byte := [0#8, 2#8, ~~~ 2#8, 3#8, 1#8, 0#8, 0#8, 0#8, 0#8, 0#8, 3#8, toByte address, 2#8, 0x10#8, 0x4C#8]
  front ++ toBytes32 (crc32 (checkedBytes (front ++ [0#8, 0#8, 0#8, 0#8])))

theorem messageFrame_parses :
    parseFrame (messageFrame 3) =
      some { cycle := 0, mark := none, hop := 2, grant := some 3, messages := [withdrawMessage 3] } := by decide +kernel

/-- A frame of cycle 32, taken apart. -/
theorem frame32_parses : parseFrame (frameOf 32 4 5 0 0) = some { plainFrame 4 with cycle := 32 } := by decide +kernel

/-- The node in an own cycle. -/
def atCycle (n : Nat) : State := { running with time := { running.time with cycle := n } }

theorem witness_ValidFrameGivesPositionAndState :
    (running.node.state ≠ .powerUp ∧ running.chain.upBreak = false ∧ parseFrame (frameOf 7 47 5 0 0) = some (plainFrame 47) ∧
        parseFrame (frameOf 7 48 5 0 0) = some (plainFrame 48)) ∧
      ((plainFrame 4).mark = none ∧ (plainFrame 4).messages = [] ∧ (plainFrame 47).hop + 1 ≤ 48 ∧ 48 < (plainFrame 48).hop + 1) ∧
      ((inState .awaitChain).node.state = .awaitChain ∧ (inState .isolated).node.state = .isolated ∧
        (inState .holdover).node.state = .holdover ∧ (inState .joining).node.state = .joining ∧
        (inState .positionFault).node.state = .positionFault) ∧
      (listed.node.state = .running ∧ listed.chain.position = some (2 + 1) ∧ listed.time.cycle = 0) ∧
      (parseFrame (frameOf 32 4 5 0 0) = some { plainFrame 4 with cycle := 32 } ∧ (atCycle 32).time.cycle = 32 ∧
        32 < (atCycle 33).time.cycle ∧ (atCycle 31).time.cycle < 32 ∧ (atCycle 33).node.state ≠ .powerUp ∧
        (atCycle 33).chain.upBreak = false) ∧
      (addressedAs listed (withdrawMessage 3).address .position ∧ addressedAs listed 0x80 .all ∧
        (∀ mode, ¬addressedAs listed 5 mode) ∧
        messageCommand .position (withdrawMessage 3) = some (.serviceWithdraw .position 4172) ∧
        messageCommand .position { withdrawMessage 3 with body := [1#8] } = none) :=
  ⟨⟨by decide, rfl, plainFrame_parses.2.1, plainFrame_parses.2.2.1⟩, by decide, by decide, by decide,
    ⟨frame32_parses, by decide⟩, .inl (by decide), .inr (.inr (by decide)), by intro mode; cases mode <;> unfold addressedAs <;> decide, by decide,
    by decide⟩

theorem witness_ForwardingChangesHopFieldAlone :
    parseFrame (frameOf 7 4 5 0 0) = some (plainFrame 4) ∧ hopAgrees ((frameOf 7 4 5 0 0).set 3 6#8) = true ∧
      parseFrame ((frameOf 7 4 5 0 0).set 3 6#8) = none ∧
      (hopAgrees ((frameOf 7 4 5 0 0).set 2 0#8) = false ∧ 3 ≤ ((frameOf 7 4 5 0 0).set 2 0#8).length) :=
  ⟨plainFrame_parses.1, by decide, plainFrame_parses.2.2.2, by decide⟩

theorem witness_ChainPortEvents :
    (running.node.state ≠ .powerUp ∧ running.chain.chainEnd = true ∧ running.ports.upLeft = 0) ∧
      (0 < ({ running with ports := { running.ports with upLeft := 7980 } } : State).ports.upLeft) ∧
      (let s := { running with chain := { running.chain with chainEnd := false, partnerSeen := true } }
       s.chain.chainEnd = false ∧ s.chain.downSilence < 3 ∧ s.chain.partnerSeen = true) ∧
      (running.chain.downSilence < 3 ∧ running.chain.partnerSeen = false) ∧ running.chain.upBreak = false := by decide

/-- The node with two reports queued, the loss flag set, and the grant at its own position or none. -/
def reporting (grant : Option Nat) : State :=
  { running with
    chain := { running.chain with grant := grant }
    node := { running.node with reports := [.notFound 5, .full 6], loss := true } }

theorem witness_UpstreamFramePlacesOldestReport :
    ((reporting (some 3)).node.state ≠ .powerUp ∧ (reporting (some 3)).node.state ≠ .positionFault ∧
        (reporting (some 3)).chain.position = some 3 ∧ (1 : Nat) ≤ 3 ∧ (3 : Nat) ≤ 48 ∧
        (reporting (some 3)).node.reports = .notFound 5 :: [.full 6] ∧ upFrame.length = 133) ∧
      ((reporting (some 3)).chain.grant = some 3 ∧ (upFrame.getD 1 0#8).getLsbD 7 = false) ∧
      ((reporting none).chain.grant ≠ some 3 ∧ (upFrame.getD 33 0#8).getLsbD 7 = false) ∧
      (carriedCheck upFrame = crc32 (upFrame.take 129) ∧ carriedCheck (upFrame.set 5 1#8) ≠ crc32 ((upFrame.set 5 1#8).take 129)) ∧
      (let full := ((upFrame.set 33 0x80#8).set 65 0x80#8).set 97 0x80#8
       full.length = 133 ∧ (full.getD 33 0#8).getLsbD 7 = true ∧ (full.getD 65 0#8).getLsbD 7 = true ∧
         (full.getD 97 0#8).getLsbD 7 = true) := by decide +kernel

/-! ### The service list unit -/

theorem witness_ServiceMessagesRefusedOrIgnored :
    (inState .holdover).node.state ≠ .running ∧ listed.node.state = .running ∧
      ((postOf 0 0 none).key = 0 ∧ (postOf 1 (-1441) none).sm < -1440 ∧ 2879 < (postOf 1 2880 none).sm) ∧
      (∀ r ∈ listed.table, r.key ≠ 777) ∧
      (let b := { postOf 777 1300 none with platform := 20 }
       postBad b = false ∧ (selectRecord listed.bank.selection (normPlatform b.platform) b.opClass).1 = 0#4) ∧
      (let b := { postOf 4172 1300 none with platform := 20 }
       postBad b = false ∧ (selectRecord listed.bank.selection (normPlatform b.platform) b.opClass).1 = 0#4 ∧
         listed.findRecord b.key = some trainA) := by decide

/-- The listed node with a waiting CHANGE cue of train A, and 3305 and 4172 watched. -/
def waitingCall : State :=
  { listed with
    node := { listed.node with watch := [3305, 4172] }
    cues :=
      { queue := [{ cueOf 42 5 0b10#8 76640 76760 .due with source := .change, key := 4172, template := some 5 }]
        nextId := 43 } }

theorem waitingCall_cuesOk : waitingCall.cuesOk := oneCue_ok _ _ rfl (cue_ok _ (by decide)) (by decide)

theorem listed_cuesOk : listed.cuesOk := noCue_ok _ rfl (by decide)

theorem ruleless_cuesOk : ruleless.cuesOk := noCue_ok _ rfl (by decide)

/-- A post that creates a record, under rules that name templates and under none, and one that restates train A, on
platform 11 and cancelled. -/
theorem witness_PostCreatesRecordInPlace :
    (listed.node.state = .running ∧ postBad (postOf 777 1250 none) = false ∧ (∀ r ∈ listed.table, r.key ≠ 777) ∧
        listed.table.length < 96 ∧ (selectRecord listed.bank.selection (normPlatform 7) 3).1 ≠ 0#4) ∧ listed.cuesOk ∧
      (ruleless.node.state = .running ∧ ruleless.table = listed.table ∧
        (selectRecord ruleless.bank.selection (normPlatform 7) 3).1 ≠ 0#4 ∧
        ∀ n, (ruleless.bank.rule n).template = none) ∧
      (let b := { postOf 4172 1300 (some 9) with platform := 11, cancelled := true }
       waitingCall.node.state = .running ∧ postBad b = false ∧ waitingCall.findRecord b.key = some trainA ∧
         (selectRecord waitingCall.bank.selection (normPlatform b.platform) b.opClass).1 ≠ 0#4 ∧
         builtInAsks waitingCall trainA b.cancelled (normPlatform b.platform) = [(.cancel, none), (.change, some 5)]) ∧
      waitingCall.cuesOk :=
  ⟨by decide, listed_cuesOk, ⟨by decide, by decide, by decide, ruleless_names_no_template⟩, by decide, waitingCall_cuesOk⟩

/-- A request that finds each end: outside RUNNING or without a template, a template out of use, no zone, an expiry past
172799, an expiry before S, a cue of its key and template waiting, and room. -/
theorem witness_RequestTaken :
    ((inState .joining).node.state ≠ .running ∧ listed.node.state = .running) ∧
      (listed.bank.templates.getD 3 emptyTemplate).inUse = false ∧
      (let r := { trainA with platform := some 20 }
       (listed.bank.templates.getD 12 emptyTemplate).inUse = true ∧ languageGives listed callTemplate (some r) ≠ [] ∧
         (requestedCue listed (.rule 1) r.key 12 (some r) 0).zones = 0#8) ∧
      (let r := { trainA with sm := 2879 }
       (requestedCue listed (.rule 1) r.key 12 (some r) 0).zones ≠ 0#8 ∧
         172799 < (requestedCue listed (.rule 1) r.key 12 (some r) 0).expiry) ∧
      (let r := { trainA with sm := 1200 }
       (requestedCue listed (.rule 1) r.key 12 (some r) 0).expiry < (listed.time.second : Int)) ∧
      (let c := requestedCue waitingCall .change 4172 5 (some { trainA with previous := some 11 }) 0
       c.zones = 0b1110#8 ∧ c.codes = [200, 120, 201, 607, 202, 611, 1224, 1144, 1225, 1631, 1226, 1635] ∧
         c.expiry ≤ 172799 ∧ (waitingCall.time.second : Int) ≤ c.expiry ∧
         (∃ x ∈ waitingCall.cues.queue, c.key ≠ 0 ∧ x.key = c.key ∧ x.template = c.template ∧ x.waits = true)) ∧
      (listed.cues.queue = [] ∧ FirstFreeId listed.cues.queue listed.cues.nextId 0) :=
  ⟨by decide, by decide, by decide, by decide, by decide, by decide, rfl, 0, rfl, by decide, by decide⟩

/-- The last record of the full table. -/
def last901 : ServiceRecord := { trainA with key := 901, sm := 2754, delay := some 0 }

theorem witness_PostOnFullTableEvictsLast :
    fullTable.node.state = .running ∧ fullTable.table.length = 96 ∧ fullTable.table.getLast? = some last901 ∧
      (postBad (postOf 2222 2744 (some 10)) = false ∧ (∀ r ∈ fullTable.table, r.key ≠ 2222) ∧
        (selectRecord fullTable.bank.selection (normPlatform 7) 3).1 ≠ 0#4 ∧
        before (postRecord (postOf 2222 2744 (some 10)) (0b0101#4, true)) last901 = true) ∧
      (postBad (postOf 600 2755 (some 0)) = false ∧ (∀ r ∈ fullTable.table, r.key ≠ 600) ∧
        before (postRecord (postOf 600 2755 (some 0)) (0b0101#4, true)) last901 = false) ∧
      fullTable.node.reports.length < 16 := by decide

/-- Train A on platform 11, moved from platform 7 (1.11). -/
def moved : State :=
  { running with table := [{ trainA with platform := some 11, previous := some 7, attention := 75, boards := 0b0110#4 }] }

theorem witness_AmendChangesPlatform :
    (listed.node.state = .running ∧ listed.findRecord 4172 = some trainA ∧ normPlatform 11 ≠ trainA.platform ∧
        (selectRecord listed.bank.selection (normPlatform 11) trainA.opClass).1 ≠ 0#4 ∧ trainA.platform ≠ none ∧
        ¬(0 < trainA.attention ∧ trainA.previous = normPlatform 11)) ∧
      ((selectRecord listed.bank.selection (normPlatform 20) trainA.opClass).1 = 0#4 ∧ normPlatform 20 ≠ trainA.platform) ∧
      normPlatform 0 = none ∧
      (∃ old, moved.findRecord 4172 = some old ∧ normPlatform 7 ≠ old.platform ∧ 0 < old.attention ∧
        old.previous = normPlatform 7) ∧
      (∃ old, ({ running with table := [{ trainA with platform := none }] } : State).findRecord 4172 = some old ∧
        old.platform = none ∧ normPlatform 7 ≠ old.platform) ∧
      ({ trainA with cueEnabled := false } : ServiceRecord).cueEnabled = false ∧ waitingCall.cuesOk ∧
      (waitingCall.findRecord 4172 = some trainA ∧
        builtInAsks waitingCall trainA false (normPlatform 11) = [(.change, some 5)]) :=
  ⟨by decide, by decide, by decide, ⟨_, rfl, by decide⟩, ⟨_, rfl, by decide⟩, rfl, waitingCall_cuesOk, by decide⟩

theorem witness_AmendReplacesPresentFields :
    (waitingCall.node.state = .running ∧ waitingCall.findRecord 4172 = some trainA ∧ trainA.boards ≠ 0#4) ∧
      waitingCall.cuesOk ∧ builtInAsks waitingCall trainA true trainA.platform = [(.cancel, none)] :=
  ⟨by decide, waitingCall_cuesOk, by decide⟩

theorem witness_WithdrawDropsRecordAndItsCues :
    dueCue.node.state = .running ∧ dueCue.findRecord 3305 = some record3305 := by decide

theorem witness_AttentionExpiresAndRecordsRetire :
    (∃ r ∈ ({ running with table := [{ trainA with attention := 1, previous := some 6 }] } : State).table,
        r.key = 4172 ∧ r.attention = 1) ∧
      retirementRemaining trainA 77400 ≤ -(wall.params.grace : Int) * 60 := by decide

/-! ### The row composer -/

theorem witness_NoticeSetReplacesStandingNotices :
    (inState .joining).node.state ≠ .running ∧ running.node.state = .running ∧
      (({ boards := 0#4, phrases := [] } : NoticeBody).boards = 0#4 ∧
        8 < ({ boards := 1#4, phrases := List.replicate 9 500 } : NoticeBody).phrases.length) ∧
      (let b : NoticeBody := { boards := 1#4, phrases := [500, 501] }
       b.boards ≠ 0#4 ∧ b.phrases.length ≤ 8 ∧ ∀ p ∈ b.phrases, p ≤ 1023) := by decide

theorem witness_CompositionSendsWhatDiffers :
    (running.node.state ≠ .powerUp ∧ running.time.cycle ≠ 32 ∧ running.rows.fullDue = false) ∧
      (atCycle 32).time.cycle = 32 ∧
      (let s : State := { atCycle 33 with rows := { running.rows with fullDue := true } }
       s.node.state ≠ .powerUp ∧ s.time.cycle ≠ 32 ∧ s.rows.fullDue = true) := by decide

/-- The node with page 3 over board 0 (8.11). -/
def overridden : State := { running with ovr := overrideOf level2 }

theorem witness_RowsFollowClockAndOverride :
    ((wall.rowMap.getD 6 emptyRow).inUse = false) ∧
      ((wall.rowMap.getD 0 emptyRow).inUse = true ∧ (wall.rowMap.getD 0 emptyRow).role = .clock) ∧
      (running.time.synchronised = true ∧ State.reset.time.synchronised = false ∧ (inState .isolated).node.state = .isolated) ∧
      ((wall.rowMap.getD 1 emptyRow).role ≠ .clock ∧
        (decide (overridden.ovr.level ≠ 0) && overridden.ovr.boards.getLsbD (wall.rowMap.getD 1 emptyRow).board) = true ∧
        (wall.pages.getD 12 emptyPage).rowCount = 2) ∧
      (decide (running.ovr.level ≠ 0) && running.ovr.boards.getLsbD 0) = false ∧
      ((wall.rowMap.getD 1 emptyRow).role = .rank 1 ∧ (wall.rowMap.getD 3 emptyRow).role = .rank 3 ∧
        (listed.table.filter fun r => r.boards.getLsbD 0)[1 - 1]? = some record3305 ∧
        (listed.table.filter fun r => r.boards.getLsbD 0).length < 3) ∧
      ((wall.rowMap.getD 4 emptyRow).role = .notice ∧ (wall.rowMap.getD 5 emptyRow).role = .fixed 300 ∧
        ({ emptyRow with inUse := true, role := .blank } : RowEntry).role = .blank) := by decide

/-! ### The cue scheduler -/

theorem witness_CuePostJoinsQueue :
    (inState .joining).node.state ≠ .running ∧ dueCue.node.state = .running ∧ cuePostBad (cuePostOf 8) = true ∧
      (cuePostBad { cuePostOf 1 with zones := 0b10000000#8 } = false ∧ 0b10000000#8 &&& dueCue.bank.zonesInUse = 0#8) ∧
      (cuePostBad (cuePostOf 1) = false ∧ (cuePostOf 1).zones &&& dueCue.bank.zonesInUse ≠ 0#8 ∧ dueCue.time.second ≤ 86399 ∧
        dueCue.cues.queue.length < 32 ∧ dueCue.cues.nextId < 256 ∧
        (∀ c ∈ dueCue.cues.queue, c.state = .due → usableZones dueCue.line c.zones ≠ []) ∧
        usableZones dueCue.line ((cuePostOf 1).zones &&& dueCue.bank.zonesInUse) ≠ [] ∧
        (dueCue.time.second : Int) ≤ (postedCue dueCue (cuePostOf 1) 0).expiry) := by decide

/-- The victim of the full queue (6.14). -/
def victim23 : Cue := cueOf 23 1 0b1#8 80000 80300 .waiting

theorem witness_FullQueueGivesUpVictim :
    fullQueue.cuesOk ∧
      (fullQueue.node.state = .running ∧ cuePostBad (cuePostOf 1) = false ∧ cuePostBad (cuePostOf 3) = false ∧
        (cuePostOf 1).zones &&& fullQueue.bank.zonesInUse ≠ 0#8 ∧ fullQueue.time.second ≤ 86399 ∧
        fullQueue.cues.queue.length = 32 ∧
        (∀ c ∈ fullQueue.cues.queue, c.state = .due → usableZones fullQueue.line c.zones ≠ []) ∧
        usableZones fullQueue.line ((cuePostOf 1).zones &&& fullQueue.bank.zonesInUse) ≠ [] ∧
        (fullQueue.time.second : Int) ≤ (postedCue fullQueue (cuePostOf 1) 0).expiry) ∧
      (victim23 ∈ fullQueue.cues.queue ∧ victim23.waits = true ∧
        (∀ w ∈ fullQueue.cues.queue, w.waits = true → w = victim23 ∨ victim23.priority < w.priority ∨
          (victim23.priority = w.priority ∧
            (w.release < victim23.release ∨ (victim23.release = w.release ∧ w.id < victim23.id))))) ∧
      ((cuePostOf 1).priority ≤ victim23.priority ∧ victim23.priority < (cuePostOf 3).priority) :=
  ⟨fullQueue_cuesOk, by decide, by decide, by decide⟩

theorem witness_CuesReleaseAndExpire :
    (cueOf 14 1 1#8 76640 80000 .waiting).release ≤ (running.time.second : Int) ∧
      (cueOf 14 1 1#8 76640 80000 .waiting).state = .waiting ∧
      (cueOf 15 1 1#8 70000 76639 .due).expiry < (running.time.second : Int) ∧
      usableZones running.line 0b10000000#8 = [] := by decide

/-! ### Override control -/

theorem witness_OverrideSetAndClearByLevel :
    ((inState .holdover).node.state ≠ .joining ∧ (inState .holdover).node.state ≠ .running) ∧
      (running.node.state = .running ∧ ({ level2 with level := 0 } : OverrideBody).level < 1 ∧
        3 < ({ level2 with level := 4 } : OverrideBody).level) ∧
      (({ level2 with level := 1 } : OverrideBody).level < overridden.ovr.level) ∧
      (running.ovr.level ≤ level2.level ∧ level2.level ≤ 2 ∧ level2.template = none ∧ level2.page ≤ 7 ∧ level2.floor ≤ 7) ∧
      ((1 : Nat) < overridden.ovr.level ∧ overridden.ovr.level ≤ 2) ∧
      (({ level2 with template := some 5 } : OverrideBody).template = some 5 ∧ running.cues.queue = []) := by decide

theorem running_cuesOk : running.cuesOk := noCue_ok _ rfl (by decide)

theorem witness_OverrideLevelThreeBreaksLine :
    (offering.node.state = .running ∧ ({ level2 with level := 3 } : OverrideBody).level = 3 ∧ level2.page ≤ 7 ∧
        level2.floor ≤ 7 ∧ level2.template = none ∧ offering.ovr.level ≤ 3 ∧ offering.line.zones.length = 8 ∧
        (∀ z ∈ offering.line.zones, z.pendingAddr = none)) ∧ offering.cuesOk ∧
      (∀ n, ({ level2 with level := 3, template := some 5 } : OverrideBody).template = some n → n ≤ 31) :=
  ⟨by decide, offering_cuesOk, by intro n h; cases h; decide⟩

/-! ### The configuration store -/

theorem witness_TableWriteTouchesShadowAlone :
    ((inState .holdover).node.state ≠ .joining ∧ (inState .holdover).node.state ≠ .running) ∧ running.node.state = .running ∧
      (8 : Nat) < 9 ∧ [1, 16, 24, 4, 32, 32, 64, 8, 32].getD 1 0 ≤ 16 ∧
      ((15 : Nat) < [1, 16, 24, 4, 32, 32, 64, 8, 32].getD 1 0 ∧
        [0x01#8, 9#8, 11#8, 0xFF#8, 0xFF#8, 0x02#8].length = [12, 6, 5, 16, 10, 37, 1, 1, 103].getD 1 0 ∧
        ([] : List Byte).length ≠ [12, 6, 5, 16, 10, 37, 1, 1, 103].getD 1 0) ∧
      running.store.shadow.shapely :=
  ⟨by decide, by decide, by decide, by decide, by decide, wall_shapely⟩

/-- A commit of generation 7 for cycle 32 pending over the bank given (10.3.1). -/
def committing (shadow : Bank) : State :=
  { listed with store := { listed.store with shadow := shadow, commit := some ⟨7, 32⟩ } }

/-- The same with cue 57 playing in zones 1 and 4, for a bank that moves zone 1 and gives zone 4 up. -/
def rezoning : State :=
  { playing57 with
    store :=
      { playing57.store with shadow := { wall with zoneTable := [1, 7, 3, 5, 0, 0, 0, 0] }, commit := some ⟨7, 32⟩ } }

theorem rezoning_lineOk : rezoning.line.ok := restingLine_ok _ (by decide) (zones_ok _ (by decide)) rfl rfl rfl

theorem witness_CommitPendsAndSwitches :
    (running.node.state = .running ∧ (1 : Nat) ≤ 7 ∧ (7 : Nat) ≤ 255 ∧ (63 : Nat) ≤ 63 ∧ (63 : Nat) < 64 ∧ (64 : Nat) ≠ 255) ∧
      ((committing wall).store.commit = some ⟨7, 32⟩ ∧ (committing wall).node.state ≠ .powerUp ∧
        (committing wall).store.shadow.firstInvalid = none ∧ ((committing wall).table.Pairwise fun a b => a.key ≠ b.key)) ∧
      ((committing { wall with zoneTable := [1, 1, 0, 0, 0, 0, 0, 0] }).store.shadow.firstInvalid = some (7, 1)) ∧
      (rezoning.line.ok ∧ rezoning.store.shadow.firstInvalid = none ∧ (rezoning.line.zone 4).state = .playing ∧
        rezoning.store.shadow.zoneTable.getD 4 0 = 0 ∧ (rezoning.line.zone 4).addr ≠ 0 ∧
        (rezoning.line.zone 4).holding = some 57) ∧
      (let s := { inState .joining with store := { running.store with commit := some ⟨7, 32⟩ } }
       s.node.state = .joining ∧ s.time.setPending = false ∧ s.store.commit = some ⟨7, 32⟩ ∧
         s.store.shadow.firstInvalid = none ∧ s.table = []) ∧
      (running.table = [] ∧ running.cues.queue = []) :=
  ⟨by decide, by decide, by decide, ⟨rezoning_lineOk, by decide, by decide, by decide, by decide, by decide⟩, by decide, by decide⟩

/-! ### The cue line controller -/

/-- The idle line with the work given. -/
def lineWith (jobs : List LineJob) (seq : Option OfferSeq) (due : List Nat) : State :=
  { playing57 with
    line :=
      { playing57.line with
        jobs := jobs, seq := seq
        zones := (List.range 8).map fun n => { playing57.line.zone n with pollDue := due.contains n } } }

/-- The idle line with zone 2 in FAULT and its poll due. -/
def faultDue : State :=
  { running with
    line :=
      { running.line with
        zones := put 2 { resetZone 3 with state := .fault, miss := 3, timer := some 0, pollDue := true } running.line.zones } }

theorem witness_ArbiterTakesFirstClass :
    (consultsArbiter .lineArbitration playing57 ∧ playing57.line.status = .idle ∧ playing57.node.state ≠ .powerUp) ∧
      consultsArbiter (.retryHoldExpiry 57)
        { dueCue with cues := { queue := [{ cue57 .due with retryHold := some 61200 }], nextId := 58 } } ∧
      (lineWith [.stop 1 57] none []).line.jobs = .stop 1 57 :: [] ∧
      (lineWith [.cancel 2 57] none []).line.jobs = .cancel 2 57 :: [] ∧
      ((lineWith [] (some ⟨57, []⟩) []).line.jobs = [] ∧ (lineWith [] (some ⟨57, []⟩) []).line.seq = some ⟨57, []⟩) ∧
      ((lineWith [] none [1, 4]).line.jobs = [] ∧ ((lineWith [] none [1, 4]).line.zone 1).pollDue = true ∧
        ((lineWith [] none [1, 4]).line.zone 1).state = .playing ∧
        (∀ m, m < 1 → ¬(((lineWith [] none [1, 4]).line.zone m).pollDue = true ∧
          ((lineWith [] none [1, 4]).line.zone m).state = .playing))) ∧
      ((faultDue.line.zone 2).pollDue = true ∧ (faultDue.line.zone 2).state = .fault ∧
        (∀ m, m < 8 → ¬((faultDue.line.zone m).pollDue = true ∧ (faultDue.line.zone m).state = .playing)) ∧
        (∀ m, m < 2 → ¬((faultDue.line.zone m).pollDue = true ∧ (faultDue.line.zone m).state = .fault))) ∧
      ((lineWith [] (some ⟨57, [4]⟩) []).line.seq = some ⟨57, 4 :: []⟩ ∧
        (lineWith [] (some ⟨57, [4]⟩) []).findCue 57 = some (cue57 .playing) ∧
        (∀ m, m < 8 → ((lineWith [] (some ⟨57, [4]⟩) []).line.zone m).pollDue = false)) :=
  ⟨⟨.inl rfl, rfl, by decide⟩, .inr ⟨57, { cue57 .due with retryHold := some 61200 }, 61200, rfl, rfl, rfl, rfl, by decide⟩, rfl,
    rfl, ⟨rfl, rfl⟩, by decide, by decide, by decide⟩

theorem witness_ArbiterChoosesHighestCue :
    (dueCue.cuesOk ∧ dueCue.line.ok ∧ dueCue.line.status = .idle ∧ dueCue.node.state ≠ .powerUp ∧ dueCue.line.jobs = [] ∧
        dueCue.line.seq = none ∧ (∀ m, m < 8 → (dueCue.line.zone m).pollDue = false) ∧ cue57 .due ∈ dueCue.cues.queue ∧
        eligible dueCue (cue57 .due) = true ∧ (∀ d ∈ dueCue.cues.queue, eligible dueCue d = true → d = cue57 .due) ∧
        ∀ n ∈ usableZones dueCue.line (cue57 .due).zones, availableZone dueCue.line n = true) ∧
      (preempting.cuesOk ∧ preempting.line.ok ∧ (∀ m, m < 8 → (preempting.line.zone m).pollDue = false) ∧
        cueOf 30 6 0b110#8 70010 70100 .due ∈ preempting.cues.queue ∧
        eligible preempting (cueOf 30 6 0b110#8 70010 70100 .due) = true ∧
        (∀ d ∈ preempting.cues.queue, eligible preempting d = true → d = cueOf 30 6 0b110#8 70010 70100 .due) ∧
        ∃ n ∈ usableZones preempting.line 0b110#8, availableZone preempting.line n = false) :=
  ⟨⟨dueCue_cuesOk, dueCue_lineOk, rfl, by decide, rfl, rfl, by decide, by decide, by decide, by decide,
      by decide⟩,
    ⟨preempting_cuesOk, preempting_lineOk, by decide, by decide, by decide, by decide, by decide⟩⟩

theorem witness_SentCommandsFreeTheLine :
    (let s := { offering with line := { offering.line with status := .transaction (.start 57) } }
     s.line.status = .transaction (.start 57) ∧ s.line.zones.length = 8 ∧ (s.line.zone 1).state = .offered ∧
       (s.line.zone 1).holding = some 57 ∧ (s.line.zone 1).pendingAddr ≠ some 0 ∧
       ¬((s.line.zone 0).state = .offered ∧ (s.line.zone 0).holding = some 57)) ∧
      (let l :=
        { offering.line with
          status := .transaction (.start 57), zones := put 4 { held 4 .offered 57 with pendingAddr := some 0 } offering.line.zones }
       l.status = .transaction (.start 57) ∧ l.zones.length = 8 ∧ (l.zone 4).state = .offered ∧ (l.zone 4).holding = some 57 ∧
         (l.zone 4).pendingAddr = some 0) ∧
      ({ running.line with status := .transaction (.cancel 2 57) } : LineCtl).status = .transaction (.cancel 2 57) ∧
      ({ running.line with status := .lineBreak } : LineCtl).status = .lineBreak ∧
      ({ running.line with status := .quiet 480000 } : LineCtl).status = .quiet 480000 := by decide

theorem witness_OfferRepliesTakenAndBusy :
    offering.line.status = .transaction (.offer 4 9 57) ∧ offering.line.zones.length = 8 ∧ (4 : Nat) < 8 ∧
      readMessage (lineMessage 9 0x21 [57]) = some (9, 0x21, [57]) ∧ readMessage [] ≠ some (9, 0x21, [57]) ∧
      readMessage (lineMessage 9 0x22 [57]) = some (9, 0x22, [57]) ∧ readMessage [] ≠ some (9, 0x22, [57]) ∧
      (∀ z ∈ offering.line.zones, z.pendingAddr = none) ∧ offering.cuesOk ∧
      (cue57 .offered ∈ offering.cues.queue ∧ (offering.line.zone 4).addr ≠ 0 ∧ (offering.line.zone 4).state = .offered ∧
        (offering.line.zone 4).holding = some 57 ∧ (cue57 .offered).zones.getLsbD 4 = true ∧
        (∀ x ∈ offering.cues.queue, x.id = 57) ∧ (offering.line.zone 1).taken = true) :=
  ⟨rfl, by decide, by decide, by decide, by decide, by decide, by decide, by decide, offering_cuesOk, by decide⟩

theorem polling4_cuesOk : polling4.cuesOk where
  size := by decide
  ids := by decide
  apart := List.pairwise_singleton _ _
  sound := by
    intro c hc
    rw [List.mem_singleton.mp hc]
    exact cue57_ok .playing
  nextId := by decide

/-- A POLL of the FAULT zone 2 in flight. -/
def pollingFault : State := { faultDue with line := { faultDue.line with status := .transaction (.poll 2 3) } }

/-- Cue 12 at its end in zone 1, by a POLL or a STOP in flight: preempted or not, of the expiry given, with cue 30 of its
key and template waiting where `mate` is set. -/
def ending (state : ZoneState) (preempted mate : Bool) (expiry : Int) : State :=
  let end12 : Cue := { cueOf 12 2 0b10#8 (expiry - 60) expiry .playing with key := 4172, template := some 5, preempted := preempted }
  { listed with
    cues :=
      { queue := [end12, { cueOf 30 6 0b110#8 76600 76700 .due with key := if mate then 4172 else 0, template := some 5 }]
        nextId := 31 }
    line :=
      { running.line with
        zones := put 1 { held 1 state 12 with miss := 1 } running.line.zones
        status := if state = .stopping then .transaction (.stop 1 2 12) else .transaction (.poll 1 2) } }

theorem ending_cuesOk (state : ZoneState) (preempted mate : Bool) : (ending state preempted mate 76660).cuesOk :=
  twoCues_ok _ _ _ rfl (cue_ok _ (by cases preempted <;> decide)) (cue_ok _ (by cases mate <;> decide)) rfl
    (show (12 : Nat) < 30 by decide) (show (31 : Nat) < 256 by decide)

theorem ending_late_cuesOk : (ending .stopping true false 76639).cuesOk :=
  twoCues_ok _ _ _ rfl (cue_ok _ (by decide)) (cue_ok _ (by decide)) rfl (by decide) (by decide)

/-- What the end of play asks of a cue: that it is the last zone's, preempted or not, its expiry, and its mate. -/
theorem witness_ReleasedFrom :
    (let s := ending .stopping true true 76660
     (∀ m, m < 8 → m ≠ 1 → (s.line.zone m).holding ≠ some 12) ∧
       (∃ c ∈ s.cues.queue, c.id = 12 ∧ c.preempted = true ∧ (s.time.second : Int) ≤ c.expiry) ∧
       (∃ o ∈ s.cues.queue, o.id ≠ 12 ∧ o.key = 4172 ∧ o.template = some 5 ∧ o.waits = true ∧
         (s.time.second : Int) ≤ o.expiry)) ∧
      (∀ o ∈ (ending .stopping true false 76660).cues.queue, o.key = 4172 → o.id = 12) ∧
      (∃ c ∈ (ending .stopping true false 76639).cues.queue, c.id = 12 ∧ c.expiry < ((76640 : Nat) : Int)) ∧
      (∃ c ∈ (ending .stopping false false 76660).cues.queue, c.id = 12 ∧ c.preempted = false ∧
        c.playCount < c.playLimit * 64) ∧
      (∃ m, m < 8 ∧ m ≠ 4 ∧ (polling4.line.zone m).holding = some 57) := by decide

theorem witness_RepliesEndPlayOrRecover :
    (polling4.line.zones.length = 8 ∧ (4 : Nat) < 8 ∧ (polling4.line.zone 4).pendingAddr = none ∧
        polling4.line.status = .transaction (.poll 4 9) ∧ (polling4.line.zone 4).state = .playing ∧
        (polling4.line.zone 4).holding = some 57 ∧ cue57 .playing ∈ polling4.cues.queue ∧
        readMessage (lineMessage 9 0x24 []) = some (9, 0x24, []) ∧ readMessage (lineMessage 9 0x25 []) = some (9, 0x25, []) ∧
        readMessage (lineMessage 9 0x26 []) = some (9, 0x26, [])) ∧ polling4.cuesOk ∧
      (let s := ending .stopping true true 76660
       s.line.zones.length = 8 ∧ (s.line.zone 1).pendingAddr = none ∧ s.line.status = .transaction (.stop 1 2 12) ∧
         (s.line.zone 1).state = .stopping ∧ (s.line.zone 1).holding = some 12 ∧
         readMessage (lineMessage 2 0x23 [12]) = some (2, 0x23, [12])) ∧
      (ending .stopping true true 76660).cuesOk ∧ (ending .stopping true false 76639).cuesOk ∧
      (let l := { polling4.line with zones := put 4 (held 4 .stopping 57) polling4.line.zones }
       l.status = .transaction (.poll 4 9) ∧ (l.zone 4).state = .stopping) ∧
      (pollingFault.line.status = .transaction (.poll 2 3) ∧ (pollingFault.line.zone 2).state = .fault ∧
        readMessage (lineMessage 3 0x24 []) = some (3, 0x24, [])) :=
  ⟨by decide, polling4_cuesOk, by decide, ending_cuesOk _ _ _, ending_late_cuesOk, by decide, by decide⟩

theorem witness_WindowCloseCountsMiss :
    (polling4.line.status = .transaction (.poll 4 9) ∧ polling4.line.zones.length = 8 ∧ (polling4.line.zone 4).state = .playing ∧
        (polling4.line.zone 4).miss < 2) ∧
      (pollingFault.line.status = .transaction (.poll 2 3) ∧ (pollingFault.line.zone 2).state = .fault) ∧
      (let l := { polling4.line with zones := put 4 { polling4.line.zone 4 with miss := 2 } polling4.line.zones }
       (l.zone 4).state = .playing ∧ (l.zone 4).miss = 2 ∧ (l.zone 4).holding = some 57 ∧ (l.zone 4).pendingAddr = none ∧
         (l.zone 1).holding = some 57) ∧
      (polling4.node.reports.length < 16 ∧ (held 4 .stopping 57).miss < 2) ∧ polling4.cuesOk ∧
      (let s := ending .stopping false true 76660
       s.line.status = .transaction (.stop 1 2 12) ∧ (s.line.zone 1).state = .stopping ∧ (s.line.zone 1).holding = some 12 ∧
         (s.line.zone 1).pendingAddr = none ∧ (s.line.zone 1).miss < 2 ∧
         2 ≤ ({ s.line.zone 1 with miss := 2 } : Zone).miss) ∧ (ending .stopping false true 76660).cuesOk ∧
      (offering.line.status = .transaction (.offer 4 9 57) ∧ (offering.line.zone 4).state = .offered ∧
        (offering.line.zone 4).holding = some 57 ∧ (offering.line.zone 4).taken = false ∧
        (∀ m, m < 8 → (offering.line.zone m).pendingAddr = none) ∧ offering.line.jobs = [] ∧
        ({ offering.line with status := .quiet 480000 } : LineCtl).status = .quiet 480000 ∧
        (offering.line.zone 4).miss < 2 ∧ 2 ≤ ({ offering.line.zone 4 with miss := 2 } : Zone).miss ∧
        (offering.line.zone 1).taken = true) ∧ offering.cuesOk :=
  ⟨by decide, by decide, by decide, by decide, polling4_cuesOk, by decide, ending_cuesOk _ _ _, by decide, offering_cuesOk⟩

theorem witness_PollFallsDueAndPlayLimitStops :
    (playing57.line.zones.length = 8 ∧ (playing57.line.zone 4).state = .playing ∧ (playing57.line.zone 4).timer.isSome = true ∧
        playing57.line.status = .idle ∧ (faultDue.line.zone 2).state = .fault ∧ (faultDue.line.zone 2).timer.isSome = true) ∧
      (playing57.findCue 57 = some (cue57 .playing) ∧ (cue57 .playing).state = .playing ∧
        (cue57 .playing).playCount < (cue57 .playing).playLimit * 64 ∧ (playing57.line.zone 1).holding = some 57) := by
  decide

end Sys2Proof.Tests
end

section
/-! SUPPORT. Departure time arithmetic (R27 to R31, R37): the expected minute, the countdown, and the BCD clock. -/

namespace Sys2Proof.Laws

open Sys2Proof.Machine

/-! ### The expected minute (R27) -/

/-- A cancelled record, and one of unknown delay, is expected at its scheduled minute. -/
theorem expectedMinute_of_cancelled_or_unknown {r : ServiceRecord} (h : r.cancelled = true ∨ r.delay = none) :
    expectedMinute r = r.sm := by
  rcases h with hc | hd
  · simp [expectedMinute, hc]
  · simp [expectedMinute, hd]

/-- A delay of at most `m` minutes puts the expected minute at most `m` behind the scheduled one; `0 ≤ m` is for the
records that count no delay. -/
theorem expectedMinute_le_sm_add {r : ServiceRecord} {m : Int} (hm : 0 ≤ m) (hdelay : ∀ d, r.delay = some d → d ≤ m) :
    expectedMinute r ≤ r.sm + m := by
  unfold expectedMinute
  split
  next => omega
  next =>
    split
    next => omega
    next d hd =>
      have := hdelay d hd
      omega

/-- No service second lies before second 0, so at most 60 seconds remain for each expected minute. -/
theorem remainingSeconds_le (r : ServiceRecord) (sec : Nat) : remainingSeconds r sec ≤ 60 * expectedMinute r := by
  unfold remainingSeconds
  omega

/-! ### The countdown (R31) -/

theorem countdown_of_pos {r : ServiceRecord} {sec : Nat} (h : 0 < remainingSeconds r sec) :
    countdown r sec = (remainingSeconds r sec + 59) / 60 := if_pos h

theorem countdown_of_nonpos {r : ServiceRecord} {sec : Nat} (h : remainingSeconds r sec ≤ 0) : countdown r sec = 0 :=
  if_neg (not_lt.mpr h)

/-- Rounding up: the remaining seconds end within the last minute counted. -/
theorem countdown_bounds {r : ServiceRecord} {sec : Nat} (h : 0 < remainingSeconds r sec) :
    60 * (countdown r sec - 1) < remainingSeconds r sec ∧ remainingSeconds r sec ≤ 60 * countdown r sec := by
  rw [countdown_of_pos h]
  omega

theorem countdown_nonneg (r : ServiceRecord) (sec : Nat) : 0 ≤ countdown r sec := by
  rcases lt_or_ge 0 (remainingSeconds r sec) with hpos | hnonpos
  · have := countdown_bounds hpos
    omega
  · exact (countdown_of_nonpos hnonpos).ge

/-- The countdown is the least number of whole minutes that holds the remaining seconds. -/
theorem countdown_le {r : ServiceRecord} {sec : Nat} {m : Int} (hm : 0 ≤ m) (h : remainingSeconds r sec ≤ 60 * m) :
    countdown r sec ≤ m := by
  rcases lt_or_ge 0 (remainingSeconds r sec) with hpos | hnonpos
  · have := countdown_bounds hpos
    omega
  · exact (countdown_of_nonpos hnonpos).trans_le hm

/-- The largest countdown: minute 2879 with a delay of 999, seen from service second 0. -/
theorem countdown_le_3878 {r : ServiceRecord} (sec : Nat) (hsm : r.sm ≤ 2879) (hdelay : ∀ d, r.delay = some d → d ≤ 999) :
    countdown r sec ≤ 3878 := by
  have hminute : expectedMinute r ≤ r.sm + 999 := expectedMinute_le_sm_add (by decide) hdelay
  have hseconds := remainingSeconds_le r sec
  exact countdown_le (by decide) (by omega)

/-- Settles O13: the rounding bounds, and the longest delay at the last scheduled minute. -/
theorem countdownRoundsUp : Obligations.CountdownRoundsUp := by
  intro r sec
  refine ⟨fun hpos => ⟨countdown_of_pos hpos, countdown_bounds hpos⟩, countdown_of_nonpos, countdown_nonneg r sec, ?_, ?_⟩
  · intro h
    rw [remainingSeconds, expectedMinute_of_cancelled_or_unknown h]
  · intro _ hsm hdelay _
    exact countdown_le_3878 sec hsm fun d hd => (hdelay d hd).2

/-! ### The BCD clock and the civil second (R37, R84) -/

/-- The second of day a BCD clock shows, its digits read as hours, minutes and seconds. -/
def clockReading (k : BcdClock) : Nat :=
  (k.hourTens * 10 + k.hourUnits) * 3600 + (k.minTens * 10 + k.minUnits) * 60 + (k.secTens * 10 + k.secUnits)

/-- Each pair of digits is a number split at ten, and the three numbers are the second of day split at 3600 and 60. -/
theorem clockReading_clockOf (c : Nat) : clockReading (clockOf c) = c := by
  simp only [clockReading, clockOf, Nat.div_add_mod']
  omega

/-- A sound time base's clock reads as the civil second of the service second. -/
theorem clockReading_of_timeOk {s : State} (h : s.timeOk) :
    clockReading s.time.clock = civilSecond s.bank.params.dayStart s.time.second := by
  rw [h.clock, civilClock, clockReading_clockOf]

/-- The way back: a second of day is recovered from its civil second by taking the day start off again. -/
theorem second_of_civilSecond (ds : Nat) {sec : Nat} (h : sec < 86400) :
    (sec : Int) = ((civilSecond ds sec : Int) - (ds : Int) * 60) % 86400 := by
  unfold civilSecond
  omega

/-- Settles O14: the clock's reading is the civil second, and the day start comes off it again. -/
theorem clockShowsCivilSecond : Obligations.ClockShowsCivilSecond := by
  intro s hs
  change clockReading s.time.clock = civilSecond s.bank.params.dayStart s.time.second ∧
    (s.time.second : Int) = ((clockReading s.time.clock : Int) - (s.bank.params.dayStart : Int) * 60) % 86400
  rw [clockReading_of_timeOk hs]
  exact ⟨rfl, second_of_civilSecond _ hs.second⟩

end Sys2Proof.Laws
end

section
/-! SUPPORT. The tests of a notice rule (R42 to R48): the value a rule reads, the comparison, the flag test by its sense, and
the match that takes both. -/

namespace Sys2Proof.Laws

open Sys2Proof.Machine

/-! ### The value a rule reads (R43) -/

theorem ruleValue_eq_some_iff {f : ValueField} {sec : Nat} {r : ServiceRecord} {v : Int} :
    ruleValue f sec r = some v ↔
      (f = .delay ∧ r.delay = some v) ∨ (f = .countdown ∧ countdown r sec = v) ∨
        (f = .platform ∧ ∃ p : Nat, r.platform = some p ∧ (p : Int) = v) ∨ (f = .opClass ∧ (r.opClass : Int) = v) := by
  cases f with
  | platform => simp [ruleValue, Option.bind_eq_some_iff]
  | _ => simp [ruleValue]

/-- The two fields that may find no value in the record (R45). -/
theorem ruleValue_eq_none_of_unknown {f : ValueField} {r : ServiceRecord} (sec : Nat)
    (h : (f = .delay ∧ r.delay = none) ∨ (f = .platform ∧ r.platform = none)) : ruleValue f sec r = none := by
  obtain ⟨rfl, hdelay⟩ | ⟨rfl, hplatform⟩ := h
  · exact hdelay
  · simp [ruleValue, hplatform]

/-! ### The comparison and the value test (R44, R45) -/

/-- What a comparison says of a value and a constant when they are compared directly; a code outside the table says
nothing that holds. -/
def relates : Comparison → Int → Int → Prop
  | .eq, v, k => v = k
  | .ne, v, k => v ≠ k
  | .lt, v, k => v < k
  | .le, v, k => v ≤ k
  | .gt, v, k => v > k
  | .ge, v, k => v ≥ k
  | .other _, _, _ => False

/-- The difference is never cut short or wrapped, so its sign compares the value with the constant. -/
theorem compareDiff_sub_iff (c : Comparison) (v k : Int) : compareDiff c (v - k) = true ↔ relates c v k := by
  cases c with
  | other code => simp [compareDiff, relates]
  | _ =>
    simp only [compareDiff, relates, decide_eq_true_iff]
    omega

theorem valueTest_of_always {rule : NoticeRule} (sec : Nat) (r : ServiceRecord) (h : rule.field = .always) :
    valueTest rule sec r = true := by
  simp [valueTest, h]

theorem valueTest_iff_of_ruleValue_some {rule : NoticeRule} {sec : Nat} {r : ServiceRecord} {v : Int}
    (h : ruleValue rule.field sec r = some v) : valueTest rule sec r = true ↔ relates rule.comparison v rule.constant := by
  rw [← compareDiff_sub_iff]
  unfold valueTest
  split
  next hfield => simp [hfield, ruleValue] at h
  next => rw [h]

theorem valueTest_of_ruleValue_none {rule : NoticeRule} {sec : Nat} {r : ServiceRecord} (hfield : rule.field ≠ .always)
    (h : ruleValue rule.field sec r = none) : valueTest rule sec r = false := by
  unfold valueTest
  split
  next halways => exact absurd halways hfield
  next => rw [h]

/-- An UNKNOWN delay fails a DELAY rule and a platform of NONE fails a PLATFORM rule, whatever the comparison. -/
theorem valueTest_of_unknown {rule : NoticeRule} {r : ServiceRecord} (sec : Nat)
    (h : (rule.field = .delay ∧ r.delay = none) ∨ (rule.field = .platform ∧ r.platform = none)) :
    valueTest rule sec r = false := by
  refine valueTest_of_ruleValue_none (fun halways => ?_) (ruleValue_eq_none_of_unknown sec h)
  simp [halways] at h

/-- A countdown is never negative, so a negative constant lies below every countdown. -/
theorem valueTest_countdown_of_constant_neg {rule : NoticeRule} (sec : Nat) (r : ServiceRecord)
    (hfield : rule.field = .countdown) (hneg : rule.constant < 0) :
    (rule.comparison = .ge → valueTest rule sec r = true) ∧ (rule.comparison = .lt → valueTest rule sec r = false) := by
  have hread : ruleValue rule.field sec r = some (countdown r sec) := by rw [hfield]; rfl
  have hnonneg := countdown_nonneg r sec
  constructor
  · intro hc
    rw [valueTest_iff_of_ruleValue_some hread, hc]
    change countdown r sec ≥ rule.constant
    omega
  · intro hc
    rw [← Bool.not_eq_true, valueTest_iff_of_ruleValue_some hread, hc]
    change ¬ countdown r sec < rule.constant
    omega

/-! ### The flag test (R47) -/

theorem flagTest_allSet_iff {rule : NoticeRule} (b : Bank) (sec : Nat) (r : ServiceRecord) (h : rule.sense = .allSet) :
    flagTest b rule sec r = true ↔ ∀ i, i < 6 → rule.flagMask.getLsbD i = true → recordFlag b sec r i = true := by
  simp [flagTest, h, mem_bitsOf]

theorem flagTest_anySet_iff {rule : NoticeRule} (b : Bank) (sec : Nat) (r : ServiceRecord) (h : rule.sense = .anySet) :
    flagTest b rule sec r = true ↔ ∃ i, i < 6 ∧ rule.flagMask.getLsbD i = true ∧ recordFlag b sec r i = true := by
  simp [flagTest, h, mem_bitsOf, and_assoc]

theorem flagTest_noneSet_iff {rule : NoticeRule} (b : Bank) (sec : Nat) (r : ServiceRecord) (h : rule.sense = .noneSet) :
    flagTest b rule sec r = true ↔ ∀ i, i < 6 → rule.flagMask.getLsbD i = true → recordFlag b sec r i = false := by
  simp [flagTest, h, mem_bitsOf]

theorem flagTest_ignore {rule : NoticeRule} (b : Bank) (sec : Nat) (r : ServiceRecord) (h : rule.sense = .ignore) :
    flagTest b rule sec r = true := by
  simp [flagTest, h]

theorem bitsOf_zero (n : Nat) : bitsOf 0#n = [] := by
  simp [bitsOf]

/-- An empty mask names no flag: ALL SET and NONE SET have nothing to fail on, ANY SET nothing to pass on. -/
theorem flagTest_of_mask_empty {rule : NoticeRule} (b : Bank) (sec : Nat) (r : ServiceRecord) (h : rule.flagMask = 0#6) :
    (rule.sense = .allSet → flagTest b rule sec r = true) ∧ (rule.sense = .anySet → flagTest b rule sec r = false) ∧
      (rule.sense = .noneSet → flagTest b rule sec r = true) := by
  refine ⟨?allSet, ?anySet, ?noneSet⟩
  all_goals
    intro hsense
    simp [flagTest, hsense, h, bitsOf_zero]

/-! ### The match (R42, R48) -/

theorem ruleMatches_iff {b : Bank} {sec : Nat} {r : ServiceRecord} {n : Nat} :
    ruleMatches b sec r n = true ↔
      (b.rule n).inUse = true ∧ valueTest (b.rule n) sec r = true ∧ flagTest b (b.rule n) sec r = true := by
  simp [ruleMatches, and_assoc]

theorem ruleMatches_of_valueTest_false {b : Bank} {sec : Nat} {r : ServiceRecord} {n : Nat}
    (h : valueTest (b.rule n) sec r = false) : ruleMatches b sec r n = false := by
  simp [← Bool.not_eq_true, ruleMatches_iff, h]

theorem ruleMatches_of_flagTest_false {b : Bank} {sec : Nat} {r : ServiceRecord} {n : Nat}
    (h : flagTest b (b.rule n) sec r = false) : ruleMatches b sec r n = false := by
  simp [← Bool.not_eq_true, ruleMatches_iff, h]

/-- An evaluation sets the bit of each rule that matches and clears every other. -/
theorem decideRules_matchSet_getLsbD (b : Bank) (sec : Nat) (r : ServiceRecord) {n : Nat} (hn : n < 32) :
    (decideRules b sec r).matchSet.getLsbD n = ruleMatches b sec r n :=
  maskOf_getLsbD 32 (ruleMatches b sec r) n hn

/-- The validation of a rule does not read its flag mask. -/
theorem noticeRule_ok_flagMask (rule : NoticeRule) (m : BitVec 6) :
    ({ rule with flagMask := m } : NoticeRule).ok = rule.ok := rfl

/-! ### The statements -/

/-- Settles O15: a field that reads a value compares it directly, one that reads none fails. -/
theorem valueTestComparesDirectly : Obligations.ValueTestComparesDirectly := by
  intro b rule sec r
  refine ⟨valueTest_of_always sec r, fun v hreads => ?_, fun hfield hk => ?_, fun hunknown => ?_⟩
  · have htest := valueTest_iff_of_ruleValue_some (ruleValue_eq_some_iff.mpr hreads)
    refine ⟨?_, ?_, ?_, ?_, ?_, ?_, ?ranges⟩
    case ranges => omega
    all_goals
      intro hc
      rw [htest, hc]
      rfl
  · exact valueTest_countdown_of_constant_neg sec r hfield (by omega)
  · have hfails := valueTest_of_unknown sec hunknown
    refine ⟨hfails, fun n hn => ruleMatches_of_valueTest_false ?_⟩
    rw [hn, hfails]

/-- Settles O16: each sense over the flags its mask names, and ANY SET with an empty mask, which no match survives. -/
theorem flagTestFollowsSense : Obligations.FlagTestFollowsSense := by
  intro b rule sec r
  refine ⟨flagTest_allSet_iff b sec r, flagTest_anySet_iff b sec r, flagTest_noneSet_iff b sec r, flagTest_ignore b sec r,
    flagTest_of_mask_empty b sec r, fun n hn hsense hmask => ?_, noticeRule_ok_flagMask rule⟩
  obtain ⟨-, hany, -⟩ := flagTest_of_mask_empty b sec r hmask
  have hmatch : ruleMatches b sec r n = false := ruleMatches_of_flagTest_false (hany hsense)
  exact ⟨hmatch, (decideRules_matchSet_getLsbD b sec r hn).trans hmatch⟩

end Sys2Proof.Laws
end

section
/-! SUPPORT. The class of a time mark (R93): the day difference as the residue within the signed range, and the step. -/

namespace Sys2Proof.Laws

open Sys2Proof.Machine

/-- R93: the day difference is the one number of the signed range that differs from the days' difference by turns of the
day number. -/
theorem dayDifference_eq {day newDay : Nat} {dd : Int} (hday : day < 65536) (hnew : newDay < 65536) (hlow : -32768 ≤ dd)
    (hhigh : dd ≤ 32767) (hmod : (dd - ((newDay : Int) - (day : Int))) % 65536 = 0) : dayDifference day newDay = dd := by
  unfold dayDifference
  split <;> omega

/-- R93: the table of classes in terms of a day difference and a step already worked out. -/
theorem classifyMark_eq {t : TimeBase} {newDay newSec : Nat} {dd step : Int} (hdd : dayDifference t.day newDay = dd)
    (hstep : dd * 86400 + (newSec : Int) - (t.second : Int) = step) :
    classifyMark t newDay newSec =
      if step = 0 then .none
      else if dd < 0 ∨ 86400 < step then .dateJump
      else if step < 0 then .setBack
      else if 0 < step ∧ step ≤ 300 then .shortStep
      else .longStep := by
  subst hdd hstep
  exact ite_congr rfl (fun _ => rfl) fun hnone => ite_congr rfl (fun _ => rfl) fun _ =>
    ite_congr rfl (fun _ => rfl) fun hback => if_congr (by unfold markStep at *; omega) rfl rfl

section
variable {t : TimeBase} {newDay newSec : Nat} {dd step : Int} (hdd : dayDifference t.day newDay = dd)
  (hstep : dd * 86400 + (newSec : Int) - (t.second : Int) = step)
include hdd hstep

theorem classifyMark_eq_setBack_iff : classifyMark t newDay newSec = .setBack ↔ 0 ≤ dd ∧ step < 0 := by
  rw [classifyMark_eq hdd hstep]
  split_ifs <;> simp only [true_iff, false_iff] <;> omega

theorem classifyMark_eq_shortStep_iff :
    classifyMark t newDay newSec = .shortStep ↔ 0 ≤ dd ∧ 0 < step ∧ step ≤ 300 := by
  rw [classifyMark_eq hdd hstep]
  split_ifs <;> simp only [true_iff, false_iff] <;> omega

theorem classifyMark_eq_longStep_iff :
    classifyMark t newDay newSec = .longStep ↔ 0 ≤ dd ∧ 300 < step ∧ step ≤ 86400 := by
  rw [classifyMark_eq hdd hstep]
  split_ifs <;> simp only [true_iff, false_iff] <;> omega

end

/-- Settles O30: the class from the signed day difference, and the bounds each class puts on it. -/
theorem markClassByFirstLine : Obligations.MarkClassByFirstLine := by
  intro t newDay newSec dd hday hnew hsec hnewSec hlow hhigh hmod step
  have hdd : dayDifference t.day newDay = dd := dayDifference_eq hday hnew hlow hhigh hmod
  have hstep : dd * 86400 + (newSec : Int) - (t.second : Int) = step := rfl
  rw [classifyMark_eq_setBack_iff hdd hstep, classifyMark_eq_shortStep_iff hdd hstep,
    classifyMark_eq_longStep_iff hdd hstep]
  refine ⟨classifyMark_eq hdd hstep, ?setBack, ?forward, fun ⟨_, hlong, _⟩ => hlong, ?dayAhead, ?turnOfDays⟩
  all_goals omega

end Sys2Proof.Laws
end

section
/-! SUPPORT. The second tick on the clock (R83, R85, R86): the BCD clock digit by digit, and what the works of the tick
leave of the time base and of the records. -/

namespace Sys2Proof.Laws

open Sys2Proof.Machine

/-! ### The digits of the BCD clock (R85) -/

theorem nextSecond_of_secUnits_lt {k : BcdClock} (h : k.secUnits < 9) :
    k.nextSecond = { k with secUnits := k.secUnits + 1 } := if_pos h

theorem nextSecond_of_secTens_lt {k : BcdClock} (hu : k.secUnits = 9) (ht : k.secTens < 5) :
    k.nextSecond = { k with secUnits := 0, secTens := k.secTens + 1 } := by
  simp [BcdClock.nextSecond, hu, ht]

theorem nextSecond_of_59 {k : BcdClock} (hu : k.secUnits = 9) (ht : k.secTens = 5) :
    k.nextSecond = BcdClock.nextMinute { k with secUnits := 0, secTens := 0 } := by
  simp [BcdClock.nextSecond, hu, ht]

/-- The hours leave the minutes and seconds as they are. -/
theorem nextHour_rest (k : BcdClock) :
    k.nextHour.minTens = k.minTens ∧ k.nextHour.minUnits = k.minUnits ∧ k.nextHour.secTens = k.secTens ∧
      k.nextHour.secUnits = k.secUnits := by
  unfold BcdClock.nextHour
  split_ifs <;> simp

/-- The minutes leave the seconds as they are and step their units digit. -/
theorem nextMinute_low {k : BcdClock} (h : k.minUnits ≤ 9) :
    k.nextMinute.minUnits = (if k.minUnits = 9 then 0 else k.minUnits + 1) ∧ k.nextMinute.secTens = k.secTens ∧
      k.nextMinute.secUnits = k.secUnits := by
  unfold BcdClock.nextMinute
  split
  next hlt => simp [hlt.ne]
  next hlast =>
    have h9 : k.minUnits = 9 := by omega
    rw [if_pos h9]
    split <;> simp [nextHour_rest]

/-- R85: each digit of a clock whose digits are in range carries into the next. -/
theorem nextSecond_carries {k : BcdClock} (hu : k.secUnits ≤ 9) (ht : k.secTens ≤ 5) (hm : k.minUnits ≤ 9) :
    k.nextSecond.secUnits = (if k.secUnits = 9 then 0 else k.secUnits + 1) ∧
      (k.secUnits ≠ 9 → k.nextSecond.secTens = k.secTens) ∧
      (k.secUnits = 9 → k.nextSecond.secTens = (if k.secTens = 5 then 0 else k.secTens + 1)) ∧
      (k.secUnits = 9 ∧ k.secTens = 5 → k.nextSecond.minUnits = (if k.minUnits = 9 then 0 else k.minUnits + 1)) ∧
      (¬(k.secUnits = 9 ∧ k.secTens = 5) →
        k.nextSecond.minUnits = k.minUnits ∧ k.nextSecond.minTens = k.minTens ∧
          k.nextSecond.hourUnits = k.hourUnits ∧ k.nextSecond.hourTens = k.hourTens) := by
  rcases Nat.lt_or_eq_of_le hu with hu | hu
  · simp [nextSecond_of_secUnits_lt hu, hu.ne]
  · rcases Nat.lt_or_eq_of_le ht with ht | ht
    · simp [nextSecond_of_secTens_lt hu ht, hu, ht.ne]
    · obtain ⟨hminUnits, hsecTens, hsecUnits⟩ := nextMinute_low (k := { k with secUnits := 0, secTens := 0 }) hm
      simp [nextSecond_of_59 hu ht, hu, ht, hminUnits, hsecTens, hsecUnits]

theorem clockOf_digits_le (c : Nat) : (clockOf c).secUnits ≤ 9 ∧ (clockOf c).secTens ≤ 5 ∧ (clockOf c).minUnits ≤ 9 := by
  simp only [clockOf]
  omega

/-! ### The BCD clock as hours, minutes and seconds (R84, R85) -/

/-- The digits of three two-digit numbers. -/
def digitsOf (h m s : Nat) : BcdClock :=
  { hourTens := h / 10, hourUnits := h % 10, minTens := m / 10, minUnits := m % 10, secTens := s / 10, secUnits := s % 10 }

theorem clockOf_eq_digitsOf (c : Nat) : clockOf c = digitsOf (c / 3600) (c / 60 % 60) (c % 60) := rfl

theorem nextHour_digitsOf {h : Nat} (hh : h < 24) (m s : Nat) :
    (digitsOf h m s).nextHour = digitsOf ((h + 1) % 24) m s := by
  unfold BcdClock.nextHour digitsOf
  split
  next hc =>
    dsimp only at hc
    simp only [BcdClock.mk.injEq, and_true]
    omega
  next hc =>
    dsimp only at hc
    rw [Nat.mod_eq_of_lt (show h + 1 < 24 by omega)]
    split
    all_goals
      rename_i hunits
      dsimp only at hunits
      simp only [BcdClock.mk.injEq, and_true]
      omega

theorem nextMinute_digitsOf_59 {h : Nat} (hh : h < 24) (s : Nat) :
    (digitsOf h 59 s).nextMinute = digitsOf ((h + 1) % 24) 0 s := nextHour_digitsOf hh 0 s

theorem nextMinute_digitsOf_of_lt {m : Nat} (hm : m < 59) (h s : Nat) :
    (digitsOf h m s).nextMinute = digitsOf h (m + 1) s := by
  unfold BcdClock.nextMinute digitsOf
  split
  next hunits =>
    dsimp only at hunits
    simp only [BcdClock.mk.injEq, and_true, true_and]
    omega
  next hunits =>
    dsimp only at hunits ⊢
    rw [if_pos (by omega)]
    simp only [BcdClock.mk.injEq, and_true, true_and]
    omega

theorem nextSecond_digitsOf_59 (h m : Nat) : (digitsOf h m 59).nextSecond = (digitsOf h m 0).nextMinute := rfl

theorem nextSecond_digitsOf_of_lt {s : Nat} (hs : s < 59) (h m : Nat) :
    (digitsOf h m s).nextSecond = digitsOf h m (s + 1) := by
  unfold BcdClock.nextSecond digitsOf
  split
  next hunits =>
    dsimp only at hunits
    simp only [BcdClock.mk.injEq, true_and]
    omega
  next hunits =>
    dsimp only at hunits ⊢
    rw [if_pos (by omega)]
    simp only [BcdClock.mk.injEq, true_and]
    omega

/-- R85: the digit by digit advance shows the next second of day, midnight after 23:59:59. -/
theorem nextSecond_clockOf {c : Nat} (hc : c < 86400) : (clockOf c).nextSecond = clockOf ((c + 1) % 86400) := by
  rw [clockOf_eq_digitsOf, clockOf_eq_digitsOf]
  rcases Nat.lt_or_eq_of_le (show c % 60 ≤ 59 by omega) with hs | hs
  · rw [nextSecond_digitsOf_of_lt hs]
    congr 1 <;> omega
  · rw [hs, nextSecond_digitsOf_59]
    rcases Nat.lt_or_eq_of_le (show c / 60 % 60 ≤ 59 by omega) with hm | hm
    · rw [nextMinute_digitsOf_of_lt hm]
      congr 1 <;> omega
    · rw [hm, nextMinute_digitsOf_59 (by omega)]
      congr 1 <;> omega

/-- The service second after a tick stands one civil second later, at the day turn as elsewhere. -/
theorem civilSecond_next (ds : Nat) (t : TimeBase) :
    civilSecond ds t.tickSecond.second = (civilSecond ds t.second + 1) % 86400 := by
  simp only [TimeBase.tickSecond, TimeBase.turnsDay, beq_iff_eq, civilSecond]
  split <;> omega

/-- R84, R85: the clock of a sound time base stays in step with the service second over a tick. -/
theorem tickSecond_clock {s : State} (h : s.timeOk) :
    s.time.tickSecond.clock = civilClock s.bank.params.dayStart s.time.tickSecond.second := by
  rw [civilClock, civilSecond_next]
  change s.time.clock.nextSecond = _
  rw [h.clock, civilClock, nextSecond_clockOf]
  exact Nat.mod_lt _ (by decide)

/-! ### What the works of a second tick leave of the time base -/

/-- Of two time bases the second differs from the first in its trim window at most. -/
def SameButWindow (t u : TimeBase) : Prop := ∃ w, u = { t with window := w }

theorem SameButWindow.of_eq {t u : TimeBase} (h : u = t) : SameButWindow t u := ⟨t.window, h⟩

theorem SameButWindow.trans {t u v : TimeBase} (h : SameButWindow t u) (k : SameButWindow u v) : SameButWindow t v := by
  obtain ⟨_, rfl⟩ := h
  obtain ⟨w, rfl⟩ := k
  exact ⟨w, rfl⟩

theorem changeState_time (new : NodeState) (old : Option Nat) (s : State) :
    SameButWindow s.time (changeState new old s).time := by
  simp only [changeState, queueReport_eq, State.setNode_time]
  split
  next => exact .of_eq rfl
  next => exact ⟨none, rfl⟩

theorem enterIsolated_time (s : State) : SameButWindow s.time (enterIsolated s).time :=
  (changeState_time .isolated s.chain.position s).trans (.of_eq (touches_flushNode _ .time (by decide)))

theorem holdTick_time (s : State) : SameButWindow s.time (holdTick s).time := by
  unfold holdTick
  split
  next =>
    simp only
    split
    next => exact enterIsolated_time _
    next => exact .of_eq rfl
  next => exact .of_eq rfl

/-- Only the entry to ISOLATED reaches the time base, where it discards the trim window (R89). -/
theorem tickWork_time (w : CycleWork) (s : State) : SameButWindow s.time (tickWork w s).time := by
  cases w
  case age turn => exact .of_eq (touches_ageTable s turn .time (by decide))
  case retire => exact .of_eq (touches_retireRecords s .time (by decide))
  case rules => exact .of_eq (touches_evaluateAll s .time (by decide))
  case scheduler => exact .of_eq (touches_schedulerTests s .time (by decide))
  case hold => exact holdTick_time s
  all_goals exact .of_eq rfl

theorem advanceSecond_time (s : State) : (advanceSecond s).time = s.time.tickSecond := by
  unfold advanceSecond
  simp only
  split <;> rfl

/-- In whatever order the works of a second tick stand, its time base is that of the clock's advance. -/
theorem secondTick_time (s : State) : SameButWindow s.time.tickSecond (secondTick s).time := by
  unfold secondTick
  exact List.foldlRecOn (motive := fun (u : State) => SameButWindow s.time.tickSecond u.time) _ _
    (.of_eq (advanceSecond_time s :)) fun u hu w _ => hu.trans (tickWork_time w u)

/-! ### What the works of a second tick leave of the records -/

/-- Every record of the second table has its key and scheduled minute from a record of the first. -/
def KeepsScheduled (old new : List ServiceRecord) : Prop := ∀ r ∈ new, ∃ q ∈ old, r.key = q.key ∧ r.sm = q.sm

theorem KeepsScheduled.refl (l : List ServiceRecord) : KeepsScheduled l l := fun r hr => ⟨r, hr, rfl, rfl⟩

theorem KeepsScheduled.of_eq {old new : List ServiceRecord} (h : new = old) : KeepsScheduled old new := h ▸ .refl new

theorem KeepsScheduled.trans {l m n : List ServiceRecord} (h : KeepsScheduled l m) (k : KeepsScheduled m n) :
    KeepsScheduled l n := by
  intro r hr
  obtain ⟨q, hq, hkey, hsm⟩ := k r hr
  obtain ⟨p, hp, hkey', hsm'⟩ := h q hq
  exact ⟨p, hp, hkey.trans hkey', hsm.trans hsm'⟩

theorem keepsScheduled_filter (p : ServiceRecord → Bool) (l : List ServiceRecord) : KeepsScheduled l (l.filter p) :=
  fun r hr => ⟨r, List.mem_of_mem_filter hr, rfl, rfl⟩

theorem lowerAttention_scheduled (r : ServiceRecord) : (lowerAttention r).key = r.key ∧ (lowerAttention r).sm = r.sm := by
  unfold lowerAttention
  split_ifs <;> exact ⟨rfl, rfl⟩

theorem tickAttention_table (s : State) : KeepsScheduled s.table (tickAttention s).table := by
  intro r hr
  obtain ⟨q, hq, rfl⟩ := List.mem_map.mp hr
  exact ⟨q, hq, lowerAttention_scheduled q⟩

theorem retireWhere_table (p : ServiceRecord → Bool) (s : State) :
    (retireWhere p s).table = s.table.filter fun r => !p r :=
  touches_watchReports _ _ _ .table (by decide)

theorem retireRecords_table (s : State) : KeepsScheduled s.table (retireRecords s).table := by
  rw [retireRecords, retireWhere_table]
  exact keepsScheduled_filter _ _

/-- An evaluation decided from a record of the first table puts back that record's key and scheduled minute. -/
theorem fullEvaluation_table {old : List ServiceRecord} {r : ServiceRecord} (hr : r ∈ old) {s : State}
    (h : KeepsScheduled old s.table) : KeepsScheduled old (fullEvaluation r s).table := by
  have htable : (fullEvaluation r s).table = replaceRecord (decideRules s.bank s.time.second r) s.table :=
    touches_ruleRequests _ _ _ .table (by decide)
  rw [htable]
  intro x hx
  obtain ⟨y, hy, rfl⟩ := List.mem_map.mp hx
  split
  next => exact ⟨r, hr, rfl, rfl⟩
  next => exact h y hy

theorem evaluateAll_table (s : State) : KeepsScheduled s.table (evaluateAll s).table :=
  List.foldlRecOn (motive := fun (u : State) => KeepsScheduled s.table u.table) s.table _ (.refl s.table)
    fun _ hu _ hr => fullEvaluation_table hr hu

theorem flushNode_table (s : State) : (flushNode s).table = [] :=
  (touches_lineBreak _ .table (by decide)).trans (touches_flushCues _ .table (by decide))

theorem holdTick_table (s : State) : KeepsScheduled s.table (holdTick s).table := by
  unfold holdTick
  split
  next =>
    simp only
    split
    next =>
      rw [enterIsolated, flushNode_table]
      exact fun r hr => absurd hr List.not_mem_nil
    next => exact .of_eq rfl
  next => exact .of_eq rfl

/-- Without the day turn no work of a second tick changes a key or a scheduled minute. -/
theorem tickWork_table {w : CycleWork} (hw : w ≠ .age true) (s : State) :
    KeepsScheduled s.table (tickWork w s).table := by
  cases w
  case age turn =>
    cases turn
    case false => exact tickAttention_table s
    case true => exact absurd rfl hw
  case retire => exact retireRecords_table s
  case rules => exact evaluateAll_table s
  case scheduler => exact .of_eq (touches_schedulerTests s .table (by decide))
  case hold => exact holdTick_table s
  all_goals exact .of_eq rfl

/-- The works of a second tick, in whatever order. -/
theorem mem_tickOrder {n : Nat} {turn : Bool} {w : CycleWork} :
    w ∈ tickOrder n turn ↔ w = .scheduler ∨ w = .age turn ∨ w = .retire ∨ w = .rules ∨ w = .hold := by
  have hperm := (weave_perm (Config.freeOrder n 0) [CycleWork.scheduler] [[.age turn, .retire], [.rules]]).flatten
  simp [tickOrder, hperm.mem_iff, or_assoc]

/-- R86: at a tick that is not the day turn every record that stays keeps its scheduled minute. -/
theorem secondTick_table {s : State} (h : s.time.turnsDay = false) :
    KeepsScheduled s.table (secondTick s).table := by
  unfold secondTick
  refine List.foldlRecOn (motive := fun (u : State) => KeepsScheduled s.table u.table) _ _
    (.of_eq (touches_advanceSecond s .table (by decide) :)) fun u hu w hw => hu.trans (tickWork_table ?_ u)
  rintro rfl
  simp [mem_tickOrder, h] at hw

/-- Settles O26: the clock's advance, which no other work of the tick reaches, and the records away from the day turn. -/
theorem secondTickAdvancesClock : Obligations.SecondTickAdvancesClock := by
  intro s hs
  refine ⟨secondTick s, rfl, ?_⟩
  obtain ⟨w, htime⟩ := secondTick_time s
  have hsecond : (secondTick s).time.second = if s.time.turnsDay then 0 else s.time.second + 1 := by rw [htime]; rfl
  have hday : (secondTick s).time.day = if s.time.turnsDay then (s.time.day + 1) % 65536 else s.time.day := by
    rw [htime]; rfl
  have hclock : (secondTick s).time.clock = s.time.clock.nextSecond := by rw [htime]; rfl
  refine ⟨fun hlt => ?_, fun heq => ?_, ?_, ?_⟩
  · have hstays : s.time.turnsDay = false := beq_false_of_ne hlt.ne
    rw [hsecond, hday, hstays]
    exact ⟨rfl, rfl, secondTick_table hstays⟩
  · have hturns : s.time.turnsDay = true := beq_iff_eq.mpr heq
    rw [hsecond, hday, hturns]
    exact ⟨rfl, rfl⟩
  · rw [htime]
    exact tickSecond_clock hs
  · obtain ⟨hu, ht, hm⟩ := clockOf_digits_le (civilSecond s.bank.params.dayStart s.time.second)
    rw [← civilClock, ← hs.clock] at hu ht hm
    obtain ⟨units, tensStay, tensStep, minutes, rest⟩ := nextSecond_carries hu ht hm
    rw [hclock]
    refine ⟨units, tensStay, tensStep, minutes, rest, fun h2359 => ?_⟩
    rw [h2359]
    rfl

end Sys2Proof.Laws
end

section
/-! SUPPORT. A step as a run of operations: each operation of the blocks by name, the blocks it may touch, and the theorem
that every command, and what passes on an empty queue, is made of them. An invariant is then a statement about one
operation, and an operation that touches no block the invariant reads keeps it. -/

namespace Sys2Proof.Laws

open Sys2Proof Sys2Proof.Machine

/-! ### The operations -/

/-- The operations of which a step is made. -/
inductive Op where
  | report (r : Report)
  | powerOn
  | powerUpEnd
  | generator (boundary : Bool)
  | second
  | countFree
  | countTick
  | setCycle (n : Nat)
  | mark (held : Option Nat) (day sec : Nat)
  | windowClose (t16 : Nat)
  | trim
  | mergeStart
  | age (dayTurn : Bool)
  | turnTable
  | retireWhere (p : ServiceRecord → Bool)
  | rules
  | attentionExpiry (key : Nat)
  | clearAttention (mode : AddrMode) (key : Nat)
  | post (mode : AddrMode) (b : PostBody)
  | amend (mode : AddrMode) (b : AmendBody)
  | withdraw (mode : AddrMode) (key : Nat)
  | scheduler
  | cueRelease (i : Nat)
  | cueExpiry (i : Nat)
  | cuePost (mode : AddrMode) (b : CuePostBody)
  | arbitrate
  | startSent
  | cancelSent
  | reply (k : ReplyKind) (chars : List LineChar)
  | closeWindow
  | breakEnd
  | quietEnd
  | pollDue (n : Nat)
  | playLimit (i : Nat)
  | lineCycle
  | lineTick
  | hold
  | holdLimit
  | commandReset
  | breakReset
  | breakTick
  | watchSet (mode : AddrMode) (key : Nat)
  | watchClear
  | overrideSet (mode : AddrMode) (b : OverrideBody)
  | overrideClear (mode : AddrMode) (level : Nat)
  | notice (mode : AddrMode) (b : NoticeBody)
  | compose
  | bankSwitch
  | tableWrite (mode : AddrMode) (table index : Nat) (entry : List Byte)
  | tableCopy
  | tableCommit (held : Option Nat) (mode : AddrMode) (gen cycle : Nat)
  | upSilence
  | downSilence
  | linkLoss
  | downstreamLost
  | hear
  | setGrant (g : Option Nat)
  | position (hop : Nat)
  | nodeFrame (held : Option Nat)
  | enterBreak
  | leaveBreak
  | forward (bs : List Byte)
  | originate
  | upstreamFrame (bs : List Byte)
  | upstreamStart
  | upTick

/-- R82: the number of a header taken, without the second tick it may make. -/
def takeCycle (n : Nat) (s : State) : State :=
  (s.setTime { s.time with cycle := n, window := none }).setRows
    { s.rows with fullDue := n == 32 && decide (n < s.time.cycle) }

/-- R80: one tick of the generator away from the end of its cycle. -/
def countTick (s : State) : State :=
  if s.time.cycleLength ≤ s.time.tickCount + 1 then s else s.setTime { s.time with tickCount := s.time.tickCount + 1 }

/-- R20: the last second of the attention of the record of a key. -/
def expireAttention (key : Nat) (s : State) : State :=
  s.setTable (s.table.map fun r => if r.key == key && r.attention == 1 then clearRecordAttention r else r)

/-- R116: the cue of an id released, when its release has come. -/
def releaseCue (i : Nat) (s : State) : State := noZoneCheck (updateCue i (Cue.release? s.time.second) s)

/-- R116: the cue of an id dropped, when its expiry has passed. -/
def expireCue (i : Nat) (s : State) : State :=
  dropCues (fun c => c.id == i && c.waits && decide (c.expiry < (s.time.second : Int))) .expired s

/-- The state POWER_ON leaves. -/
def powerOnState (s : State) : State :=
  ((State.reset.setPending s.pending).setFree s.free).setChain { State.reset.chain with upBreak := s.chain.upBreak }

/-- What an operation does. -/
def Op.run : Op → State → State
  | .report r => queueReport r
  | .powerOn => powerOnState
  | .powerUpEnd => Machine.powerUpEnd
  | .generator b => generatorStart b
  | .second => advanceSecond
  | .countFree => Machine.countFree
  | .countTick => Laws.countTick
  | .setCycle n => takeCycle n
  | .mark held day sec => takeMark held day sec
  | .windowClose t16 => windowCloses t16
  | .trim => trimAtFrameStart
  | .mergeStart => mergeFrameStart
  | .age d => ageTable d
  | .turnTable => Machine.turnTable
  | .retireWhere p => Machine.retireWhere p
  | .rules => evaluateAll
  | .attentionExpiry key => expireAttention key
  | .clearAttention mode key => Machine.clearAttention mode key
  | .post mode b => servicePost mode b
  | .amend mode b => serviceAmend mode b
  | .withdraw mode key => serviceWithdraw mode key
  | .scheduler => schedulerTests
  | .cueRelease i => releaseCue i
  | .cueExpiry i => expireCue i
  | .cuePost mode b => Machine.cuePost mode b
  | .arbitrate => Machine.arbitrate
  | .startSent => Machine.startSent
  | .cancelSent => Machine.cancelSent
  | .reply k chars => onReply k chars
  | .closeWindow => Machine.closeWindow
  | .breakEnd => lineBreakEnd
  | .quietEnd => lineQuietEnd
  | .pollDue n => pollFallsDue n
  | .playLimit i => reachPlayLimit i
  | .lineCycle => Machine.lineCycle
  | .lineTick => Machine.lineTick
  | .hold => holdTick
  | .holdLimit => reachHoldoverLimit
  | .commandReset => Machine.commandReset
  | .breakReset => Machine.breakReset
  | .breakTick => Machine.breakTick
  | .watchSet mode key => Machine.watchSet mode key
  | .watchClear => Machine.watchClear
  | .overrideSet mode b => Machine.overrideSet mode b
  | .overrideClear mode level => Machine.overrideClear mode level
  | .notice mode b => noticeSet mode b
  | .compose => Machine.compose
  | .bankSwitch => Machine.bankSwitch
  | .tableWrite mode table index entry => Machine.tableWrite mode table index entry
  | .tableCopy => Machine.tableCopy
  | .tableCommit held mode gen cycle => Machine.tableCommit held mode gen cycle
  | .upSilence => raiseUpSilence
  | .downSilence => raiseDownSilence
  | .linkLoss => Machine.linkLoss
  | .downstreamLost => Machine.downstreamLost
  | .hear => fun s => s.setChain { s.chain with upSilence := 0 }
  | .setGrant g => fun s => s.setChain { s.chain with grant := g }
  | .position hop => takePosition hop
  | .nodeFrame held => Machine.nodeFrame held
  | .enterBreak => Machine.enterBreak
  | .leaveBreak => Machine.leaveBreak
  | .forward bs => Machine.forward bs
  | .originate => originateFrame
  | .upstreamFrame bs => Machine.upstreamFrame bs
  | .upstreamStart => Machine.upstreamStart
  | .upTick => Machine.upTick

/-- The ranges of what a frame hands on: a cycle number of 6 bits, a day number of 16, a hop count of 6, and a grant that
names a position. -/
def Op.inRange : Op → Prop
  | .setCycle n => n < 64
  | .mark _ day _ => day < 65536
  | .position hop => hop ≤ 63
  | .setGrant g => ∀ p, g = some p → 1 ≤ p ∧ p ≤ 48
  | _ => True

/-- The blocks an operation may touch. -/
def Op.blocks : Op → List Block
  | .report _ | .watchSet _ _ | .watchClear => [.node]
  | .powerOn => [.chain, .store, .table, .cues, .line, .rows, .time, .ovr, .node, .ports]
  | .powerUpEnd | .downSilence | .downstreamLost => [.chain, .node]
  | .generator _ | .countTick => [.time]
  | .second => [.cues, .time]
  | .countFree => [.free]
  | .setCycle _ => [.time, .rows]
  | .mark _ _ _ | .hold | .holdLimit => [.table, .cues, .line, .time, .node]
  | .windowClose _ | .trim | .mergeStart | .nodeFrame _ => [.time, .node]
  | .age _ | .turnTable | .retireWhere _ | .clearAttention _ _ => [.table, .node]
  | .rules | .post _ _ | .amend _ _ | .withdraw _ _ => [.table, .cues, .node]
  | .attentionExpiry _ => [.table]
  | .scheduler | .cueRelease _ | .cueExpiry _ | .cuePost _ _ => [.cues, .node]
  | .arbitrate | .startSent | .playLimit _ | .lineCycle => [.cues, .line]
  | .cancelSent | .breakEnd | .quietEnd | .pollDue _ => [.line]
  | .reply _ _ | .closeWindow | .lineTick => [.cues, .line, .node]
  | .commandReset | .breakReset | .breakTick => [.chain, .store, .table, .cues, .line, .rows, .time, .ovr, .node]
  | .overrideSet _ _ => [.cues, .line, .ovr, .node]
  | .overrideClear _ _ => [.ovr, .node]
  | .notice _ _ => [.rows, .node]
  | .compose => [.rows, .ports]
  | .bankSwitch | .tableCommit _ _ _ _ => [.store, .table, .cues, .line, .time, .node]
  | .tableWrite _ _ _ _ => [.store, .node]
  | .tableCopy => [.store]
  | .upSilence | .linkLoss => [.chain, .time, .node]
  | .hear | .setGrant _ | .enterBreak | .leaveBreak => [.chain]
  | .position _ => [.chain, .table, .cues, .line, .time, .node]
  | .forward _ | .upTick => [.ports]
  | .originate | .upstreamFrame _ => [.node, .ports]
  | .upstreamStart => [.chain, .ports]

theorem touches_powerOnState (s : State) :
    Touches [.chain, .store, .table, .cues, .line, .rows, .time, .ovr, .node, .ports] s (powerOnState s) := by
  intro b hb
  cases b
  case pending => rfl
  case free => rfl
  all_goals exact absurd hb (by decide)

theorem touches_lineTimeout (s : State) : Touches [.cues, .line, .node] s (lineTimeout s) := by
  unfold lineTimeout
  split
  case h_1 => exact touches_refl _ s
  case h_2 => exact (touches_lineQuietEnd s).mono (by decide)
  case h_3 => exact (touches_lineBreakEnd s).mono (by decide)
  case h_4 => exact (touches_startSent s).mono (by decide)
  case h_5 => exact (touches_cancelSent s).mono (by decide)
  case h_6 => exact touches_closeWindow s

theorem touches_lineTick (s : State) : Touches [.cues, .line, .node] s (Machine.lineTick s) := by
  unfold Machine.lineTick
  split
  case h_1 => exact touches_refl _ s
  case h_2 => exact ((touches_setLine s _).mono (by decide)).trans (touches_lineTimeout _)
  case h_3 => exact (touches_setLine s _).mono (by decide)

theorem touches_takeCycle (s : State) (n : Nat) : Touches [.time, .rows] s (takeCycle n s) :=
  ((touches_setTime s _).mono (by decide)).trans ((touches_setRows _ _).mono (by decide))

theorem touches_releaseCue (s : State) (i : Nat) : Touches [.cues, .node] s (releaseCue i s) :=
  ((touches_updateCue s _ _).mono (by decide)).trans (touches_noZoneCheck _)

/-- An operation touches its blocks alone. -/
theorem Op.touches (o : Op) (s : State) : Touches o.blocks s (o.run s) := by
  cases o
  case report r => exact touches_queueReport s r
  case powerOn => exact touches_powerOnState s
  case powerUpEnd => exact touches_powerUpEnd s
  case generator b => exact touches_generatorStart s b
  case second => exact touches_advanceSecond s
  case countFree => exact touches_countFree s
  case countTick => exact touches_ite (touches_refl _ s) (touches_setTime s _)
  case setCycle n => exact touches_takeCycle s n
  case mark held day sec => exact touches_takeMark s held day sec
  case windowClose t16 => exact touches_windowCloses s t16
  case trim => exact touches_trimAtFrameStart s
  case mergeStart => exact touches_mergeFrameStart s
  case age d => exact touches_ageTable s d
  case turnTable => exact touches_turnTable s
  case retireWhere p => exact touches_retireWhere s p
  case rules => exact touches_evaluateAll s
  case attentionExpiry key => exact touches_setTable s _
  case clearAttention mode key => exact touches_clearAttention s mode key
  case post mode b => exact touches_servicePost s mode b
  case amend mode b => exact touches_serviceAmend s mode b
  case withdraw mode key => exact touches_serviceWithdraw s mode key
  case scheduler => exact touches_schedulerTests s
  case cueRelease i => exact touches_releaseCue s i
  case cueExpiry i => exact touches_dropCues s _ _
  case cuePost mode b => exact touches_cuePost s mode b
  case arbitrate => exact touches_arbitrate s
  case startSent => exact touches_startSent s
  case cancelSent => exact touches_cancelSent s
  case reply k chars => exact touches_onReply s k chars
  case closeWindow => exact touches_closeWindow s
  case breakEnd => exact touches_lineBreakEnd s
  case quietEnd => exact touches_lineQuietEnd s
  case pollDue n => exact touches_pollFallsDue s n
  case playLimit i => exact touches_reachPlayLimit s i
  case lineCycle => exact touches_lineCycle s
  case lineTick => exact touches_lineTick s
  case hold => exact touches_holdTick s
  case holdLimit => exact touches_reachHoldoverLimit s
  case commandReset => exact touches_commandReset s
  case breakReset => exact touches_breakReset s
  case breakTick =>
    exact touches_ite (touches_ite (touches_breakReset s) ((touches_setChain s _).mono (by decide))) (touches_refl _ s)
  case watchSet mode key => exact touches_watchSet s mode key
  case watchClear => exact touches_watchClear s
  case overrideSet mode b => exact touches_overrideSet s mode b
  case overrideClear mode level => exact touches_overrideClear s mode level
  case notice mode b => exact touches_noticeSet s mode b
  case compose => exact touches_compose s
  case bankSwitch => exact touches_bankSwitch s
  case tableWrite mode table index entry => exact touches_tableWrite s mode table index entry
  case tableCopy => exact touches_tableCopy s
  case tableCommit held mode gen cycle => exact touches_tableCommit s held mode gen cycle
  case upSilence => exact touches_raiseUpSilence s
  case downSilence => exact touches_raiseDownSilence s
  case linkLoss => exact touches_linkLoss s
  case downstreamLost => exact touches_downstreamLost s
  case hear => exact touches_setChain s _
  case setGrant g => exact touches_setChain s _
  case position hop => exact touches_takePosition s hop
  case nodeFrame held => exact touches_nodeFrame s held
  case enterBreak => exact touches_enterBreak s
  case leaveBreak => exact touches_leaveBreak s
  case forward bs => exact touches_forward s bs
  case originate => exact touches_originateFrame s
  case upstreamFrame bs => exact touches_upstreamFrame s bs
  case upstreamStart => exact touches_upstreamStart s
  case upTick => exact touches_setPorts s _

/-- An operation leaves a block that is not among its own. -/
theorem Op.same {o : Op} {b : Block} (h : o.blocks.contains b = false) (s : State) : b.same s (o.run s) :=
  o.touches s b (by simpa using h)

/-! ### Runs -/

/-- An operation that sets no clock: neither the power-on, nor a second, nor a time mark. -/
def Op.steady : Op → Bool
  | .powerOn | .second | .mark _ _ _ => false
  | _ => true

/-- `t` comes from `s` by operations that `p` allows, each within the ranges of what it was handed. -/
def RunsOf (p : Op → Bool) : State → State → Prop :=
  Relation.ReflTransGen fun s t => ∃ o : Op, p o = true ∧ o.inRange ∧ t = o.run s

/-- `t` comes from `s` by operations. -/
abbrev Runs : State → State → Prop := RunsOf fun _ => true

/-- `t` comes from `s` by operations that set no clock. -/
abbrev Drift : State → State → Prop := RunsOf Op.steady

section
variable {p : Op → Bool} {s t u : State}

theorem RunsOf.refl (s : State) : RunsOf p s s := Relation.ReflTransGen.refl

theorem RunsOf.trans (h : RunsOf p s t) (k : RunsOf p t u) : RunsOf p s u := Relation.ReflTransGen.trans h k

theorem RunsOf.runs (h : RunsOf p s t) : Runs s t := by
  induction h with
  | refl => exact .refl s
  | tail _ hstep ih =>
    obtain ⟨o, -, ho, rfl⟩ := hstep
    exact ih.tail ⟨o, rfl, ho, rfl⟩

theorem Op.runs (o : Op) (s : State) (h : o.inRange) : Runs s (o.run s) := .single ⟨o, rfl, h, rfl⟩

theorem Op.drift {o : Op} (hp : o.steady = true) (h : o.inRange) (s : State) : Drift s (o.run s) := .single ⟨o, hp, h, rfl⟩

theorem RunsOf.ite {c : Prop} [Decidable c] (h : c → RunsOf p s t) (k : ¬c → RunsOf p s u) :
    RunsOf p s (if c then t else u) := by
  split
  next hc => exact h hc
  next hc => exact k hc

theorem runs_foldl {α : Type} {f : State → α → State} (hf : ∀ s a, RunsOf p s (f s a)) :
    ∀ (l : List α) (s : State), RunsOf p s (l.foldl f s)
  | [], s => .refl s
  | a :: l, s => (hf s a).trans (runs_foldl hf l (f s a))

/-- What every operation of a run keeps, the run keeps. -/
theorem RunsOf.keeps {P : State → Prop} (hP : ∀ (o : Op) (s : State), p o = true → o.inRange → P s → P (o.run s))
    (h : RunsOf p s t) (hs : P s) : P t := by
  induction h with
  | refl => exact hs
  | tail _ hstep ih =>
    obtain ⟨o, hp, ho, rfl⟩ := hstep
    exact hP o _ hp ho ih

end

/-! ### The commands as runs -/

theorem drift_reportIfPosition (mode : AddrMode) (r : Report) (s : State) : Drift s (reportIfPosition mode r s) :=
  .ite (fun _ => Op.drift (o := .report r) rfl trivial s) fun _ => .refl s

theorem drift_queueAnswer (a : Answer) (s : State) : Drift s (queueAnswer a s) :=
  .ite (fun _ => Op.drift (o := .report (.answer a)) rfl trivial s) fun _ => .refl s

theorem drift_unknownKind (mode : AddrMode) (kind : Nat) (s : State) : Drift s (unknownKind mode kind s) :=
  .ite (fun _ => drift_reportIfPosition mode _ s) fun _ => .refl s

theorem drift_lengthRefused (takes : Bool) (mode : AddrMode) (kind : Nat) (key : Option Nat) (s : State) :
    Drift s (lengthRefused takes mode kind key s) :=
  .ite (fun _ => drift_reportIfPosition mode _ s) fun _ => .refl s

theorem drift_switchAtCycle (s : State) : Drift s (switchAtCycle s) := by
  have h : switchAtCycle s = s ∨ switchAtCycle s = Machine.bankSwitch s := by
    unfold switchAtCycle Machine.bankSwitch
    cases s.store.commit with
    | none => exact .inl rfl
    | some c =>
      by_cases hstate : s.node.state = .powerUp
      · simp [hstate]
      · by_cases hc : c.cycle = s.time.cycle <;> simp [hstate, hc]
  rcases h with h | h <;> rw [h]
  · exact .refl s
  · exact Op.drift (o := .bankSwitch) rfl trivial s

theorem drift_doWork (w : CycleWork) (s : State) : Drift s (doWork w s) := by
  cases w
  case age d => exact Op.drift (o := .age d) rfl trivial s
  case retire => exact Op.drift (o := .retireWhere (retires s.bank.params.grace s.time.second)) rfl trivial s
  case rules => exact Op.drift (o := .rules) rfl trivial s
  case scheduler => exact Op.drift (o := .scheduler) rfl trivial s
  case hold => exact Op.drift (o := .hold) rfl trivial s
  case switch => exact drift_switchAtCycle s
  case upSilence => exact Op.drift (o := .upSilence) rfl trivial s
  case downSilence => exact Op.drift (o := .downSilence) rfl trivial s
  case line => exact .ite (fun _ => .refl s) fun _ => Op.drift (o := .lineCycle) rfl trivial s
  case trim => exact Op.drift (o := .trim) rfl trivial s
  case originate e => exact .ite (fun _ => Op.drift (o := .originate) rfl trivial s) fun _ => .refl s
  case compose => exact Op.drift (o := .compose) rfl trivial s

/-- R83: the works of a second tick come after the second itself. -/
theorem drift_secondTick (s : State) : Drift (advanceSecond s) (secondTick s) := by
  have one (w : CycleWork) (u : State) : Drift u (tickWork w u) := by
    cases w
    case age d => exact Op.drift (o := .age d) rfl trivial u
    case retire => exact Op.drift (o := .retireWhere (retires u.bank.params.grace u.time.second)) rfl trivial u
    case rules => exact Op.drift (o := .rules) rfl trivial u
    case scheduler => exact Op.drift (o := .scheduler) rfl trivial u
    case hold => exact Op.drift (o := .hold) rfl trivial u
    all_goals exact .refl u
  exact (Op.drift (o := .countFree) rfl trivial _).trans (runs_foldl (fun u w => one w u) _ _)

theorem runs_secondTick (s : State) : Runs s (secondTick s) :=
  (Op.runs .second s trivial).trans (drift_secondTick s).runs

/-- R83: where an own cycle start stands with its clock, before the works that follow. -/
def clockStart (boundary : Bool) (s : State) : State :=
  if (generatorStart boundary s).time.cycle < s.time.cycle then advanceSecond (generatorStart boundary s)
  else generatorStart boundary s

theorem drift_startCycle (boundary : Bool) (s : State) : Drift (clockStart boundary s) (startCycle boundary s) := by
  have clock : clockStart boundary s =
      if decide ((generatorStart boundary s).time.cycle < s.time.cycle) = true then advanceSecond (generatorStart boundary s)
      else generatorStart boundary s := by
    unfold clockStart
    split <;> rename_i h <;> simp [h]
  rw [clock]
  exact (Op.drift (o := .countFree) rfl trivial _).trans (runs_foldl (fun u w => drift_doWork w u) _ _)

theorem runs_clockStart (boundary : Bool) (s : State) : Runs s (clockStart boundary s) := by
  have gen : Runs s (generatorStart boundary s) := Op.runs (.generator boundary) s trivial
  exact .ite (fun _ => gen.trans (Op.runs .second _ trivial)) fun _ => gen

theorem runs_startCycle (boundary : Bool) (s : State) : Runs s (startCycle boundary s) :=
  (runs_clockStart boundary s).trans (drift_startCycle boundary s).runs

theorem runs_frameStart (s : State) : Runs s (frameStart s) := by
  have hear : Runs s (s.setChain { s.chain with upSilence := 0 }) := Op.runs .hear s trivial
  exact .ite (fun _ => .refl s) fun _ =>
    .ite (fun _ => hear.trans (Op.runs .mergeStart _ trivial)) fun _ => hear.trans (runs_startCycle false _)

theorem runs_correctCycle {n : Nat} (hn : n < 64) (s : State) : Runs s (correctCycle n s) := by
  have take : Runs s (takeCycle n s) := Op.runs (.setCycle n) s hn
  exact .ite (fun _ => .refl s) fun _ => .ite (fun _ => take.trans (runs_secondTick _)) fun _ => take

theorem drift_deliverQuery (mode : AddrMode) (bs : List Byte) (s : State) : Drift s (deliverQuery mode bs s) := by
  unfold deliverQuery
  split
  case h_7 => exact drift_lengthRefused _ _ _ _ s
  all_goals exact drift_queueAnswer _ s

theorem drift_deliverControl (mode : AddrMode) (bs : List Byte) (s : State) : Drift s (deliverControl mode bs s) := by
  unfold deliverControl
  split
  case h_1 => exact Op.drift (o := .commandReset) rfl trivial s
  case h_2 => exact Op.drift (o := .clearAttention mode _) rfl trivial s
  case h_3 => exact Op.drift (o := .watchSet mode _) rfl trivial s
  case h_4 => exact Op.drift (o := .watchClear) rfl trivial s
  case h_5 => exact drift_lengthRefused _ _ _ _ s

theorem drift_deliver (held : Option Nat) (mode : AddrMode) (kind : Nat) (bs : List Byte) (s : State) :
    Drift s (deliver held mode kind bs s) := by
  have refused (takes : Bool) (k : Nat) (key : Option Nat) : Drift s (lengthRefused takes mode k key s) :=
    drift_lengthRefused takes mode k key s
  have op (o : Op) (hp : o.steady = true) (h : o.inRange) : Drift s (o.run s) := Op.drift hp h s
  unfold deliver
  simp only
  split
  case h_1 => split; exacts [op (.post mode _) rfl trivial, refused _ _ _]
  case h_2 => split; exacts [op (.amend mode _) rfl trivial, refused _ _ _]
  case h_3 => exact .ite (fun _ => op (.withdraw mode _) rfl trivial) fun _ => refused _ _ _
  case h_4 => split; exacts [op (.notice mode _) rfl trivial, refused _ _ _]
  case h_5 => split; exacts [op (.cuePost mode _) rfl trivial, refused _ _ _]
  case h_6 => split; exacts [op (.overrideSet mode _) rfl trivial, refused _ _ _]
  case h_7 => exact .ite (fun _ => op (.overrideClear mode _) rfl trivial) fun _ => refused _ _ _
  case h_8 => exact .ite (fun _ => op (.tableWrite mode _ _ _) rfl trivial) fun _ => refused _ _ _
  case h_9 => exact .ite (fun _ => op .tableCopy rfl trivial) fun _ => refused _ _ _
  case h_10 => exact .ite (fun _ => op (.tableCommit held mode _ _) rfl trivial) fun _ => refused _ _ _
  case h_11 => exact drift_deliverQuery mode bs s
  case h_12 => exact drift_deliverControl mode bs s
  case h_13 => exact drift_unknownKind mode _ s

theorem drift_deliverMessage (held : Option Nat) (m : RawMessage) (s : State) : Drift s (deliverMessage held m s) := by
  refine .ite (fun _ => ?_) fun _ => .refl s
  split
  next => exact .refl s
  next => exact drift_deliver _ _ _ _ s

/-! ### The ranges of a frame's header (9.7) -/

theorem byteAt_lt (bs : List Byte) (i : Nat) : byteAt bs i < 256 := BitVec.isLt _

theorem u16At_lt (bs : List Byte) (i : Nat) : u16At bs i < 65536 := by
  have h := byteAt_lt bs i
  have h1 := byteAt_lt bs (i + 1)
  unfold u16At
  omega

/-- The header of a frame that passes its check is within the ranges of its fields. -/
structure HeaderInRange (f : ParsedFrame) : Prop where
  cycle : f.cycle < 64
  day : ∀ day sec, f.mark = some (day, sec) → day < 65536
  hop : f.hop ≤ 63
  grant : ∀ g, f.grant = some g → 1 ≤ g ∧ g ≤ 48

theorem parseFrame_inRange {bs : List Byte} {f : ParsedFrame} (h : parseFrame bs = some f) : HeaderInRange f := by
  unfold parseFrame at h
  split at h
  next => cases h
  next ms _ =>
    split at h
    next =>
      cases h
      refine ⟨Nat.mod_lt _ (by decide), fun day sec hmark => ?_, Nat.le_of_lt_succ (Nat.mod_lt _ (by decide)), fun g hg => ?_⟩
      · dsimp only at hmark
        split at hmark
        next => cases hmark; exact u16At_lt bs 5
        next => cases hmark
      · dsimp only at hg
        split at hg
        next hpos => cases hg; exact hpos
        next => cases hg
    next => cases h

theorem runs_takeHeader {f : ParsedFrame} (hf : HeaderInRange f) (s : State) : Runs s (takeHeader f s) := by
  have start : Runs s (correctCycle f.cycle (Machine.nodeFrame s.chain.position (takePosition f.hop s))) :=
    ((Op.runs (.position f.hop) s hf.hop).trans (Op.runs (.nodeFrame _) _ trivial)).trans (runs_correctCycle hf.cycle _)
  have grant (u : State) : Runs u (u.setChain { u.chain with grant := f.grant }) := Op.runs (.setGrant f.grant) u hf.grant
  unfold takeHeader
  simp only
  split
  next => exact start.trans (grant _)
  next day sec hmark => exact (start.trans (Op.runs (.mark _ day sec) _ (hf.day day sec hmark))).trans (grant _)

theorem drift_takeFrame (f : ParsedFrame) (s : State) : Drift (takeHeader f s) (takeFrame f s) :=
  runs_foldl (fun s m => drift_deliverMessage _ m s) _ _

theorem runs_receiveFrame (bs : List Byte) (s : State) : Runs s (receiveFrame bs s) := by
  have sent : Runs s (Machine.forward bs s) := Op.runs (.forward bs) s trivial
  refine .ite (fun _ => .refl s) fun _ => ?_
  split
  next => exact sent.trans (Op.runs (.setGrant none) _ (by intro _ h; cases h))
  next f hf => exact (sent.trans (runs_takeHeader (parseFrame_inRange hf) _)).trans (drift_takeFrame f _).runs

theorem runs_dayTurn (s : State) : Runs s (Machine.dayTurn s) :=
  .ite (fun _ => (Op.runs .second s trivial).trans (Op.runs .turnTable _ trivial)) fun _ => .refl s

/-- The commands that set a clock: the power-on, the second ticks and the frames. -/
def setsClock : Instr → Bool
  | .powerOn | .ownCycleBoundary | .frameStart | .frame _ | .secondTick | .dayTurn => true
  | _ => false

/-- Every other command is a run of operations that set no clock. -/
theorem exec_drift (c : Instr) (s : State) (h : setsClock c = false) : ∃ t, exec c s = .next t ∧ Drift s t := by
  have op (o : Op) (hp : o.steady = true) (h : o.inRange) : Drift s (o.run s) := Op.drift hp h s
  cases c
  case powerOn => cases h
  case ownCycleBoundary => cases h
  case frameStart => cases h
  case frame bs => cases h
  case secondTick => cases h
  case dayTurn => cases h
  case powerUpEnd => exact ⟨_, rfl, op .powerUpEnd rfl trivial⟩
  case upstreamFrameStart => exact ⟨_, rfl, op .upstreamStart rfl trivial⟩
  case upstreamFrame bs => exact ⟨_, rfl, op (.upstreamFrame bs) rfl trivial⟩
  case breakState => exact ⟨_, rfl, op .enterBreak rfl trivial⟩
  case breakStateEnd => exact ⟨_, rfl, op .leaveBreak rfl trivial⟩
  case chainReset => exact ⟨_, rfl, op .breakReset rfl trivial⟩
  case linkLoss => exact ⟨_, rfl, op .linkLoss rfl trivial⟩
  case downstreamLost => exact ⟨_, rfl, op .downstreamLost rfl trivial⟩
  case attentionExpiry key => exact ⟨_, rfl, op (.attentionExpiry key) rfl trivial⟩
  case retirement key => exact ⟨_, rfl, op (.retireWhere _) rfl trivial⟩
  case cueRelease i => exact ⟨_, rfl, op (.cueRelease i) rfl trivial⟩
  case cueExpiry i => exact ⟨_, rfl, op (.cueExpiry i) rfl trivial⟩
  case retryHoldExpiry i => exact ⟨_, rfl, .ite (fun _ => op .arbitrate rfl trivial) fun _ => .refl s⟩
  case trimWindowClose t16 => exact ⟨_, rfl, op (.windowClose t16) rfl trivial⟩
  case holdoverLimit => exact ⟨_, rfl, op .holdLimit rfl trivial⟩
  case bankSwitch => exact ⟨_, rfl, op .bankSwitch rfl trivial⟩
  case servicePost mode b => exact ⟨_, rfl, op (.post mode b) rfl trivial⟩
  case serviceAmend mode b => exact ⟨_, rfl, op (.amend mode b) rfl trivial⟩
  case serviceWithdraw mode key => exact ⟨_, rfl, op (.withdraw mode key) rfl trivial⟩
  case noticeSet mode b => exact ⟨_, rfl, op (.notice mode b) rfl trivial⟩
  case cuePost mode b => exact ⟨_, rfl, op (.cuePost mode b) rfl trivial⟩
  case overrideSet mode b => exact ⟨_, rfl, op (.overrideSet mode b) rfl trivial⟩
  case overrideClear mode level => exact ⟨_, rfl, op (.overrideClear mode level) rfl trivial⟩
  case tableWrite mode table index entry => exact ⟨_, rfl, op (.tableWrite mode table index entry) rfl trivial⟩
  case tableCopy mode => exact ⟨_, rfl, op .tableCopy rfl trivial⟩
  case tableCommit mode gen cycle => exact ⟨_, rfl, op (.tableCommit _ mode gen cycle) rfl trivial⟩
  case commandReset => exact ⟨_, rfl, op .commandReset rfl trivial⟩
  case clearAttention mode key => exact ⟨_, rfl, op (.clearAttention mode key) rfl trivial⟩
  case watchSet mode key => exact ⟨_, rfl, op (.watchSet mode key) rfl trivial⟩
  case watchClear => exact ⟨_, rfl, op .watchClear rfl trivial⟩
  case unknownMessageKind mode kind => exact ⟨_, rfl, drift_unknownKind mode kind s⟩
  case lineArbitration => exact ⟨_, rfl, op .arbitrate rfl trivial⟩
  case startSent => exact ⟨_, rfl, op .startSent rfl trivial⟩
  case cancelSent => exact ⟨_, rfl, op .cancelSent rfl trivial⟩
  case taken chars => exact ⟨_, rfl, op (.reply .taken chars) rfl trivial⟩
  case busy chars => exact ⟨_, rfl, op (.reply .busy chars) rfl trivial⟩
  case stopped chars => exact ⟨_, rfl, op (.reply .stopped chars) rfl trivial⟩
  case playing chars => exact ⟨_, rfl, op (.reply .playing chars) rfl trivial⟩
  case finished chars => exact ⟨_, rfl, op (.reply .finished chars) rfl trivial⟩
  case idle chars => exact ⟨_, rfl, op (.reply .idle chars) rfl trivial⟩
  case replyWindowClose => exact ⟨_, rfl, op .closeWindow rfl trivial⟩
  case lineBreakEnd => exact ⟨_, rfl, op .breakEnd rfl trivial⟩
  case pollTimerExpiry n => exact ⟨_, rfl, op (.pollDue n) rfl trivial⟩
  case playLimitReached i => exact ⟨_, rfl, op (.playLimit i) rfl trivial⟩
  case lineQuietEnd => exact ⟨_, rfl, op .quietEnd rfl trivial⟩
  all_goals exact ⟨_, rfl, drift_queueAnswer _ s⟩

/-- Every command completes, by a run of operations. -/
theorem exec_runs (c : Instr) (s : State) : ∃ t, exec c s = .next t ∧ Runs s t := by
  by_cases hc : setsClock c = false
  · obtain ⟨t, ht, hrun⟩ := exec_drift c s hc
    exact ⟨t, ht, hrun.runs⟩
  · cases c
    case powerOn => exact ⟨_, rfl, Op.runs .powerOn s trivial⟩
    case ownCycleBoundary => exact ⟨_, rfl, runs_startCycle true s⟩
    case frameStart => exact ⟨_, rfl, runs_frameStart s⟩
    case frame bs => exact ⟨_, rfl, runs_receiveFrame bs s⟩
    case secondTick => exact ⟨_, rfl, runs_secondTick s⟩
    case dayTurn => exact ⟨_, rfl, runs_dayTurn s⟩
    all_goals exact absurd rfl hc

/-! ### A step as a run -/

theorem runs_cycleTick (s : State) : Runs s (cycleTick s) := by
  have h : cycleTick s = if s.time.cycleLength ≤ s.time.tickCount + 1 then startCycle true s else Laws.countTick s := by
    unfold cycleTick Laws.countTick
    split <;> rfl
  rw [h]
  exact .ite (fun _ => runs_startCycle true s) fun _ => Op.runs .countTick s trivial

theorem runs_referenceTick (s : State) : Runs s (referenceTick s) :=
  (((Op.runs .upTick s trivial).trans (Op.runs .breakTick _ trivial)).trans (Op.runs .lineTick _ trivial)).trans
    (runs_cycleTick _)

theorem runs_idleStep (s : State) : Runs s (idleStep s) :=
  .ite (fun _ => Op.runs .powerUpEnd s trivial) fun _ =>
    .ite (fun _ => Op.runs .arbitrate s trivial) fun _ => runs_referenceTick s

/-- A step takes the front command off the queue and is a run of operations from there. -/
theorem step_runs {s t : State} (h : step s = .next t) : Runs (s.setPending s.pending.tail) t := by
  unfold step at h
  split at h
  next hq =>
    cases h
    have hs : s.setPending s.pending.tail = s := by rw [hq, List.tail_nil, ← hq, State.setPending_self]
    rw [hs]
    exact runs_idleStep s
  next c rest hq =>
    obtain ⟨u, hu, hrun⟩ := exec_runs c (s.setPending rest)
    rw [h] at hu
    cases hu
    rw [hq]
    exact hrun

/-- What every operation in range keeps, and the waiting commands have no part in, every step keeps. -/
theorem step_keeps {P : State → Prop} (hqueue : ∀ s v, P s → P (s.setPending v))
    (hP : ∀ (o : Op) (s : State), o.inRange → P s → P (o.run s)) {s t : State} (h : step s = .next t) (hs : P s) : P t :=
  (step_runs h).keeps (fun o s _ => hP o s) (hqueue s _ hs)

/-- Settles O3: a run of operations, none of which touches the waiting commands. -/
theorem execLeavesTheCommandQueue : Obligations.ExecLeavesTheCommandQueue := by
  intro c s
  obtain ⟨t, ht, hrun⟩ := exec_runs c s
  refine ⟨t, ht, hrun.keeps (P := fun u => u.pending = s.pending) (fun o u _ _ hu => ?_) rfl⟩
  have hsame : (o.run u).pending = u.pending := Op.same (b := .pending) (by cases o <;> rfl) u
  exact hsame.trans hu

/-- Settles O1: the definition of a step on a queue that is not empty. -/
theorem stepTakesTheFrontCommand : Obligations.StepTakesTheFrontCommand := by
  intro c rest s h
  rw [step, h]

end Sys2Proof.Laws
end

section
/-! SUPPORT. Calm operations: those that leave the node controller but for reports, and that bring no record and no cue to
a node that is not in RUNNING (R102, R172, R173). -/

namespace Sys2Proof.Laws

open Sys2Proof.Machine

/-- The node controller of `t` is that of `s` after some reports. -/
def Told (s t : State) : Prop := ∃ rs, t.node = nodeAfterReports rs s.node

/-- An operation that tells reports at most, and outside RUNNING leaves an empty table and an empty cue queue empty. -/
structure Calm (s t : State) : Prop where
  told : Told s t
  cues : s.node.state ≠ .running → s.cues.queue = [] → t.cues.queue = []
  table : s.node.state ≠ .running → s.table = [] → t.table = []

theorem Told.of_eq {s t : State} (h : t.node = s.node) : Told s t := ⟨[], h⟩

theorem Told.refl (s : State) : Told s s := .of_eq rfl

theorem Told.trans {s t u : State} (h : Told s t) (k : Told t u) : Told s u := by
  obtain ⟨rs, hr⟩ := h
  obtain ⟨qs, hq⟩ := k
  exact ⟨rs ++ qs, by rw [hq, hr, nodeAfterReports_append]⟩

theorem Told.ite {s t u : State} {c : Prop} [Decidable c] (h : Told s t) (k : Told s u) :
    Told s (if c then t else u) := by split <;> assumption

theorem Told.state {s t : State} (h : Told s t) : t.node.state = s.node.state := by
  obtain ⟨rs, hr⟩ := h
  rw [hr, nodeAfterReports_state]

theorem Calm.refl (s : State) : Calm s s := ⟨.refl s, fun _ h => h, fun _ h => h⟩

theorem Calm.trans {s t u : State} (h : Calm s t) (k : Calm t u) : Calm s u :=
  have hstate (hs : s.node.state ≠ .running) : t.node.state ≠ .running := by rwa [h.told.state]
  ⟨h.told.trans k.told, fun hs hc => k.cues (hstate hs) (h.cues hs hc), fun hs ht => k.table (hstate hs) (h.table hs ht)⟩

theorem Calm.ite {s t u : State} {c : Prop} [Decidable c] (h : Calm s t) (k : Calm s u) :
    Calm s (if c then t else u) := by split <;> assumption

/-- An operation taken in RUNNING alone. -/
theorem Calm.guarded {s t : State} (h : Told s t) : Calm s (if s.node.state = .running then t else s) := by
  split
  next hrun => exact ⟨h, fun hs => absurd hrun hs, fun hs => absurd hrun hs⟩
  next => exact .refl s

/-- An operation that touches neither node controller, table nor cues. -/
theorem Calm.of_touches {bs : List Block} {s t : State} (h : Touches bs s t)
    (hbs : bs.contains .node = false ∧ bs.contains .cues = false ∧ bs.contains .table = false) : Calm s t := by
  simp only [List.contains_eq_mem, decide_eq_false_iff_not] at hbs
  obtain ⟨hn, hc, ht⟩ := hbs
  have hcues : t.cues = s.cues := h .cues hc
  have htable : t.table = s.table := h .table ht
  exact ⟨.of_eq (h .node hn), fun _ he => by rw [hcues, he], fun _ he => by rw [htable, he]⟩

theorem calm_foldl {α : Type} {f : State → α → State} (hf : ∀ s a, Calm s (f s a)) :
    ∀ (l : List α) (s : State), Calm s (l.foldl f s)
  | [], s => .refl s
  | a :: l, s => (hf s a).trans (calm_foldl hf l (f s a))

theorem calm_setCues {s : State} {v : Scheduler} (h : s.cues.queue = [] → v.queue = []) : Calm s (s.setCues v) :=
  ⟨.of_eq rfl, fun _ => h, fun _ ht => ht⟩

theorem calm_setTable {s : State} {v : List ServiceRecord} (h : s.table = [] → v = []) : Calm s (s.setTable v) :=
  ⟨.of_eq rfl, fun _ hc => hc, fun _ => h⟩

variable (s : State)

/-! ### Shared operations -/

theorem calm_queueReport (r : Report) : Calm s (queueReport r s) := by
  rw [queueReport_eq]
  exact ⟨⟨[r], rfl⟩, fun _ h => h, fun _ h => h⟩

theorem calm_queueReports (rs : List Report) : Calm s (queueReports rs s) :=
  calm_foldl (fun s r => calm_queueReport s r) rs s

theorem calm_reportIfPosition (mode : AddrMode) (r : Report) : Calm s (reportIfPosition mode r s) :=
  .ite (calm_queueReport s r) (.refl s)

theorem calm_watchReport (ev : WatchEvent) (r : ServiceRecord) : Calm s (watchReport ev r s) :=
  .ite (calm_queueReport s _) (.refl s)

theorem calm_watchReports (ev : WatchEvent) (rs : List ServiceRecord) : Calm s (watchReports ev rs s) :=
  calm_foldl (fun s r => calm_watchReport s ev r) rs s

theorem calm_updateCue (i : Nat) (f : Cue → Cue) : Calm s (updateCue i f s) :=
  calm_setCues fun h => by simp [h]

theorem calm_removeCue (i : Nat) : Calm s (removeCue i s) :=
  calm_setCues fun h => by simp [h]

theorem calm_dropCues (p : Cue → Bool) (reason : DropReason) : Calm s (dropCues p reason s) :=
  (calm_setCues fun h => by simp [h]).trans (calm_queueReports _ _)

theorem calm_noZoneCheck : Calm s (noZoneCheck s) := calm_dropCues s _ _

/-! ### The cue scheduler -/

theorem told_placeCue (c : Cue) : Told s (placeCue c s) := by
  unfold placeCue
  split
  next => exact .of_eq rfl
  next =>
    split
    next => exact (calm_queueReport s _).told
    next => exact .ite ((calm_dropCues s _ _).told.trans (.of_eq rfl)) (calm_queueReport s _).told

theorem told_enterCue (c : Cue) : Told s (enterCue c s) := by
  unfold enterCue
  split
  next => exact ((calm_updateCue s _ _).trans (calm_noZoneCheck _)).told
  next => exact (told_placeCue s c).trans (calm_noZoneCheck _).told

theorem calm_dropRequest (source : CueSource) (key : Nat) (t : Option Nat) (reason : DropReason) :
    Calm s (dropRequest source key t reason s) := calm_queueReport s _

theorem told_timeCue (source : CueSource) (key : Nat) (t : Option Nat) (codes : List Nat) (zones : BitVec 8)
    (priority : Nat) (release : Int) (lifetime playLimit : Nat) :
    Told s (timeCue source key t codes zones priority release lifetime playLimit s) :=
  .ite (calm_dropRequest s _ _ _ _).told (.ite (calm_dropRequest s _ _ _ _).told (told_enterCue s _))

theorem told_requestTemplate (source : CueSource) (key t : Nat) (r : Option ServiceRecord) :
    Told s (requestTemplate source key t r s) :=
  .ite (calm_dropRequest s _ _ _ _).told (.ite (calm_dropRequest s _ _ _ _).told (told_timeCue s _ _ _ _ _ _ _ _ _))

theorem calm_requestCue (source : CueSource) (key : Nat) (t : Option Nat) (r : Option ServiceRecord) :
    Calm s (requestCue source key t r s) := by
  refine .guarded ?_
  split
  next => exact .refl s
  next => exact told_requestTemplate s _ _ _ _

theorem calm_cuePost (mode : AddrMode) (b : CuePostBody) : Calm s (cuePost mode b s) :=
  .guarded (.ite (calm_reportIfPosition s _ _).told
    (.ite (calm_dropRequest s _ _ _ _).told (told_timeCue s _ _ _ _ _ _ _ _ _)))

theorem calm_dropKey (key : Nat) (reason : DropReason) : Calm s (dropKey key reason s) := calm_dropCues s _ _

theorem calm_expiryTest (sec : Int) : Calm s (expiryTest sec s) := calm_dropCues s _ _

theorem calm_releaseTest (sec : Int) : Calm s (releaseTest sec s) := calm_setCues fun h => by simp [h]

theorem calm_lowerCues : Calm s (lowerCues s) := calm_setCues fun h => by simp [h]

theorem calm_schedulerTests : Calm s (schedulerTests s) :=
  ((calm_expiryTest s _).trans (calm_releaseTest _ _)).trans (calm_noZoneCheck _)

theorem calm_schedulerStep (cls : StepClass) (old new : Int) (crosses : Bool) :
    Calm s (schedulerStep cls old new crosses s) := by
  have skip : Calm s
      (if cls = .longStep then
        dropCues (fun c => c.state == .waiting && decide (old < c.release) && decide (c.release ≤ new)) .skipped s
      else s) := .ite (calm_dropCues s _ _) (.refl s)
  have tests := (skip.trans (calm_expiryTest _ new)).trans (calm_releaseTest _ new)
  unfold schedulerStep
  exact Calm.trans (.ite (tests.trans (calm_lowerCues _)) tests) (calm_noZoneCheck _)

theorem calm_clearHolds : Calm s (clearHolds s) := calm_setCues fun h => by simp [h]

theorem calm_flushCues : Calm s (flushCues s) := calm_dropCues s _ _

theorem calm_coalesceReturned (i : Nat) : Calm s (coalesceReturned i s) := by
  unfold coalesceReturned
  split
  next => exact .refl s
  next =>
    split
    next => exact .refl s
    next =>
      have merge (j : Nat) (f : Cue → Cue) : Calm s (updateCue i f (removeCue j s)) :=
        (calm_removeCue s _).trans (calm_updateCue _ _ _)
      exact .ite ((merge _ _).trans (calm_dropCues _ _ _)) (merge _ _)

theorem calm_returnCue (i : Nat) (hold : Option Int) : Calm s (returnCue i hold s) :=
  ((calm_updateCue s _ _).trans (calm_coalesceReturned _ _)).trans (calm_noZoneCheck _)

/-! ### The rule evaluator and the service list unit -/

theorem calm_ruleRequests (edges : List Nat) (r : ServiceRecord) : Calm s (ruleRequests edges r s) := by
  refine calm_foldl (fun s n => .ite ?_ (.refl s)) edges s
  split
  next => exact .refl s
  next => exact calm_requestCue s _ _ _ _

theorem calm_fullEvaluation (r : ServiceRecord) : Calm s (fullEvaluation r s) :=
  (calm_setTable fun h => by simp [h, replaceRecord]).trans (calm_ruleRequests _ _ _)

theorem calm_evaluateAll : Calm s (evaluateAll s) := calm_foldl (fun s r => calm_fullEvaluation s r) _ s

theorem calm_rebaseline : Calm s (rebaseline s) := calm_setTable fun h => by simp [h]

theorem calm_builtInRequest (e : Bool) (source : CueSource) (r : ServiceRecord) :
    Calm s (builtInRequest e source r s) := .ite (calm_requestCue s _ _ _ _) (.refl s)

theorem calm_builtInRequests (e : Bool) (ch : FieldChange) : Calm s (builtInRequests e ch s) := by
  have cancel : Calm s (if ch.cancelCue then builtInRequest e .cancel ch.record s else s) :=
    .ite (calm_builtInRequest s _ _ _) (.refl s)
  unfold builtInRequests
  simp only
  split
  next => exact cancel
  next => exact cancel.trans (calm_builtInRequest _ _ _ _)

theorem calm_afterApply (ev : WatchEvent) (key : Nat) : Calm s (afterApply ev key s) := by
  unfold afterApply
  split
  next => exact .refl s
  next =>
    simp only
    split
    next => exact calm_fullEvaluation s _
    next => exact (calm_fullEvaluation s _).trans (calm_watchReport _ _ _)

theorem calm_leaveSelection (r : ServiceRecord) : Calm s (leaveSelection r s) :=
  (calm_queueReport s _).trans (calm_watchReport _ _ _)

theorem told_settleChange (ev : WatchEvent) (e : Bool) (ch : FieldChange) (sel : BitVec 4 × Bool) :
    Told s (settleChange ev e ch sel s) :=
  have put (t : List ServiceRecord) : Told s (builtInRequests e ch (s.setTable t)) :=
    (Told.of_eq (s := s) rfl).trans (calm_builtInRequests _ _ _).told
  .ite ((put _).trans (calm_leaveSelection _ _).told) ((Told.of_eq (s := s) rfl).trans
    ((calm_builtInRequests _ _ _).trans (calm_afterApply _ _ _)).told)

theorem told_createRecord (r : ServiceRecord) : Told s (createRecord r s) :=
  (Told.of_eq (s := s) rfl).trans (calm_afterApply _ _ _).told

theorem told_evictRecord (r : ServiceRecord) : Told s (evictRecord r s) :=
  (Told.of_eq (s := s) rfl).trans
    (((calm_queueReport _ _).trans (calm_dropKey _ _ _)).trans (calm_watchReport _ _ _)).told

theorem told_postNew (r : ServiceRecord) : Told s (postNew r s) := by
  refine .ite (told_createRecord s r) ?_
  split
  next => exact told_createRecord s r
  next => exact .ite ((told_evictRecord s _).trans (told_createRecord _ _)) (calm_queueReport s _).told

theorem calm_servicePost (mode : AddrMode) (b : PostBody) : Calm s (servicePost mode b s) := by
  refine .guarded (.ite (calm_reportIfPosition s _ _).told ?_)
  simp only
  split
  next => exact .ite (.refl s) (told_postNew s _)
  next => exact .ite ((Told.of_eq (s := s) rfl).trans (calm_leaveSelection _ _).told) (told_settleChange s _ _ _ _)

theorem calm_serviceAmend (mode : AddrMode) (b : AmendBody) : Calm s (serviceAmend mode b s) := by
  refine .guarded ?_
  split
  next => exact (calm_reportIfPosition s _ _).told
  next => exact told_settleChange s _ _ _ _

theorem calm_serviceWithdraw (mode : AddrMode) (key : Nat) : Calm s (serviceWithdraw mode key s) := by
  refine .guarded ?_
  split
  next => exact (calm_reportIfPosition s _ _).told
  next => exact (Told.of_eq (s := s) rfl).trans ((calm_dropKey _ _ _).trans (calm_watchReport _ _ _)).told

theorem calm_tickAttention : Calm s (tickAttention s) := calm_setTable fun h => by simp [h]

theorem calm_retireWhere (p : ServiceRecord → Bool) : Calm s (retireWhere p s) :=
  (calm_setTable fun h => by simp [h]).trans (calm_watchReports _ _ _)

theorem calm_turnTable : Calm s (turnTable s) :=
  (calm_retireWhere s _).trans (calm_setTable fun h => by simp [h])

theorem calm_ageTable (turn : Bool) : Calm s (ageTable turn s) :=
  .ite ((calm_tickAttention s).trans (calm_turnTable _)) (calm_tickAttention s)

theorem calm_reselectOne (r : ServiceRecord) : Calm s (reselectOne s r) :=
  .ite ((calm_setTable fun h => by simp [h, removeKey]).trans (calm_leaveSelection _ _))
    (calm_setTable fun h => by simp [h, replaceRecord])

theorem calm_reselectAll : Calm s (reselectAll s) := calm_foldl (fun s r => calm_reselectOne s r) _ s

/-! ### The cue line controller -/

theorem calm_putZone (n : Nat) (z : Zone) : Calm s (putZone n z s) := .of_touches (touches_putZone s n z) (by decide)

theorem calm_withdrawStop (n : Nat) : Calm s (withdrawStop n s) := .of_touches (touches_withdrawStop s n) (by decide)

theorem calm_freeZone (n : Nat) : Calm s (freeZone n s) :=
  have free := (calm_putZone s n _).trans (calm_withdrawStop _ n)
  .ite (free.trans (calm_noZoneCheck _)) free

theorem calm_faultZone (n : Nat) : Calm s (faultZone n s) :=
  have fault := ((calm_queueReport s _).trans (calm_putZone _ n _)).trans (calm_withdrawStop _ n)
  .ite (fault.trans (calm_noZoneCheck _)) fault

theorem calm_haltCues (ids : List Nat) : Calm s (haltCues ids s) := .of_touches (touches_haltCues s ids) (by decide)

theorem calm_endPlay (i : Nat) : Calm s (endPlay i s) := by
  unfold endPlay
  split
  next => exact .refl s
  next =>
    exact .ite (.ite (calm_returnCue s _ _) (calm_dropCues s _ _)) ((calm_removeCue s _).trans (calm_queueReport _ _))

theorem calm_releaseFrom (i n : Nat) (completed : Bool) : Calm s (releaseFrom i n completed s) :=
  have count := calm_updateCue s i
  .ite ((count _).trans (calm_endPlay _ _)) (count _)

theorem calm_freeAndRelease (n : Nat) (completed : Bool) : Calm s (freeAndRelease n completed s) := by
  unfold freeAndRelease
  split
  next => exact calm_freeZone s n
  next => exact (calm_freeZone s n).trans (calm_releaseFrom _ _ _ _)

theorem calm_faultAndRelease (n : Nat) : Calm s (faultAndRelease n s) := by
  unfold faultAndRelease
  split
  next => exact (calm_faultZone s n).trans (calm_noZoneCheck _)
  next => exact ((calm_faultZone s n).trans (calm_releaseFrom _ _ _ _)).trans (calm_noZoneCheck _)

theorem calm_failSequence (i : Nat) : Calm s (failSequence i s) :=
  ((Calm.of_touches (touches_setLine s _) (by decide)).trans (calm_foldl (fun s n => calm_freeZone s n) _ _)).trans
    (calm_returnCue _ _ _)

theorem calm_setMiss (n k : Nat) : Calm s (setMiss n k s) := calm_putZone s _ _

theorem calm_missOffer (n i : Nat) : Calm s (missOffer n i s) :=
  .ite (((calm_faultZone s n).trans (calm_failSequence _ _)).trans (calm_noZoneCheck _))
    ((calm_setMiss s _ _).trans (calm_failSequence _ _))

theorem calm_missStop (n : Nat) : Calm s (missStop n s) :=
  .ite (calm_faultAndRelease s n) ((calm_setMiss s _ _).trans (calm_freeAndRelease _ _ _))

theorem calm_missPoll (n : Nat) : Calm s (missPoll n s) := by
  unfold missPoll
  split
  next => exact calm_putZone s _ _
  next => exact .ite (calm_faultAndRelease s n) (calm_putZone s _ _)
  next => exact .ite (calm_faultAndRelease s n) (calm_setMiss s _ _)

theorem calm_missTransaction (t : Transaction) : Calm s (missTransaction t s) := by
  cases t
  case offer => exact calm_missOffer s _ _
  case stop => exact calm_missStop s _
  case poll => exact calm_missPoll s _
  all_goals exact .refl s

theorem calm_recoverZone (n : Nat) : Calm s (recoverZone n s) := (calm_putZone s _ _).trans (calm_queueReport _ _)

theorem calm_onPlaying (n : Nat) : Calm s (onPlaying n s) := by
  unfold onPlaying
  split
  next => exact calm_recoverZone s n
  next => exact calm_putZone s _ _
  next => exact calm_setMiss s _ _

theorem calm_onEnded (n : Nat) : Calm s (onEnded n s) := by
  unfold onEnded
  split
  next => exact calm_recoverZone s n
  next => exact (calm_setMiss s _ _).trans (calm_freeAndRelease _ _ _)
  next => exact (calm_setMiss s _ _).trans (calm_freeAndRelease _ _ _)
  next => exact calm_setMiss s _ _

theorem calm_lineIdle : Calm s (lineIdle s) := .of_touches (touches_lineIdle s) (by decide)

theorem calm_onReply (k : ReplyKind) (chars : List LineChar) : Calm s (onReply k chars s) := by
  unfold onReply
  split
  next => exact .ite (.refl s) (.of_touches (touches_lateCharacters s _) (by decide))
  next =>
    refine .ite ?_ (.refl s)
    split
    next => exact (calm_lineIdle s).trans (.of_touches (touches_onTaken _ _) (by decide))
    next => exact (calm_lineIdle s).trans ((calm_setMiss _ _ _).trans (calm_failSequence _ _))
    next => exact (calm_lineIdle s).trans ((calm_setMiss _ _ _).trans (calm_freeAndRelease _ _ _))
    next => exact (calm_lineIdle s).trans (calm_onPlaying _ _)
    next => exact (calm_lineIdle s).trans (calm_onEnded _ _)
    next => exact (calm_lineIdle s).trans (calm_onEnded _ _)
    next => exact .refl s
  next => exact .refl s

theorem calm_closeWindow : Calm s (closeWindow s) := by
  unfold closeWindow
  split
  next => exact .ite ((Calm.of_touches (touches_setLine s _) (by decide)).trans (calm_missTransaction _ _)) (.refl s)
  next => exact .refl s

theorem calm_startSent : Calm s (startSent s) := by
  unfold startSent
  split
  next =>
    have idle := (Calm.of_touches (touches_setLine s { s.line with seq := none }) (by decide)).trans (calm_lineIdle _)
    exact ((idle.trans (calm_updateCue _ _ _)).trans (calm_foldl (fun s n => calm_putZone s n _) _ _)).trans
      (calm_foldl (fun s n => .of_touches (touches_haltZone s n) (by decide)) _ _)
  next => exact .refl s

theorem calm_chooseCue : Calm s (chooseCue s) := by
  unfold chooseCue
  split
  next => exact .refl s
  next c _ =>
    have begin : Calm s (beginSequence c s) :=
      ((calm_updateCue s _ _).trans (calm_foldl (fun s n => calm_putZone s n _) _ _)).trans
        (.of_touches (touches_setLine _ _) (by decide))
    have preempt : Calm s (preemptFor c s) := (calm_setCues fun h => by simp [h]).trans (calm_haltCues _ _)
    exact .ite begin preempt

theorem calm_sendTransaction (t : Transaction) : Calm s (sendTransaction t s) := .of_touches (touches_sendTransaction s t) (by decide)

theorem calm_arbitrate : Calm s (arbitrate s) := by
  have poll (n : Nat) : Calm s (sendPoll n s) := .of_touches (touches_sendPoll s n) (by decide)
  have send (l : LineCtl) (t : Transaction) : Calm s (sendTransaction t (s.setLine l)) :=
    (Calm.of_touches (touches_setLine s l) (by decide)).trans (calm_sendTransaction _ t)
  refine .ite ?_ (.refl s)
  unfold arbiterWork
  split
  next => exact send _ _
  next =>
    split
    next => exact calm_sendTransaction s _
    next =>
      split
      next => exact poll _
      next => exact send _ _
    next =>
      split
      next => exact poll _
      next => exact calm_chooseCue s

theorem calm_reachPlayLimit (i : Nat) : Calm s (reachPlayLimit i s) :=
  .ite ((calm_updateCue s _ _).trans (calm_haltCues _ _)) (.refl s)

theorem calm_lineCycle : Calm s (lineCycle s) :=
  ((Calm.of_touches (touches_countTimers s) (by decide)).trans (calm_setCues fun h => by simp [h])).trans (calm_haltCues _ _)

theorem calm_lineBreak : Calm s (lineBreak s) :=
  (Calm.of_touches (touches_setLine s _) (by decide)).trans (calm_foldl (fun s n => calm_freeZone s n) _ _)

theorem calm_compareZones : Calm s (compareZones s) :=
  (calm_foldl (fun s n => .of_touches (touches_compareZone s n) (by decide)) _ s).trans (calm_noZoneCheck _)

theorem calm_lineTimeout : Calm s (lineTimeout s) := by
  unfold lineTimeout
  split
  next => exact .refl s
  next => exact .of_touches (touches_lineQuietEnd s) (by decide)
  next => exact .of_touches (touches_lineBreakEnd s) (by decide)
  next => exact calm_startSent s
  next => exact .of_touches (touches_cancelSent s) (by decide)
  next => exact calm_closeWindow s

theorem calm_lineTick : Calm s (lineTick s) := by
  unfold lineTick
  split
  next => exact .refl s
  next => exact (Calm.of_touches (touches_setLine s _) (by decide)).trans (calm_lineTimeout _)
  next => exact .of_touches (touches_setLine s _) (by decide)

/-! ### Override control, time base and tables -/

theorem calm_stopLine : Calm s (stopLine s) := (calm_lineBreak s).trans (calm_dropCues _ _ _)

theorem calm_overrideSet (mode : AddrMode) (b : OverrideBody) : Calm s (overrideSet mode b s) := by
  have enter : Calm s (enterOverride b s) :=
    Calm.trans (t := if b.level = 3 then stopLine (s.setOvr (overrideOf b)) else s.setOvr (overrideOf b))
      (.ite ((Calm.of_touches (touches_setOvr s _) (by decide)).trans (calm_stopLine _)) (.of_touches (touches_setOvr s _) (by decide)))
      (calm_requestCue _ _ _ _ _)
  exact .ite (.ite (calm_reportIfPosition s _ _) (.ite enter (calm_queueReport s _))) (.refl s)

theorem calm_overrideClear (mode : AddrMode) (level : Nat) : Calm s (overrideClear mode level s) :=
  .ite (.ite (calm_reportIfPosition s _ _) (.ite (.of_touches (touches_setOvr s _) (by decide)) (calm_queueReport s _))) (.refl s)

theorem calm_noticeSet (mode : AddrMode) (b : NoticeBody) : Calm s (noticeSet mode b s) :=
  .ite (.ite (calm_reportIfPosition s _ _) (.of_touches (touches_setRows s _) (by decide))) (.refl s)

theorem calm_clearAttention (mode : AddrMode) (key : Nat) : Calm s (clearAttention mode key s) := by
  refine .ite ?_ (.refl s)
  split
  next => exact calm_reportIfPosition s _ _
  next => exact calm_setTable fun h => by simp [h]

theorem calm_setClock (day sec : Nat) : Calm s (setClock day sec s) := .of_touches (touches_setClock s day sec) (by decide)

theorem calm_setBack (day sec : Nat) : Calm s (setBack day sec s) :=
  (((calm_setClock s _ _).trans (calm_queueReport _ _)).trans (calm_clearHolds _)).trans (calm_evaluateAll _)

theorem calm_forwardStep (cls : StepClass) (day sec : Nat) : Calm s (forwardStep cls day sec s) :=
  have turn := (calm_queueReport s (.clockStep cls (markStep s.time day sec))).trans
    (.ite (c := decide (dayDifference s.time.day day = 1) = true) (calm_turnTable _) (.refl _))
  (((turn.trans (calm_schedulerStep _ _ _ _ _)).trans (calm_setClock _ _ _)).trans (calm_retireWhere _ _)).trans
    (calm_evaluateAll _)

theorem calm_closeTrim (t16 : Nat) : Calm s (closeTrim t16 s) :=
  .ite (.of_touches (touches_setTime s _) (by decide))
    (.ite (.refl s) ((Calm.of_touches (touches_setTime s _) (by decide)).trans (calm_queueReport _ _)))

theorem calm_windowCloses (t16 : Nat) : Calm s (windowCloses t16 s) :=
  .ite ((calm_closeTrim s t16).trans (.of_touches (touches_setTime _ _) (by decide))) (.refl s)

theorem calm_trimAtFrameStart : Calm s (trimAtFrameStart s) := by
  unfold trimAtFrameStart
  split
  next => exact .of_touches (touches_openTrim s) (by decide)
  next => exact .ite ((calm_closeTrim s _).trans (.of_touches (touches_setTime _ _) (by decide))) (.refl s)

theorem calm_mergeFrameStart : Calm s (mergeFrameStart s) :=
  .ite (.of_touches (touches_setTime s _) (by decide))
    ((Calm.of_touches (touches_setTime s _) (by decide)).trans (calm_trimAtFrameStart _))

theorem calm_supersede : Calm s (supersede s) := by
  unfold supersede
  split
  next => exact .refl s
  next => exact (Calm.of_touches (touches_setStore s _) (by decide)).trans (calm_queueReport _ _)

theorem calm_refuseSwitch (gen table index : Nat) : Calm s (refuseSwitch gen table index s) :=
  (Calm.of_touches (touches_setStore s _) (by decide)).trans (calm_queueReport _ _)

theorem calm_tableWrite (mode : AddrMode) (table index : Nat) (entry : List Byte) :
    Calm s (tableWrite mode table index entry s) :=
  .ite (.ite (calm_queueReport s _) (.ite (calm_reportIfPosition s _ _) (.of_touches (touches_setStore s _) (by decide)))) (.refl s)

theorem calm_loseDownstream : Calm s (loseDownstream s) :=
  .ite ((Calm.of_touches (touches_setChain s _) (by decide)).trans (calm_queueReport _ _))
    (.of_touches (touches_setChain s _) (by decide))

theorem calm_raiseDownSilence : Calm s (raiseDownSilence s) :=
  .ite (.refl s) (.ite (calm_loseDownstream s) (.of_touches (touches_setChain s _) (by decide)))

theorem calm_downstreamLost : Calm s (downstreamLost s) := .ite (.refl s) (calm_loseDownstream s)

/-- R169: the works of an accepted switch before the entry to RUNNING it may bring. -/
def switchWorks (gen : Nat) (s : State) : State :=
  queueReport (.commitDone gen (s.table.length - (reselectAll (exchangeBanks gen s)).table.length))
    (setDayStart s.bank.params.dayStart (compareZones (rebaseline (reselectAll (exchangeBanks gen s)))))

theorem acceptSwitch_eq (held : Option Nat) (gen : Nat) (s : State) :
    acceptSwitch held gen s = completeJoining held (switchWorks gen s) := rfl

theorem calm_switchWorks (gen : Nat) : Calm s (switchWorks gen s) :=
  (((((Calm.of_touches (touches_setStore s _) (by decide)).trans (calm_reselectAll _)).trans (calm_rebaseline _)).trans
    (calm_compareZones _)).trans (.of_touches (touches_setDayStart _ _) (by decide))).trans (calm_queueReport _ _)

end Sys2Proof.Laws
end

section
/-! SUPPORT. The zones of the line one by one, the line break (R127), the flush (R120) and the resets (R178); and the
statements of the node controller that rest on them. -/

namespace Sys2Proof.Laws

open Sys2Proof Sys2Proof.Machine

/-! ### States that differ in one block -/

theorem eq_setLine_of_touches {s t : State} (h : Touches [.line] s t) : t = s.setLine t.line := by
  refine eq_of_touches_nil fun b _ => ?_
  by_cases hb : b = .line
  · subst hb; rfl
  · have hsame := h b (by simpa using hb)
    cases b
    case line => exact absurd rfl hb
    all_goals exact hsame

theorem eq_setNode_of_touches {s t : State} (h : Touches [.node] s t) : t = s.setNode t.node := by
  refine eq_of_touches_nil fun b _ => ?_
  by_cases hb : b = .node
  · subst hb; rfl
  · have hsame := h b (by simpa using hb)
    cases b
    case node => exact absurd rfl hb
    all_goals exact hsame

/-! ### One zone after another -/

theorem setZone_zone (l : LineCtl) (n m : Nat) (z : Zone) (h : n < l.zones.length) :
    (l.setZone n z).zone m = if m = n then z else l.zone m := by
  by_cases hm : m = n
  · subst hm
    simp [LineCtl.setZone, LineCtl.zone, h]
  · simp [LineCtl.setZone, LineCtl.zone, List.getElem?_set_ne (Ne.symm hm), hm]

/-- A zone outside the list of zones is the zone at rest, whatever is put there. -/
theorem setZone_zone_other (l : LineCtl) {n m : Nat} (z : Zone) (h : m ≠ n) : (l.setZone n z).zone m = l.zone m := by
  simp [LineCtl.setZone, LineCtl.zone, List.getElem?_set_ne (Ne.symm h)]

@[simp] theorem setZone_length (l : LineCtl) (n : Nat) (z : Zone) : (l.setZone n z).zones.length = l.zones.length := by
  simp [LineCtl.setZone]

/-- Zones changed one after another: each of the list by its own change, from what it was at first. -/
theorem foldl_zone {I : State → Prop} {f : State → Nat → State} {g : Nat → Zone → Zone} (hI : ∀ s n, I s → I (f s n))
    (hlen : ∀ s n, (f s n).line.zones.length = s.line.zones.length)
    (hf : ∀ s n m, I s → n < s.line.zones.length →
      (f s n).line.zone m = if m = n then g n (s.line.zone n) else s.line.zone m) (m : Nat) :
    ∀ (l : List Nat) (s : State), I s → l.Nodup → (∀ n ∈ l, n < s.line.zones.length) →
      (l.foldl f s).line.zone m = if m ∈ l then g m (s.line.zone m) else s.line.zone m
  | [], s, _, _, _ => by simp
  | a :: l, s, hs, hnodup, hl => by
    obtain ⟨ha, hnodup⟩ := List.nodup_cons.mp hnodup
    have hstep := hf s a m hs (hl a (by simp))
    rw [List.foldl_cons, foldl_zone hI hlen hf m l (f s a) (hI s a hs) hnodup fun n hn => by
      rw [hlen]; exact hl n (by simp [hn])]
    by_cases hma : m = a
    · subst hma
      simp [ha, hstep]
    · simp [hma, hstep]

theorem foldl_zones_length {f : State → Nat → State} (hlen : ∀ s n, (f s n).line.zones.length = s.line.zones.length) :
    ∀ (l : List Nat) (s : State), (l.foldl f s).line.zones.length = s.line.zones.length
  | [], _ => rfl
  | a :: l, s => (foldl_zones_length hlen l (f s a)).trans (hlen s a)

/-- Two lists of eight zones that agree zone by zone are the same. -/
theorem zones_ext {zs ys : List Zone} (hz : zs.length = 8) (hy : ys.length = 8)
    (h : ∀ n, n < 8 → zs.getD n (resetZone 0) = ys.getD n (resetZone 0)) : zs = ys := by
  refine List.ext_getElem (hz.trans hy.symm) fun n hn hn' => ?_
  simpa [List.getD_eq_getElem?_getD, hn, hn'] using h n (hz ▸ hn)

/-! ### A zone becomes FREE (R142) -/

/-- A pending STOP of another zone, or a CANCEL. -/
def sparesStop (n : Nat) : LineJob → Bool
  | .stop z _ => z != n
  | .cancel _ _ => true

theorem withdrawStop_eq (n : Nat) (s : State) :
    withdrawStop n s = s.setLine { s.line with jobs := s.line.jobs.filter (sparesStop n) } := by
  refine congrArg (fun js => s.setLine { s.line with jobs := js }) (List.filter_congr fun j _ => ?_)
  cases j <;> rfl

theorem freeZone_line (n : Nat) (s : State) :
    (freeZone n s).line =
      { s.line.setZone n (s.line.zone n).freed with jobs := s.line.jobs.filter (sparesStop n) } := by
  have hput : (withdrawStop n (putZone n (s.line.zone n).freed s)).line =
      { s.line.setZone n (s.line.zone n).freed with jobs := s.line.jobs.filter (sparesStop n) } := by
    rw [withdrawStop_eq]
    rfl
  unfold freeZone
  simp only
  split
  next => exact (touches_noZoneCheck _ .line (by decide)).trans hput
  next => exact hput

@[simp] theorem freeZone_length (n : Nat) (s : State) : (freeZone n s).line.zones.length = s.line.zones.length := by
  rw [freeZone_line]
  exact setZone_length _ _ _

theorem freeZone_zone (n m : Nat) (s : State) (h : n < s.line.zones.length) :
    (freeZone n s).line.zone m = if m = n then (s.line.zone n).freed else s.line.zone m := by
  rw [freeZone_line]
  exact setZone_zone s.line n m _ h

theorem foldl_freeZone_zone (m : Nat) (l : List Nat) (s : State) (hnodup : l.Nodup)
    (hl : ∀ n ∈ l, n < s.line.zones.length) :
    (l.foldl (fun st n => freeZone n st) s).line.zone m =
      if m ∈ l then (s.line.zone m).freed else s.line.zone m :=
  foldl_zone (I := fun _ => True) (g := fun _ z => z.freed) (fun _ _ _ => trivial) (fun s n => freeZone_length n s)
    (fun s n m _ h => freeZone_zone n m s h) m l s trivial hnodup hl

/-- What freeing zones keeps of the line besides the zones and their STOPs. -/
theorem foldl_freeZone_line (l : List Nat) (s : State) :
    let t := l.foldl (fun st n => freeZone n st) s
    t.line.status = s.line.status ∧ t.line.timer = s.line.timer ∧ t.line.seq = s.line.seq ∧ t.line.sent = s.line.sent ∧
      t.line.zones.length = s.line.zones.length ∧
      t.line.jobs = s.line.jobs.filter (fun j => l.all fun n => sparesStop n j) := by
  induction l generalizing s with
  | nil => simp
  | cons a l ih =>
    obtain ⟨hstatus, htimer, hseq, hsent, hlen, hjobs⟩ := ih (freeZone a s)
    rw [freeZone_line] at hstatus htimer hseq hsent hjobs
    refine ⟨hstatus, htimer, hseq, hsent, hlen.trans (freeZone_length a s), ?_⟩
    rw [List.foldl_cons, hjobs, List.filter_filter]
    congr 1
    funext j
    simp [Bool.and_comm]

/-- With no cue in the queue the NO ZONE check has nothing to drop. -/
theorem noZoneCheck_of_no_cues {s : State} (h : s.cues.queue = []) : noZoneCheck s = s :=
  noZoneCheck_none s fun c hc => by simp [h] at hc

theorem touches_freeZone_of_no_cues {s : State} (h : s.cues.queue = []) (n : Nat) : Touches [.line] s (freeZone n s) := by
  have hput : Touches [.line] s (withdrawStop n (putZone n (s.line.zone n).freed s)) :=
    (touches_putZone s n _).trans (touches_withdrawStop _ n)
  have hcues : (withdrawStop n (putZone n (s.line.zone n).freed s)).cues = s.cues := hput .cues (by decide)
  unfold freeZone
  simp only
  rw [noZoneCheck_of_no_cues (by rw [hcues, h]), ite_self]
  exact hput

theorem touches_foldl_freeZone_of_no_cues (l : List Nat) {s : State} (h : s.cues.queue = []) :
    Touches [.line] s (l.foldl (fun st n => freeZone n st) s) := by
  induction l generalizing s with
  | nil => exact touches_refl _ s
  | cons a l ih =>
    have ha := touches_freeZone_of_no_cues h a
    have hcues : (freeZone a s).cues = s.cues := ha .cues (by decide)
    exact ha.trans (ih (by rw [hcues, h]))

/-! ### The line break (R127) -/

theorem nodup_range8_filter (p : Nat → Bool) : ((List.range 8).filter p).Nodup := List.nodup_range.filter p

theorem mem_range8_filter {p : Nat → Bool} {n : Nat} : n ∈ (List.range 8).filter p ↔ n < 8 ∧ p n = true := by simp

/-- What a line break leaves of the line, but for the zones. -/
theorem lineBreak_line (s : State) :
    (lineBreak s).line.status = .lineBreak ∧ (lineBreak s).line.timer = 15000 ∧ (lineBreak s).line.seq = none ∧
      (lineBreak s).line.sent = s.line.sent ∧ (lineBreak s).line.zones.length = s.line.zones.length ∧
      (lineBreak s).line.jobs = [] := by
  unfold lineBreak
  obtain ⟨hstatus, htimer, hseq, hsent, hlen, hjobs⟩ := foldl_freeZone_line
    ((List.range 8).filter fun n => (s.line.zone n).state != .fault)
    (s.setLine
      { s.line with
        zones := s.line.zones.map fun z => { z with pollDue := false }
        status := .lineBreak, timer := Config.breakChars * Config.charTicks, jobs := [], seq := none })
  exact ⟨hstatus, htimer, hseq, hsent, hlen.trans (by simp), hjobs⟩

theorem zone_map (l : LineCtl) (f : Zone → Zone) {n : Nat} (h : n < l.zones.length) :
    (l.zones.map f).getD n (resetZone 0) = f (l.zone n) := by
  simp [LineCtl.zone, List.getD_eq_getElem?_getD, h]

/-- R127, R142: every zone not in FAULT is FREE, with its miss count kept. -/
theorem lineBreak_zone (s : State) (h8 : s.line.zones.length = 8) {n : Nat} (hn : n < 8) :
    (lineBreak s).line.zone n = zoneAfterBreak (s.line.zone n) := by
  have hzone : LineCtl.zone { s.line with
      zones := s.line.zones.map fun z => { z with pollDue := false }
      status := .lineBreak, timer := Config.breakChars * Config.charTicks, jobs := [], seq := none } n =
      { s.line.zone n with pollDue := false } := zone_map s.line _ (h8 ▸ hn)
  unfold lineBreak
  rw [foldl_freeZone_zone n _ _ (nodup_range8_filter _) (by
    intro m hm
    rw [mem_range8_filter] at hm
    simpa [h8] using hm.1)]
  simp only [State.setLine_line]
  rw [hzone]
  by_cases hfault : (s.line.zone n).state = .fault
  · rw [if_neg (by simp [hfault]), zoneAfterBreak, if_pos hfault]
  · rw [if_pos (by simp [hn, hfault]), zoneAfterBreak, if_neg hfault]
    rfl

theorem lineBreak_broken {s u : State} (hline : u.line = s.line) (h8 : s.line.zones.length = 8) :
    LineBroken s.line (lineBreak u).line := by
  rw [← hline] at h8 ⊢
  obtain ⟨hstatus, htimer, hseq, -, hlen, hjobs⟩ := lineBreak_line u
  refine ⟨hstatus, htimer, hjobs, hseq, zones_ext (hlen.trans h8) (by simp [h8]) fun n hn => ?_⟩
  rw [zone_map u.line zoneAfterBreak (h8 ▸ hn)]
  exact lineBreak_zone u h8 hn

/-! ### The flush (R120) -/

/-- A flush empties the table, drops every cue FLUSHED in ascending id, and breaks the line; no other block changes. -/
theorem flushNode_eq (s : State) :
    flushNode s =
      (((s.setTable []).setCues { s.cues with queue := [] }).setNode
        (nodeAfterReports (s.cues.queue.map (Cue.dropReport .flushed)) s.node)).setLine (lineBreak s).line := by
  have hflush : flushCues (s.setTable []) =
      ((s.setTable []).setCues { s.cues with queue := [] }).setNode
        (nodeAfterReports (s.cues.queue.map (Cue.dropReport .flushed)) s.node) := by
    rw [flushCues, dropCues_eq]
    simp
  have hline (u : State) (hu : u.line = s.line) : (lineBreak u).line = (lineBreak s).line := by
    have fold (l : List Nat) (u v : State) (h : u.line = v.line) :
        (l.foldl (fun st n => freeZone n st) u).line = (l.foldl (fun st n => freeZone n st) v).line := by
      induction l generalizing u v with
      | nil => exact h
      | cons a l ih => exact ih _ _ (by rw [freeZone_line, freeZone_line, h])
    unfold lineBreak
    rw [hu]
    exact fold _ _ _ rfl
  rw [flushNode, hflush]
  refine (eq_setLine_of_touches ((touches_setLine _ _).trans (touches_foldl_freeZone_of_no_cues _ rfl))).trans ?_
  exact congrArg _ (hline _ rfl)

theorem flushNode_flushed (s : State) : Flushed s (flushNode s) := by
  rw [flushNode_eq]
  exact ⟨rfl, rfl, fun h8 => lineBreak_broken rfl h8⟩

/-! ### The resets (R143, R178) -/

theorem resetLine_eq {s : State} (h : s.cues.queue = []) :
    resetLine s =
      s.setLine
        { zones := (List.range 8).map fun n => resetZone (s.bank.zoneTable.getD n 0)
          status := .lineBreak, timer := 15000, jobs := [], seq := none, sent := s.line.sent } := by
  have hbreak : lineBreak s = s.setLine (lineBreak s).line :=
    eq_setLine_of_touches ((touches_setLine _ _).trans (touches_foldl_freeZone_of_no_cues _ h))
  obtain ⟨hstatus, htimer, hseq, hsent, -, hjobs⟩ := lineBreak_line s
  unfold resetLine
  rw [hbreak]
  simp only [State.setLine_line, State.setLine_twice, hstatus, htimer, hseq, hsent, hjobs]

theorem resetNode_eq (cause : ResetCause) (s : State) : resetNode cause s = afterReset cause s := by
  unfold resetNode
  rw [resetLine_eq rfl]
  rfl

/-- Settles O19: both resets are `resetNode`, which leaves the table of R178. -/
theorem resetsActAlikeOnEveryBlock : Obligations.ResetsActAlikeOnEveryBlock := by
  intro s
  refine ⟨fun hstate => ?_, fun hj hr => ?_, fun hstate hbreak hlen => ?_⟩
  · have htakes : takesMessages s = true := by simpa [takesMessages] using hstate
    change Host.Outcome.next (commandReset s) = _
    rw [commandReset, if_pos htakes, resetNode_eq]
  · have htakes : ¬ takesMessages s = true := by simp [takesMessages, hj, hr]
    change Host.Outcome.next (commandReset s) = _
    rw [commandReset, if_neg htakes]
  · change Host.Outcome.next (breakReset s) = _
    rw [breakReset, if_pos ⟨hstate, hbreak, hlen⟩, resetNode_eq]
    rfl

/-! ### Changes of node state (R173) -/

/-- R173: the state of the node changed, its STATE CHANGED told, and outside RUNNING no trim window. -/
theorem changeState_eq (new : NodeState) (old : Option Nat) (s : State) :
    changeState new old s =
      (s.setTime (if new = .running then s.time else { s.time with window := none })).setNode
        (nodeAfterReports
          [.stateChanged s.node.state new old s.chain.position (if new = .joining then some s.node.cause else none)]
          { s.node with state := new }) := by
  unfold changeState
  rw [queueReport_eq]
  by_cases h : new = .running
  · simp only [if_pos h]
    rfl
  · simp only [if_neg h]
    rfl

/-- Settles O20: the silence told, and the change of state it brings in RUNNING and in JOINING. -/
theorem linkLossFollowsNodeState : Obligations.LinkLossFollowsNodeState := by
  intro s c p
  have told (hlt : s.chain.upSilence < 3) (hup : s.node.state ≠ .powerUp) :
      exec .linkLoss s = .next (nodeLinkLoss (s.setChain c)) := by
    change Host.Outcome.next (linkLoss s) = _
    rw [linkLoss, if_neg (not_or.mpr ⟨hup, Nat.not_le.mpr hlt⟩)]
    rfl
  refine ⟨fun h => ?_, fun hlt hstate => ?_, fun hlt hstate => ?_, fun hlt hstate => ?_⟩
  · change Host.Outcome.next (linkLoss s) = _
    rw [linkLoss, if_pos (h.imp id Eq.ge)]
  · rw [told hlt (by simp [hstate]), nodeLinkLoss]
    simp only [State.setChain_node, hstate]
    rw [changeState_eq]
    simp only [State.setNode_node]
    rfl
  · rw [told hlt (by simp [hstate]), nodeLinkLoss]
    simp only [State.setChain_node, hstate]
    rw [changeState_eq]
    simp only [State.setChain_node, hstate]
    rfl
  · rw [told hlt (by rintro hup; simp [hup] at hstate), nodeLinkLoss]
    rcases hstate with h | h | h | h
    all_goals
      simp only [State.setChain_node, h]
      rfl

/-- Settles O21: the change of state, then the flush. -/
theorem holdoverLimitIsolates : Obligations.HoldoverLimitIsolates := by
  intro s hstate
  refine ⟨_, rfl, ?_⟩
  rw [reachHoldoverLimit, if_pos hstate, enterIsolated, flushNode_eq, changeState_eq,
    if_neg (show NodeState.isolated ≠ .running by decide)]
  simp only [State.setNode_node, hstate]
  refine ⟨by simp, by simp, fun h8 => lineBreak_broken (by simp) h8, ?_, by simp, by simp, by simp, by simp, by simp, by simp⟩
  simp only [State.setNode_cues, State.setTime_cues, State.setLine_node, State.setNode_chain]
  exact (nodeAfterReports_append [.stateChanged .holdover .isolated s.chain.position s.chain.position none] _ _).symm

/-! ### Queries and controls (R170, R171) -/

theorem findRecord_eq_none {s : State} {key : Nat} (h : ∀ r ∈ s.table, r.key ≠ key) : s.findRecord key = none := by
  simpa [State.findRecord] using h

theorem findRecord_isSome {s : State} {key : Nat} (h : ∃ r ∈ s.table, r.key = key) : ∃ r, s.findRecord key = some r :=
  Option.isSome_iff_exists.mp (by simpa [State.findRecord] using h)

theorem takesMessages_iff {s : State} : takesMessages s = true ↔ s.node.state = .joining ∨ s.node.state = .running := by
  simp [takesMessages]

theorem queueAnswer_eq {s : State} (h : s.node.state = .joining ∨ s.node.state = .running) (a : Answer) :
    queueAnswer a s = { s with node := nodeAfterReports [.answer a] s.node } := by
  rw [queueAnswer, if_pos (takesMessages_iff.mpr h), queueReport_eq]
  rfl

/-- The record of a key is the first of the table with that key, and its order counts from 1. -/
theorem recordAnswer_eq {s : State} {i : Nat} {r : ServiceRecord} (hi : s.table[i]? = some r)
    (hfirst : ∀ j q, j < i → s.table[j]? = some q → q.key ≠ r.key) :
    recordAnswer r.key s = .record r.key (some (r.summary, i + 1)) := by
  obtain ⟨hlt, hget⟩ := List.getElem?_eq_some_iff.mp hi
  have hfind : s.findRecord r.key = some r := by
    refine List.find?_eq_some_iff_getElem.mpr ⟨by simp, i, hlt, hget, fun j hj => ?_⟩
    simpa using hfirst j _ hj (List.getElem?_eq_getElem (hj.trans hlt))
  have hidx : (s.table.findIdx fun x => x.key == r.key) = i := by
    refine (List.findIdx_eq hlt).mpr ⟨by simp [hget], fun j hj => ?_⟩
    simpa using hfirst j _ hj (List.getElem?_eq_getElem (hj.trans hlt))
  rw [recordAnswer, hfind, hidx]
  rfl

/-- Settles O22: each answer is worked out from the state as it stands, and queued. -/
theorem queriesQueueOneAnswer : Obligations.QueriesQueueOneAnswer := by
  intro s hstate answered
  have queued (a : Answer) : Host.Outcome.next (ρ := Refusal) (φ := Fault) (queueAnswer a s) = .next (answered a) :=
    congrArg _ (queueAnswer_eq hstate a)
  refine ⟨queued _, fun key hkey => ?_, fun i r hi hfirst => ?_, fun start => queued _, queued _, queued _, queued _⟩
  · refine (queued _).trans ?_
    rw [recordAnswer, findRecord_eq_none hkey]
    rfl
  · refine (queued _).trans ?_
    rw [recordAnswer_eq hi hfirst]
    rfl

/-- R171: a key not yet watched joins at the newest end, the oldest of four leaving. -/
theorem addWatch_new {key : Nat} {w : List Nat} (h : key ∉ w) :
    addWatch key w = (if 4 ≤ w.length then w.drop (w.length - 3) else w) ++ [key] := by
  unfold addWatch
  rw [if_neg (by simpa using h)]
  simp only [Config.maxWatched]
  congr 2

/-- Settles O23: each control where messages are taken, and none of them elsewhere. -/
theorem controlsActOnAttentionAndWatch : Obligations.ControlsActOnAttentionAndWatch := by
  intro s mode key kind told
  have toldEq (r : Report) : reportIfPosition mode r s = told r := reportIfPosition_eq mode r s
  refine ⟨fun hstate => ?_, fun hj hr => ?_⟩
  · have htakes := takesMessages_iff.mpr hstate
    have hclear : exec (.clearAttention mode key) s = .next (clearAttention mode key s) := rfl
    have hset : exec (.watchSet mode key) s = .next (watchSet mode key s) := rfl
    have hunknown : exec (.unknownMessageKind mode kind) s = .next (unknownKind mode kind s) := rfl
    have hwatch : exec .watchClear s = .next (watchClear s) := rfl
    rw [hclear, hset, hunknown, hwatch, clearAttention, watchSet, unknownKind, watchClear, if_pos htakes, if_pos htakes,
      if_pos htakes, if_pos htakes]
    refine ⟨fun hheld => ?_, fun habsent => ?_, fun hzero => ?_, fun hkey hmem => ?_, fun hkey hmem hlen => ?_,
      fun hkey hmem hlen => ?_, rfl, ?_⟩
    · obtain ⟨r, hr⟩ := findRecord_isSome hheld
      rw [hr]
      simp only [beq_iff_eq]
      rfl
    · rw [findRecord_eq_none habsent]
      exact congrArg _ (toldEq _)
    · rw [if_pos hzero]
      exact congrArg _ (toldEq _)
    · rw [if_neg hkey, addWatch, if_pos (by simpa using hmem)]
      rfl
    · rw [if_neg hkey, addWatch_new hmem, if_neg (by omega)]
      rfl
    · rw [if_neg hkey, addWatch_new hmem, if_pos hlen.ge, hlen, List.drop_one]
      rfl
    · exact congrArg _ (toldEq _)
  · have htakes : ¬ takesMessages s = true := fun h => (takesMessages_iff.mp h).elim hj hr
    refine ⟨?_, ?_, ?_, ?_⟩
    · exact congrArg Host.Outcome.next (if_neg htakes)
    · exact congrArg Host.Outcome.next (if_neg htakes)
    · exact congrArg Host.Outcome.next (if_neg htakes)
    · exact congrArg Host.Outcome.next (if_neg htakes)

/-! ### Power-on, the idle step and the evaluation of a record -/

/-- Settles O18: the power-on state read off field by field, and the one change at the end of POWER-UP. -/
theorem powerOnGivesEveryBlockItsValues : Obligations.PowerOnGivesEveryBlockItsValues := by
  refine ⟨fun s => ⟨powerOnState s, rfl, ?_⟩, fun s hs => ?_⟩
  · refine ⟨rfl, rfl, rfl, rfl, rfl, rfl, rfl, rfl, rfl, rfl, rfl, rfl, rfl, rfl, rfl, rfl,
      fun z hz => ?_, rfl, rfl, rfl, rfl, rfl, rfl, rfl, rfl, rfl, rfl, rfl, rfl, rfl, rfl, rfl, rfl, rfl, rfl, rfl, rfl,
      rfl, rfl, rfl, rfl, rfl⟩
    have hzone : z = resetZone 0 := List.eq_of_mem_replicate hz
    subst hzone
    exact ⟨rfl, rfl, rfl, rfl, rfl, rfl⟩
  · change Host.Outcome.next (powerUpEnd s) = _
    rw [powerUpEnd, if_pos hs]
    rfl

/-- Settles O2: no break, no running line timer and no boundary leave the two counts of a tick. -/
theorem idleStepIsOneReferenceTick : Obligations.IdleStepIsOneReferenceTick := by
  intro s hqueue hstate hwork hbreak htimer hcycle
  have hbreakTick : breakTick (upTick s) = upTick s := if_neg (by simp [upTick, hbreak])
  have hlineTick : lineTick (upTick s) = upTick s := by
    have h : (upTick s).line.timer = 0 := htimer
    simp only [lineTick, h]
  have hidle : step s = .next (idleStep s) := by rw [step, hqueue]
  rw [hidle, idleStep, if_neg hstate, hwork, if_neg Bool.false_ne_true, referenceTick, hbreakTick, hlineTick, cycleTick,
    if_neg (by simpa [upTick] using hcycle)]
  rfl

/-- The notice is the phrase of the first rule that matches and has one. -/
theorem noticeOf_eq_some_iff (b : Bank) (sec : Nat) (r : ServiceRecord) (p : Nat) :
    noticeOf b sec r = some p ↔
      ∃ n, n < 32 ∧ ruleMatches b sec r n = true ∧ (b.rule n).phrase = some p ∧
        ∀ m, m < n → ruleMatches b sec r m = true → (b.rule m).phrase = none := by
  have hrange : ∀ n, n < 32 → (List.range 32)[n]? = some n := fun n hn => by simp [hn]
  rw [noticeOf, List.findSome?_eq_some_iff]
  constructor
  · rintro ⟨l₁, n, l₂, hsplit, hn, hbefore⟩
    have hlen : l₁.length < 32 := by
      have h := congrArg List.length hsplit
      simp at h
      omega
    have hat (i : Nat) (hi : i < 32) : (l₁ ++ n :: l₂)[i]? = some i := hsplit ▸ hrange i hi
    have hnlen : n = l₁.length := by
      have h := hat l₁.length hlen
      simpa using h
    have hmatch : ruleMatches b sec r n = true := by
      by_contra hno
      simp [hno] at hn
    refine ⟨n, hnlen ▸ hlen, hmatch, by simpa [hmatch] using hn, fun m hm hmatches => ?_⟩
    have hmem : m ∈ l₁ := by
      have h := hat m (by omega)
      rw [List.getElem?_append_left (hnlen ▸ hm)] at h
      exact List.mem_of_getElem? h
    simpa [hmatches] using hbefore m hmem
  · rintro ⟨n, hn, hmatch, hphrase, hbefore⟩
    refine ⟨List.range n, n, (List.range (32 - (n + 1))).map fun i => n + 1 + i, ?_, by simpa [hmatch] using hphrase,
      fun m hm => ?_⟩
    · have h : (32 : Nat) = n + 1 + (32 - (n + 1)) := by omega
      conv_lhs => rw [h]
      rw [List.range_add, List.range_succ, List.append_assoc]
      rfl
    · by_cases hm' : ruleMatches b sec r m = true
      · simpa [hm'] using hbefore m (List.mem_range.mp hm) hm'
      · simp [hm']

theorem noticeOf_eq_none_iff (b : Bank) (sec : Nat) (r : ServiceRecord) :
    noticeOf b sec r = none ↔ ∀ n, n < 32 → ruleMatches b sec r n = true → (b.rule n).phrase = none := by
  simp [noticeOf]

/-- Settles O17: the bits of the mask, the first phrase, and the edges between two match sets. -/
theorem evaluationSetsMatchesAndNotice : Obligations.EvaluationSetsMatchesAndNotice := by
  intro b sec r
  refine ⟨fun n hn => decideRules_matchSet_getLsbD b sec r hn, noticeOf_eq_some_iff b sec r, noticeOf_eq_none_iff b sec r,
    fun old n => ?_⟩
  rw [mem_matchEdges]
  refine and_congr_right fun hn => ?_
  rw [decideRules_matchSet_getLsbD b sec r hn]

end Sys2Proof.Laws
end

section
/-! SUPPORT. The invariants of the time base, the configuration store, the chain interface, override control and the node
controller, and the node at rest: each kept by every operation, and so by every step. -/

namespace Sys2Proof.Laws

open Sys2Proof Sys2Proof.Machine

/-! ### The time base (R80, R84, R88) -/

/-- The second state's time base differs from the first's in its flags, its trim window and its count of frame starts at
most, under the same day start. -/
structure SameClockwork (s t : State) : Prop where
  time : ∃ fs sy sp w e,
    t.time = { s.time with frameStarts := fs, synchronised := sy, setPending := sp, window := w, excursion := e }
  dayStart : t.bank.params.dayStart = s.bank.params.dayStart

theorem SameClockwork.of_touches {bs : List Block} {s t : State} (h : Touches bs s t)
    (hbs : bs.contains .time = false ∧ bs.contains .store = false) : SameClockwork s t := by
  simp only [List.contains_eq_mem, decide_eq_false_iff_not] at hbs
  exact ⟨⟨_, _, _, _, _, h .time hbs.1⟩, congrArg (fun st : Store => st.active.params.dayStart) (h .store hbs.2 : t.store = s.store)⟩

theorem SameClockwork.of_window {s t : State} (h : SameButWindow s.time t.time) (hstore : t.store = s.store) :
    SameClockwork s t := by
  obtain ⟨w, hw⟩ := h
  exact ⟨⟨_, _, _, w, _, hw⟩, congrArg (fun st : Store => st.active.params.dayStart) hstore⟩

theorem SameClockwork.timeOk {s t : State} (h : SameClockwork s t) (hs : s.timeOk) : t.timeOk := by
  obtain ⟨⟨fs, sy, sp, w, e, ht⟩, hb⟩ := h
  refine ⟨?_, ?_, ?_, ?_, ?_, ?_, ?_, ?_, ?_, ?_, ?_⟩
  all_goals rw [ht]
  · exact hs.cycle
  · exact hs.accumulator
  · exact hs.trimLow
  · exact hs.trimHigh
  · exact hs.trimFrac
  · exact hs.lengthLow
  · exact hs.lengthHigh
  · exact hs.tickCount
  · exact hs.second
  · exact hs.day
  · rw [hb]
    exact hs.clock

theorem timeOk_of_touches {bs : List Block} {s t : State} (h : Touches bs s t) (hs : s.timeOk)
    (hbs : bs.contains .time = false ∧ bs.contains .store = false) : t.timeOk :=
  (SameClockwork.of_touches h hbs).timeOk hs

theorem timeOk_powerOnState (s : State) : (powerOnState s).timeOk where
  cycle := by change 0 < 64; decide
  accumulator := by change 0 < 16; decide
  trimLow := by change 374925 ≤ 375000; decide
  trimHigh := by change 375000 ≤ 375075; decide
  trimFrac := by change 0 < 16; decide
  lengthLow := by change 374925 ≤ 375000; decide
  lengthHigh := by change 375000 ≤ 375076; decide
  tickCount := by change 0 < 375000; decide
  second := by change 0 < 86400; decide
  day := by change 0 < 65536; decide
  clock := by change resetClock = civilClock 150 0; decide

theorem timeOk_setClock {day sec : Nat} {s : State} (hs : s.timeOk) (hday : day < 65536) (hsec : sec ≤ 86399) :
    (setClock day sec s).timeOk :=
  { hs with second := Nat.lt_succ_of_le hsec, day := hday, clock := rfl }

theorem timeOk_generatorStart (boundary : Bool) {s : State} (hs : s.timeOk) : (generatorStart boundary s).timeOk := by
  have ha := hs.accumulator
  have hf := hs.trimFrac
  have hl := hs.trimLow
  have hh := hs.trimHigh
  have hsum : s.time.fractionSum = s.time.accumulator + s.time.trimFrac := rfl
  have hcarry : (if 16 ≤ s.time.fractionSum then s.time.fractionSum - 16 else s.time.fractionSum) < 16 := by
    split <;> omega
  have hlength : 374925 ≤ (if 16 ≤ s.time.fractionSum then s.time.trimInt + 1 else s.time.trimInt) ∧
      (if 16 ≤ s.time.fractionSum then s.time.trimInt + 1 else s.time.trimInt) ≤ 375076 := by
    split <;> omega
  exact { hs with
    cycle := Nat.mod_lt _ (by decide), accumulator := hcarry, lengthLow := hlength.1, lengthHigh := hlength.2
    tickCount := Nat.lt_of_lt_of_le (show 0 < 374925 by decide) hlength.1 }

theorem timeOk_advanceSecond {s : State} (hs : s.timeOk) : (advanceSecond s).timeOk := by
  have hstore : (advanceSecond s).store = s.store := touches_advanceSecond s .store (by decide)
  have htick : (s.setTime s.time.tickSecond).timeOk := by
    refine { hs with second := ?_, day := ?_, clock := tickSecond_clock hs }
    · have hsecond := hs.second
      simp only [TimeBase.tickSecond, TimeBase.turnsDay, State.setTime_time, beq_iff_eq]
      split <;> omega
    · simp only [TimeBase.tickSecond, State.setTime_time]
      split
      · exact Nat.mod_lt _ (by decide)
      · exact hs.day
  exact SameClockwork.timeOk (s := s.setTime s.time.tickSecond)
    ⟨⟨_, _, _, _, _, advanceSecond_time s⟩, congrArg (fun st : Store => st.active.params.dayStart) hstore⟩ htick

theorem trimAccepted_iff (i : Nat) : trimAccepted i = true ↔ 374925 ≤ i ∧ i ≤ 375075 := by
  rw [trimAccepted, Bool.and_eq_true, decide_eq_true_iff, decide_eq_true_iff]
  change 375000 ≤ i + 75 ∧ i ≤ 375000 + 75 ↔ _
  omega

theorem timeOk_closeTrim (t16 : Nat) {s : State} (hs : s.timeOk) : (closeTrim t16 s).timeOk := by
  unfold closeTrim
  split
  next hacc =>
    obtain ⟨hlow, hhigh⟩ := (trimAccepted_iff _).mp hacc
    exact { hs with
      trimLow := hlow
      trimHigh := hhigh
      trimFrac := Nat.mod_lt _ (by decide) }
  next =>
    split
    next => exact hs
    next =>
      refine timeOk_of_touches (touches_queueReport _ _) (SameClockwork.timeOk (s := s) ?_ hs) (by decide)
      exact ⟨⟨_, _, _, _, _, rfl⟩, rfl⟩

theorem timeOk_setWindow (w : Option TrimWindow) {s : State} (hs : s.timeOk) :
    (s.setTime { s.time with window := w }).timeOk :=
  SameClockwork.timeOk (s := s) ⟨⟨_, _, _, _, _, rfl⟩, rfl⟩ hs

theorem timeOk_trimAtFrameStart {s : State} (hs : s.timeOk) : (trimAtFrameStart s).timeOk := by
  unfold trimAtFrameStart openTrim
  split
  next =>
    split
    next => exact timeOk_setWindow _ hs
    next => exact hs
  next =>
    split
    next => exact timeOk_setWindow _ (timeOk_closeTrim _ hs)
    next => exact hs

theorem timeOk_mergeFrameStart {s : State} (hs : s.timeOk) : (mergeFrameStart s).timeOk := by
  have restart (fs : Nat) (w : Option TrimWindow) :
      (s.setTime { s.time with tickCount := 0, frameStarts := fs, window := w }).timeOk := by
    have hl := hs.lengthLow
    exact { hs with tickCount := by change 0 < s.time.cycleLength; omega }
  unfold mergeFrameStart
  split
  next => exact restart _ _
  next => exact timeOk_trimAtFrameStart (restart _ _)

theorem timeOk_countTick {s : State} (hs : s.timeOk) : (countTick s).timeOk := by
  unfold countTick
  split
  next => exact hs
  next h => exact { hs with tickCount := Nat.not_le.mp h }

theorem timeOk_takeCycle {n : Nat} (hn : n < 64) {s : State} (hs : s.timeOk) : (takeCycle n s).timeOk :=
  { hs with cycle := hn }

theorem sameClockwork_changeState (new : NodeState) (old : Option Nat) (s : State) :
    SameClockwork s (changeState new old s) :=
  .of_window (changeState_time new old s) (touches_changeState s new old .store (by decide))

theorem SameClockwork.trans {s t u : State} (h : SameClockwork s t) (k : SameClockwork t u) : SameClockwork s u := by
  obtain ⟨⟨_, _, _, _, _, ht⟩, hb⟩ := h
  obtain ⟨⟨_, _, _, _, _, hu⟩, hc⟩ := k
  exact ⟨⟨_, _, _, _, _, by rw [hu, ht]⟩, hc.trans hb⟩

theorem SameClockwork.refl (s : State) : SameClockwork s s := ⟨⟨_, _, _, _, _, rfl⟩, rfl⟩

theorem SameClockwork.ite {s t u : State} {c : Prop} [Decidable c] (h : SameClockwork s t) (k : SameClockwork s u) :
    SameClockwork s (if c then t else u) := by split <;> assumption

theorem sameClockwork_completeJoining (held : Option Nat) (s : State) : SameClockwork s (completeJoining held s) :=
  .ite ((SameClockwork.of_touches (touches_setNode s _) (by decide)).trans (sameClockwork_changeState _ _ _)) (.refl s)

theorem sameClockwork_nodeLinkLoss (s : State) : SameClockwork s (nodeLinkLoss s) := by
  unfold nodeLinkLoss
  split
  next => exact (SameClockwork.of_touches (touches_setNode s _) (by decide)).trans (sameClockwork_changeState _ _ _)
  next => exact sameClockwork_changeState _ _ s
  next => exact .refl s

theorem sameClockwork_tellLinkLoss (s : State) : SameClockwork s (tellLinkLoss s) :=
  (SameClockwork.of_touches (touches_setChain s _) (by decide)).trans (sameClockwork_nodeLinkLoss _)

theorem sameClockwork_nodeFrame (held : Option Nat) (s : State) : SameClockwork s (nodeFrame held s) := by
  have joining : SameClockwork s (enterJoining held s) :=
    SameClockwork.trans (t := s.setTime { s.time with setPending := true }) ⟨⟨_, _, _, _, _, rfl⟩, rfl⟩
      (sameClockwork_changeState _ _ _)
  unfold nodeFrame
  split
  next => exact joining
  next => exact joining
  next => exact .ite joining (.refl s)
  next => exact (SameClockwork.of_touches (touches_setNode s _) (by decide)).trans (sameClockwork_changeState _ _ _)
  next => exact .refl s

theorem sameClockwork_takePosition (hop : Nat) (s : State) : SameClockwork s (takePosition hop s) := by
  have move : SameClockwork s (s.setChain { s.chain with hopCount := some hop, position := some (hop + 1) }) :=
    .of_touches (touches_setChain s _) (by decide)
  have fault (u : State) : SameClockwork u (enterPositionFault s.chain.position u) := by
    unfold enterPositionFault
    exact ((sameClockwork_changeState _ _ u).trans
      (.ite (.of_touches (touches_setNode _ _) (by decide)) (.refl _))).trans (.of_touches (touches_flushNode _) (by decide))
  exact .ite (.ite move (move.trans (fault _))) (.ite (move.trans (.of_touches (touches_queueReport _ _) (by decide))) move)

theorem sameClockwork_enterIsolated (s : State) : SameClockwork s (enterIsolated s) :=
  (sameClockwork_changeState _ _ s).trans (.of_touches (touches_flushNode _) (by decide))

theorem sameClockwork_afterReset (cause : ResetCause) (s : State) : SameClockwork s (afterReset cause s) :=
  ⟨⟨_, _, _, _, _, rfl⟩, rfl⟩

theorem sameClockwork_resetNode (cause : ResetCause) (s : State) : SameClockwork s (resetNode cause s) := by
  rw [resetNode_eq]
  exact sameClockwork_afterReset cause s

theorem sameClockwork_breakReset (s : State) : SameClockwork s (breakReset s) :=
  .ite ((SameClockwork.of_touches (touches_setChain s _) (by decide)).trans (sameClockwork_resetNode _ _)) (.refl s)

theorem timeOk_forwardStep (cls : StepClass) {day sec : Nat} {s : State} (hs : s.timeOk) (hday : day < 65536)
    (hsec : sec ≤ 86399) : (forwardStep cls day sec s).timeOk := by
  have hturn : SameClockwork s
      (if decide (dayDifference s.time.day day = 1) = true then
        turnTable (queueReport (.clockStep cls (markStep s.time day sec)) s)
      else queueReport (.clockStep cls (markStep s.time day sec)) s) :=
    .ite ((SameClockwork.of_touches (touches_queueReport s _) (by decide)).trans (.of_touches (touches_turnTable _) (by decide)))
      (.of_touches (touches_queueReport s _) (by decide))
  unfold forwardStep
  refine timeOk_of_touches (touches_evaluateAll _)
    (timeOk_of_touches (touches_retireRecords _) (timeOk_setClock ?_ hday hsec) (by decide)) (by decide)
  exact (hturn.trans (.of_touches (touches_schedulerStep _ _ _ _ _) (by decide))).timeOk hs

theorem timeOk_takeMark (held : Option Nat) {day sec : Nat} {s : State} (hs : s.timeOk) (hday : day < 65536) :
    (takeMark held day sec s).timeOk := by
  unfold takeMark
  split
  next h =>
    obtain ⟨-, hsec⟩ := h
    have hset := timeOk_setClock hs hday hsec
    split
    next => exact (sameClockwork_completeJoining _ _).timeOk hset
    next =>
      split
      next => exact hs
      next => exact timeOk_of_touches (touches_flushNode _) (timeOk_of_touches (touches_queueReport _ _) hset (by decide)) (by decide)
      next =>
        exact timeOk_of_touches (touches_evaluateAll _) (timeOk_of_touches (touches_clearHolds _)
          (timeOk_of_touches (touches_queueReport _ _) hset (by decide)) (by decide)) (by decide)
      next => exact timeOk_forwardStep _ hs hday hsec
      next => exact timeOk_forwardStep _ hs hday hsec
  next => exact hs

/-- What an accepted switch does behind the exchange of the banks. -/
theorem touches_switchWorks (gen : Nat) (s : State) :
    Touches [.table, .cues, .line, .time, .node] (exchangeBanks gen s) (switchWorks gen s) :=
  (((((touches_reselectAll _).mono (by decide)).trans ((touches_rebaseline _).mono (by decide))).trans
    ((touches_compareZones _).mono (by decide))).trans ((touches_setDayStart _ _).mono (by decide))).trans
    ((touches_queueReport _ _).mono (by decide))

/-- R87: the clock keeps to the civil time of S under the new bank's day start. -/
theorem timeOk_switchWorks (gen : Nat) {s : State} (hs : s.timeOk) : (switchWorks gen s).timeOk := by
  have hworks : Touches [.table, .cues, .line, .node] (exchangeBanks gen s)
      (compareZones (rebaseline (reselectAll (exchangeBanks gen s)))) :=
    (((touches_reselectAll _).mono (by decide)).trans ((touches_rebaseline _).mono (by decide))).trans
      ((touches_compareZones _).mono (by decide))
  refine timeOk_of_touches (touches_queueReport _ _) ?_ (by decide)
  generalize compareZones (rebaseline (reselectAll (exchangeBanks gen s))) = u at hworks
  have htime : u.time = s.time := hworks .time (by decide)
  unfold setDayStart
  split
  next hsame => exact SameClockwork.timeOk (s := s) ⟨⟨_, _, _, _, _, htime⟩, hsame⟩ hs
  next =>
    rw [htime]
    exact { hs with clock := rfl }

theorem timeOk_switchBank (held : Option Nat) (gen : Nat) {s : State} (hs : s.timeOk) : (switchBank held gen s).timeOk := by
  unfold switchBank
  split
  next =>
    refine timeOk_of_touches (touches_queueReport _ _) ?_ (by decide)
    exact SameClockwork.timeOk (s := s) ⟨⟨_, _, _, _, _, rfl⟩, rfl⟩ hs
  next =>
    rw [acceptSwitch_eq]
    exact (sameClockwork_completeJoining _ _).timeOk (timeOk_switchWorks gen hs)

theorem sameClockwork_supersede (s : State) : SameClockwork s (supersede s) := by
  unfold supersede
  split
  next => exact .refl s
  next =>
    exact SameClockwork.trans (t := s.setStore { s.store with commit := none }) ⟨⟨_, _, _, _, _, rfl⟩, rfl⟩
      (.of_touches (touches_queueReport _ _) (by decide))

theorem timeOk_tableCommit (held : Option Nat) (mode : AddrMode) (gen cycle : Nat) {s : State} (hs : s.timeOk) :
    (tableCommit held mode gen cycle s).timeOk := by
  have hsup := (sameClockwork_supersede s).timeOk hs
  unfold tableCommit
  split_ifs
  · exact timeOk_of_touches (touches_reportIfPosition s _ _) hs (by decide)
  · exact timeOk_switchBank held gen hsup
  · exact SameClockwork.timeOk (s := supersede s) ⟨⟨_, _, _, _, _, rfl⟩, rfl⟩ hsup
  · exact hs

theorem op_keeps_timeOk (o : Op) (s : State) (ho : o.inRange) (hs : s.timeOk) : (o.run s).timeOk := by
  have elsewhere {o : Op} (ht : o.blocks.contains .time = false) (hst : o.blocks.contains .store = false) :
      (o.run s).timeOk := timeOk_of_touches (o.touches s) hs ⟨ht, hst⟩
  have sameStore {t : State} (h : SameClockwork s t) : t.timeOk := h.timeOk hs
  cases o
  case powerOn => exact timeOk_powerOnState s
  case generator b => exact timeOk_generatorStart b hs
  case second => exact timeOk_advanceSecond hs
  case countTick => exact timeOk_countTick hs
  case setCycle n => exact timeOk_takeCycle ho hs
  case mark held day sec => exact timeOk_takeMark held hs ho
  case windowClose t16 =>
    change (windowCloses t16 s).timeOk
    unfold windowCloses
    split
    next => exact timeOk_setWindow _ (timeOk_closeTrim _ hs)
    next => exact hs
  case trim => exact timeOk_trimAtFrameStart hs
  case mergeStart => exact timeOk_mergeFrameStart hs
  case hold => exact sameStore (.of_window (holdTick_time s) (touches_holdTick s .store (by decide)))
  case holdLimit =>
    exact sameStore (.ite ((SameClockwork.of_touches (touches_setNode s _) (by decide)).trans (sameClockwork_enterIsolated _))
      (.refl s))
  case commandReset => exact sameStore (.ite (sameClockwork_resetNode _ s) (.refl s))
  case breakReset => exact sameStore (sameClockwork_breakReset s)
  case breakTick =>
    exact sameStore (.ite (.ite (sameClockwork_breakReset s) (.of_touches (touches_setChain s _) (by decide))) (.refl s))
  case bankSwitch =>
    change (Machine.bankSwitch s).timeOk
    unfold Machine.bankSwitch
    split
    next => exact hs
    next =>
      split
      next => exact timeOk_switchBank _ _ hs
      next => exact hs
  case tableWrite mode table index entry =>
    have write : SameClockwork s (s.setStore { s.store with shadow := s.store.shadow.writeEntry table index entry }) :=
      ⟨⟨_, _, _, _, _, rfl⟩, rfl⟩
    exact sameStore (.ite (.ite (.of_touches (touches_queueReport s _) (by decide))
      (.ite (.of_touches (touches_reportIfPosition s _ _) (by decide)) write)) (.refl s))
  case tableCopy =>
    have copy : SameClockwork s (s.setStore { s.store with shadow := s.store.active }) := ⟨⟨_, _, _, _, _, rfl⟩, rfl⟩
    exact sameStore (.ite copy (.refl s))
  case tableCommit held mode gen cycle => exact timeOk_tableCommit held mode gen cycle hs
  case upSilence =>
    exact sameStore (.ite (.refl s) (.ite (sameClockwork_tellLinkLoss s) (.of_touches (touches_setChain s _) (by decide))))
  case linkLoss => exact sameStore (.ite (.refl s) (sameClockwork_tellLinkLoss s))
  case position hop => exact sameStore (sameClockwork_takePosition hop s)
  case nodeFrame held => exact sameStore (sameClockwork_nodeFrame held s)
  all_goals exact elsewhere rfl rfl

/-- Settles O5: every operation keeps the time base sound. -/
theorem stepKeepsTimeBaseAndClock : Obligations.StepKeepsTimeBaseAndClock := fun _ _ hs hstep =>
  step_keeps (P := State.timeOk) (fun s _ h => SameClockwork.timeOk (s := s) ⟨⟨_, _, _, _, _, rfl⟩, rfl⟩ h) op_keeps_timeOk hstep hs

end Sys2Proof.Laws
end

section
/-! SUPPORT. The invariants of the configuration store, the chain interface, override control and the node controller, and
the empty table and queue of a node at rest. -/

namespace Sys2Proof.Laws

open Sys2Proof Sys2Proof.Machine

/-! ### The configuration store (R166, R168, R169) -/

/-- R169: a bank is valid when every check of every table passes. -/
theorem firstInvalid_eq_none_iff (b : Bank) :
    b.firstInvalid = none ↔ ∀ t, t < 9 → ∀ ok ∈ b.tableChecks t, ok = true := by
  simp only [Bank.firstInvalid, List.findSome?_eq_none_iff, List.mem_range]
  refine forall₂_congr fun t _ => ?_
  cases h : (b.tableChecks t).findIdx? (fun ok => !ok) with
  | none => simpa using List.findIdx?_eq_none_iff.mp h
  | some i =>
    obtain ⟨hlt, hbad, -⟩ := List.findIdx?_eq_some_iff_getElem.mp h
    simp only [reduceCtorEq, false_iff, not_forall]
    exact ⟨_, List.getElem_mem hlt, by simpa using hbad⟩

theorem params_ok_of_valid {b : Bank} (h : b.firstInvalid = none) : b.params.ok = true :=
  (firstInvalid_eq_none_iff b).mp h 0 (by decide) _ (List.mem_singleton_self _)

theorem shapely_writeEntry {b : Bank} (h : b.shapely) (table index : Nat) (bs : List Byte) :
    (b.writeEntry table index bs).shapely := by
  unfold Bank.writeEntry
  split
  next => exact { h with }
  next => exact { h with selection := List.length_set.trans h.selection }
  next => exact { h with rowMap := List.length_set.trans h.rowMap }
  next => exact { h with boards := List.length_set.trans h.boards }
  next => exact { h with rules := List.length_set.trans h.rules }
  next => exact { h with templates := List.length_set.trans h.templates }
  next => exact { h with platformZones := List.length_set.trans h.platformZones }
  next => exact { h with zoneTable := List.length_set.trans h.zoneTable }
  next => exact { h with pages := List.length_set.trans h.pages }
  next => exact h

theorem storeOk_of_store {s t : State} (h : t.store = s.store) (hs : s.storeOk) : t.storeOk :=
  ⟨by rw [h]; exact hs.active, by rw [h]; exact hs.shadow, by rw [h]; exact hs.valid, by rw [h]; exact hs.generation,
    by rw [h]; exact hs.commit⟩

theorem storeOk_of_touches {bs : List Block} {s t : State} (h : Touches bs s t) (hs : s.storeOk)
    (hbs : bs.contains .store = false) : t.storeOk :=
  storeOk_of_store (h .store (by simpa using hbs)) hs

theorem storeOk_noCommit {s : State} (hs : s.storeOk) : (s.setStore { s.store with commit := none }).storeOk :=
  { hs with commit := nofun }

theorem shapely_emptyBank : emptyBank.shapely := ⟨rfl, rfl, rfl, rfl, rfl, rfl, rfl, rfl⟩

theorem emptyBank_valid : emptyBank.firstInvalid = none := by decide

theorem storeOk_powerOnState (s : State) : (powerOnState s).storeOk :=
  ⟨shapely_emptyBank, shapely_emptyBank, emptyBank_valid, Nat.zero_le _, nofun⟩

theorem storeOk_afterReset (cause : ResetCause) {s : State} (hs : s.storeOk) : (afterReset cause s).storeOk :=
  { hs with commit := nofun }

theorem storeOk_resetNode (cause : ResetCause) {s : State} (hs : s.storeOk) : (resetNode cause s).storeOk := by
  rw [resetNode_eq]
  exact storeOk_afterReset cause hs

theorem storeOk_breakReset {s : State} (hs : s.storeOk) : (breakReset s).storeOk := by
  unfold breakReset
  split
  next => exact storeOk_resetNode _ (storeOk_of_touches (touches_setChain s _) hs (by decide))
  next => exact hs

theorem storeOk_supersede {s : State} (hs : s.storeOk) : (supersede s).storeOk := by
  unfold supersede
  split
  next => exact hs
  next => exact storeOk_of_touches (touches_queueReport _ _) (storeOk_noCommit hs) (by decide)

theorem storeOk_switchBank (held : Option Nat) {gen : Nat} (hgen : gen ≤ 255) {s : State} (hs : s.storeOk) :
    (switchBank held gen s).storeOk := by
  unfold switchBank
  split
  next => exact storeOk_of_touches (touches_queueReport _ _) (storeOk_noCommit hs) (by decide)
  next hvalid =>
    rw [acceptSwitch_eq]
    refine storeOk_of_touches (touches_completeJoining _ _) (storeOk_of_touches (touches_switchWorks gen s) ?_ (by decide)) (by decide)
    exact ⟨hs.shadow, hs.active, hvalid, hgen, nofun⟩

theorem storeOk_tableCommit (held : Option Nat) (mode : AddrMode) (gen cycle : Nat) {s : State} (hs : s.storeOk) :
    (tableCommit held mode gen cycle s).storeOk := by
  have hsup := storeOk_supersede hs
  unfold tableCommit
  split_ifs with _ hbad hnow
  · exact storeOk_of_touches (touches_reportIfPosition s _ _) hs (by decide)
  · exact storeOk_switchBank held (by omega) hsup
  · refine { hsup with commit := fun c hc => ?_ }
    cases hc
    change 1 ≤ gen ∧ gen ≤ 255 ∧ cycle ≤ 63
    omega
  · exact hs

theorem storeOk_bankSwitch {s : State} (hs : s.storeOk) : (bankSwitch s).storeOk := by
  unfold bankSwitch
  split
  next => exact hs
  next c hc =>
    obtain ⟨-, hgen, -⟩ := hs.commit c hc
    split
    next => exact storeOk_switchBank _ hgen hs
    next => exact hs

theorem op_keeps_storeOk (o : Op) (s : State) (hs : s.storeOk) : (o.run s).storeOk := by
  have elsewhere {o : Op} (h : o.blocks.contains .store = false) : (o.run s).storeOk :=
    storeOk_of_touches (o.touches s) hs h
  cases o
  case powerOn => exact storeOk_powerOnState s
  case commandReset =>
    change (commandReset s).storeOk
    unfold commandReset
    split
    next => exact storeOk_resetNode _ hs
    next => exact hs
  case breakReset => exact storeOk_breakReset hs
  case breakTick =>
    change (breakTick s).storeOk
    unfold breakTick
    split_ifs
    · exact storeOk_breakReset hs
    · exact storeOk_of_touches (touches_setChain s _) hs (by decide)
    · exact hs
  case bankSwitch => exact storeOk_bankSwitch hs
  case tableWrite mode table index entry =>
    change (tableWrite mode table index entry s).storeOk
    unfold tableWrite
    split_ifs
    · exact storeOk_of_touches (touches_queueReport s _) hs (by decide)
    · exact storeOk_of_touches (touches_reportIfPosition s _ _) hs (by decide)
    · exact { hs with shadow := shapely_writeEntry hs.shadow _ _ _ }
    · exact hs
  case tableCopy =>
    change (tableCopy s).storeOk
    unfold tableCopy
    split
    next => exact { hs with shadow := hs.active }
    next => exact hs
  case tableCommit held mode gen cycle => exact storeOk_tableCommit held mode gen cycle hs
  all_goals exact elsewhere rfl

/-- Settles O9: every operation keeps the store sound. -/
theorem stepKeepsActiveBankValid : Obligations.StepKeepsActiveBankValid := fun _ _ hs hstep =>
  step_keeps (P := State.storeOk) (fun s _ h => storeOk_of_store (s := s) rfl h) (fun o s _ => op_keeps_storeOk o s) hstep hs

/-! ### The chain interface (R155) -/

theorem chainOk_of_chain {s t : State} (h : t.chain = s.chain) (hs : s.chainOk) : t.chainOk :=
  ⟨by rw [h]; exact hs.hopCount, by rw [h]; exact hs.position, by rw [h]; exact hs.grant, by rw [h]; exact hs.upSilence,
    by rw [h]; exact hs.downSilence, by rw [h]; exact hs.chainEnd, by rw [h]; exact hs.quiet⟩

theorem chainOk_of_touches {bs : List Block} {s t : State} (h : Touches bs s t) (hs : s.chainOk)
    (hbs : bs.contains .chain = false) : t.chainOk :=
  chainOk_of_chain (h .chain (by simpa using hbs)) hs

theorem chainOk_tellLinkLoss {s : State} (hs : s.chainOk) : (tellLinkLoss s).chainOk :=
  chainOk_of_touches (touches_nodeLinkLoss _) { hs with grant := nofun, upSilence := Nat.le_refl 3 } (by decide)

theorem chainOk_loseDownstream {s : State} (hs : s.chainOk) : (loseDownstream s).chainOk := by
  unfold loseDownstream
  split
  next =>
    exact chainOk_of_touches (touches_queueReport _ _) { hs with downSilence := Nat.le_refl 3, chainEnd := rfl } (by decide)
  next => exact { hs with downSilence := Nat.le_refl 3 }

theorem chainOk_resetNode (cause : ResetCause) {s : State} (hs : s.chainOk) : (resetNode cause s).chainOk := by
  rw [resetNode_eq]
  exact { hs with grant := nofun, upSilence := Nat.zero_le 3, downSilence := Nat.zero_le 3 }

theorem chainOk_breakReset {s : State} (hs : s.chainOk) : (breakReset s).chainOk := by
  unfold breakReset
  split
  next h =>
    obtain ⟨-, hbreak, -⟩ := h
    exact chainOk_resetNode _ { hs with quiet := fun hno => absurd (hbreak.symm.trans hno) (by decide) }
  next => exact hs

theorem chainOk_takePosition {hop : Nat} (hhop : hop ≤ 63) {s : State} (hs : s.chainOk) : (takePosition hop s).chainOk := by
  have move : (s.setChain { s.chain with hopCount := some hop, position := some (hop + 1) }).chainOk :=
    { hs with hopCount := fun h hh => by cases hh; exact hhop, position := rfl }
  unfold takePosition
  simp only
  split_ifs
  · exact move
  · exact chainOk_of_touches (touches_enterPositionFault _ _) move (by decide)
  · exact chainOk_of_touches (touches_queueReport _ _) move (by decide)
  · exact move

theorem op_keeps_chainOk (o : Op) (s : State) (ho : o.inRange) (hs : s.chainOk) : (o.run s).chainOk := by
  have elsewhere {o : Op} (h : o.blocks.contains .chain = false) : (o.run s).chainOk :=
    chainOk_of_touches (o.touches s) hs h
  cases o
  case powerOn => exact ⟨nofun, rfl, nofun, Nat.zero_le 3, Nat.zero_le 3, rfl, fun _ => ⟨rfl, rfl⟩⟩
  case powerUpEnd =>
    change (powerUpEnd s).chainOk
    unfold powerUpEnd
    split
    next => exact { hs with quiet := fun h => ⟨rfl, h⟩ }
    next => exact hs
  case upSilence =>
    change (raiseUpSilence s).chainOk
    unfold raiseUpSilence
    split_ifs with hskip hlast
    · exact hs
    · exact chainOk_tellLinkLoss hs
    · exact { hs with upSilence := by have := not_or.mp hskip; change s.chain.upSilence + 1 ≤ 3; omega }
  case downSilence =>
    change (raiseDownSilence s).chainOk
    unfold raiseDownSilence
    split_ifs with hskip hlast
    · exact hs
    · exact chainOk_loseDownstream hs
    · exact { hs with downSilence := by have := not_or.mp hskip; change s.chain.downSilence + 1 ≤ 3; omega }
  case linkLoss =>
    change (linkLoss s).chainOk
    unfold linkLoss
    split
    next => exact hs
    next => exact chainOk_tellLinkLoss hs
  case downstreamLost =>
    change (downstreamLost s).chainOk
    unfold downstreamLost
    split
    next => exact hs
    next => exact chainOk_loseDownstream hs
  case commandReset =>
    change (commandReset s).chainOk
    unfold commandReset
    split
    next => exact chainOk_resetNode _ hs
    next => exact hs
  case breakReset => exact chainOk_breakReset hs
  case breakTick =>
    change (breakTick s).chainOk
    unfold breakTick
    split_ifs with hbreak
    · exact chainOk_breakReset hs
    · exact { hs with quiet := fun hno => absurd (hbreak.symm.trans hno) (by decide) }
    · exact hs
  case hear => exact { hs with upSilence := Nat.zero_le 3 }
  case setGrant g => exact { hs with grant := ho }
  case position hop => exact chainOk_takePosition ho hs
  case enterBreak =>
    change (enterBreak s).chainOk
    unfold enterBreak
    split
    next => exact hs
    next => exact { hs with quiet := nofun }
  case leaveBreak => exact { hs with quiet := fun _ => ⟨rfl, rfl⟩ }
  case upstreamStart =>
    change (upstreamStart s).chainOk
    unfold upstreamStart
    split_ifs
    · exact hs
    · exact { hs with downSilence := Nat.zero_le 3, chainEnd := rfl }
    · exact { hs with downSilence := Nat.zero_le 3, chainEnd := rfl }
    · exact { hs with downSilence := Nat.zero_le 3 }
  all_goals exact elsewhere rfl

/-! ### Override control (R144) -/

theorem ovrOk_of_ovr {s t : State} (h : t.ovr = s.ovr) (hs : s.ovrOk) : t.ovrOk :=
  ⟨by rw [h]; exact hs.level, by rw [h]; exact hs.page, by rw [h]; exact hs.floor, by rw [h]; exact hs.template,
    by rw [h]; exact hs.rest⟩

theorem ovrOk_none {s : State} (h : s.ovr = noOverride) : s.ovrOk := by
  constructor <;> rw [h] <;> simp [noOverride]

/-- R146: the context of a SET that is not malformed is within its ranges. -/
theorem ovrOk_overrideOf {b : OverrideBody} (hb : overrideBad b = false) {s : State} (h : s.ovr = overrideOf b) : s.ovrOk := by
  simp only [overrideBad, Bool.or_eq_false_iff, decide_eq_false_iff_not, not_lt] at hb
  obtain ⟨⟨⟨⟨hlow, hhigh⟩, hpage⟩, hfloor⟩, htemplate⟩ := hb
  refine ⟨?_, ?_, ?_, ?_, fun hzero => ?_⟩
  all_goals rw [h] at *
  · exact hhigh
  · exact hpage
  · exact hfloor
  · exact fun t ht => by simpa [show b.template = some t from ht] using htemplate
  · exact absurd hzero (Nat.ne_of_gt hlow)

theorem enterOverride_ovr (b : OverrideBody) (s : State) : (enterOverride b s).ovr = overrideOf b := by
  have hstop : (if b.level = 3 then stopLine (s.setOvr (overrideOf b)) else s.setOvr (overrideOf b)).ovr = overrideOf b := by
    split
    next => exact touches_stopLine _ .ovr (by decide)
    next => rfl
  exact (touches_requestCue _ _ _ _ _ .ovr (by decide) :).trans hstop

theorem op_keeps_ovrOk (o : Op) (s : State) (hs : s.ovrOk) : (o.run s).ovrOk := by
  have elsewhere {o : Op} (h : o.blocks.contains .ovr = false) : (o.run s).ovrOk := ovrOk_of_ovr (Op.same h s) hs
  have reset (cause : ResetCause) (u : State) : (resetNode cause u).ovrOk := by
    rw [resetNode_eq]
    exact ovrOk_none rfl
  have broken : (breakReset s).ovrOk := by
    unfold breakReset
    split
    next => exact reset _ _
    next => exact hs
  cases o
  case powerOn => exact ovrOk_none rfl
  case commandReset =>
    change (commandReset s).ovrOk
    unfold commandReset
    split
    next => exact reset _ _
    next => exact hs
  case breakReset => exact broken
  case breakTick =>
    change (breakTick s).ovrOk
    unfold breakTick
    split_ifs
    · exact broken
    · exact ovrOk_of_ovr (s := s) rfl hs
    · exact hs
  case overrideSet mode b =>
    change (overrideSet mode b s).ovrOk
    unfold overrideSet
    split_ifs with _ hbad
    · exact ovrOk_of_ovr (touches_reportIfPosition s _ _ .ovr (by decide)) hs
    · exact ovrOk_overrideOf (Bool.eq_false_iff.mpr hbad) (enterOverride_ovr b s)
    · exact ovrOk_of_ovr (touches_queueReport s _ .ovr (by decide)) hs
    · exact hs
  case overrideClear mode level =>
    change (overrideClear mode level s).ovrOk
    unfold overrideClear
    split_ifs
    · exact ovrOk_of_ovr (touches_reportIfPosition s _ _ .ovr (by decide)) hs
    · exact ovrOk_none rfl
    · exact ovrOk_of_ovr (touches_queueReport s _ .ovr (by decide)) hs
    · exact hs
  all_goals exact elsewhere rfl

/-- Settles O10: every operation keeps the chain interface and the override context sound. -/
theorem stepKeepsChainAndOverride : Obligations.StepKeepsChainAndOverride := fun _ _ hstep =>
  ⟨step_keeps (P := State.chainOk) (fun s _ h => chainOk_of_chain (s := s) rfl h) op_keeps_chainOk hstep,
    step_keeps (P := State.ovrOk) (fun s _ h => ovrOk_of_ovr (s := s) rfl h) (fun o s _ => op_keeps_ovrOk o s) hstep⟩

/-! ### Operations that only tell (R172) -/

/-- The operations that are calm. -/
def Op.isCalm : Op → Bool
  | .powerOn | .powerUpEnd | .mark _ _ _ | .hold | .holdLimit | .commandReset | .breakReset | .breakTick | .watchSet _ _
  | .watchClear | .bankSwitch | .tableCommit _ _ _ _ | .upSilence | .linkLoss | .position _ | .nodeFrame _ | .originate
  | .upstreamFrame _ => false
  | _ => true

theorem Op.calm_run {o : Op} (h : o.isCalm = true) (s : State) : Calm s (o.run s) := by
  have elsewhere {o : Op}
      (h : o.blocks.contains .node = false ∧ o.blocks.contains .cues = false ∧ o.blocks.contains .table = false) :
      Calm s (o.run s) := .of_touches (o.touches s) h
  cases o
  case report r => exact calm_queueReport s r
  case second =>
    have tick : Calm s (s.setTime s.time.tickSecond) := .of_touches (touches_setTime s _) (by decide)
    exact .ite (tick.trans (calm_lowerCues _)) tick
  case windowClose t16 => exact calm_windowCloses s t16
  case trim => exact calm_trimAtFrameStart s
  case mergeStart => exact calm_mergeFrameStart s
  case age d => exact calm_ageTable s d
  case turnTable => exact calm_turnTable s
  case retireWhere p => exact calm_retireWhere s p
  case rules => exact calm_evaluateAll s
  case attentionExpiry key => exact calm_setTable fun h => by simp [h]
  case clearAttention mode key => exact calm_clearAttention s mode key
  case post mode b => exact calm_servicePost s mode b
  case amend mode b => exact calm_serviceAmend s mode b
  case withdraw mode key => exact calm_serviceWithdraw s mode key
  case scheduler => exact calm_schedulerTests s
  case cueRelease i => exact (calm_updateCue s _ _).trans (calm_noZoneCheck _)
  case cueExpiry i => exact calm_dropCues s _ _
  case cuePost mode b => exact calm_cuePost s mode b
  case arbitrate => exact calm_arbitrate s
  case startSent => exact calm_startSent s
  case reply k chars => exact calm_onReply s k chars
  case closeWindow => exact calm_closeWindow s
  case playLimit i => exact calm_reachPlayLimit s i
  case lineCycle => exact calm_lineCycle s
  case lineTick => exact calm_lineTick s
  case overrideSet mode b => exact calm_overrideSet s mode b
  case overrideClear mode level => exact calm_overrideClear s mode level
  case notice mode b => exact calm_noticeSet s mode b
  case tableWrite mode table index entry => exact calm_tableWrite s mode table index entry
  case downSilence => exact calm_raiseDownSilence s
  case downstreamLost => exact calm_downstreamLost s
  case countFree | generator | countTick | setCycle | cancelSent | breakEnd | quietEnd | pollDue | compose | tableCopy | hear
      | setGrant | enterBreak | leaveBreak | forward | upstreamStart | upTick => exact elsewhere ⟨rfl, rfl, rfl⟩
  all_goals cases h

/-! ### The node controller (R100, R171, R172) -/

theorem nodeOk_of_node {s t : State} (h : t.node = s.node) (hs : s.nodeOk) : t.nodeOk :=
  ⟨by rw [h]; exact hs.reports, by rw [h]; exact hs.watch, by rw [h]; exact hs.watchKeys,
    by rw [h]; exact hs.watchNonzero, by rw [h]; exact hs.holdover, by rw [h]; exact hs.counting⟩

theorem nodeOk_of_touches {bs : List Block} {s t : State} (h : Touches bs s t) (hs : s.nodeOk)
    (hbs : bs.contains .node = false) : t.nodeOk :=
  nodeOk_of_node (h .node (by simpa using hbs)) hs

@[simp] theorem nodeAfterReports_holdover (rs : List Report) (n : Node) : (nodeAfterReports rs n).holdover = n.holdover := by
  rw [nodeAfterReports_rest]

theorem Told.nodeOk {s t : State} (h : Told s t) (hs : s.nodeOk) : t.nodeOk := by
  obtain ⟨rs, hr⟩ := h
  refine ⟨?_, ?_, ?_, ?_, ?_, ?_⟩
  all_goals rw [hr]
  · exact nodeAfterReports_length rs s.node hs.reports
  all_goals simp only [nodeAfterReports_watch, nodeAfterReports_holdover, nodeAfterReports_state]
  · exact hs.watch
  · exact hs.watchKeys
  · exact hs.watchNonzero
  · exact hs.holdover
  · exact hs.counting

/-- A change of state, with the holdover count below its limit where HOLDOVER is entered. -/
theorem nodeOk_changeState {new : NodeState} (old : Option Nat) {s : State} (hs : s.nodeOk)
    (hnew : new = .holdover → s.node.holdover < 3600) : (changeState new old s).nodeOk := by
  have hset : (s.setNode { s.node with state := new }).nodeOk := { hs with counting := hnew }
  rw [changeState_eq]
  exact Told.nodeOk (s := s.setNode { s.node with state := new }) ⟨_, rfl⟩ hset

theorem nodeOk_setHoldover {k : Nat} (hk : k < 3600) {s : State} (hs : s.nodeOk) :
    (s.setNode { s.node with holdover := k }).nodeOk :=
  { hs with holdover := hk.le, counting := fun _ => hk }

theorem told_flushNode (s : State) : Told s (flushNode s) := by
  rw [flushNode_eq]
  exact ⟨_, rfl⟩

theorem nodeOk_enterIsolated {s : State} (hs : s.nodeOk) : (enterIsolated s).nodeOk :=
  (told_flushNode _).nodeOk (nodeOk_changeState _ hs nofun)

theorem nodeOk_enterPositionFault (old : Option Nat) {s : State} (hs : s.nodeOk) : (enterPositionFault old s).nodeOk := by
  have hchange := nodeOk_changeState (new := .positionFault) old hs nofun
  unfold enterPositionFault
  refine (told_flushNode _).nodeOk ?_
  split
  next => exact nodeOk_setHoldover (by decide) hchange
  next => exact hchange

theorem nodeOk_completeJoining (held : Option Nat) {s : State} (hs : s.nodeOk) : (completeJoining held s).nodeOk := by
  unfold completeJoining
  split
  next => exact nodeOk_changeState _ (nodeOk_setHoldover (by decide) hs) nofun
  next => exact hs

theorem nodeOk_nodeLinkLoss {s : State} (hs : s.nodeOk) : (nodeLinkLoss s).nodeOk := by
  unfold nodeLinkLoss
  split
  next => exact nodeOk_changeState _ (nodeOk_setHoldover (by decide) hs) fun _ => by change 0 < 3600; decide
  next => exact nodeOk_changeState _ hs nofun
  next => exact hs

theorem nodeOk_nodeFrame (held : Option Nat) {s : State} (hs : s.nodeOk) : (nodeFrame held s).nodeOk := by
  have joining : (enterJoining held s).nodeOk :=
    nodeOk_changeState _ (nodeOk_of_touches (touches_setTime s _) hs (by decide)) nofun
  unfold nodeFrame
  split
  next => exact joining
  next => exact joining
  next =>
    split
    next => exact joining
    next => exact hs
  next => exact nodeOk_changeState _ (nodeOk_setHoldover (by decide) hs) nofun
  next => exact hs

theorem nodeOk_tellLinkLoss {s : State} (hs : s.nodeOk) : (tellLinkLoss s).nodeOk :=
  nodeOk_nodeLinkLoss (nodeOk_of_touches (touches_setChain s _) hs (by decide))

theorem nodeOk_resetNode (cause : ResetCause) (s : State) : (resetNode cause s).nodeOk := by
  rw [resetNode_eq]
  exact ⟨Nat.zero_le _, Nat.zero_le _, List.nodup_nil, nofun, Nat.zero_le _, nofun⟩

theorem nodeOk_breakReset {s : State} (hs : s.nodeOk) : (breakReset s).nodeOk := by
  unfold breakReset
  split
  next => exact nodeOk_resetNode _ _
  next => exact hs

theorem nodeOk_takePosition (hop : Nat) {s : State} (hs : s.nodeOk) : (takePosition hop s).nodeOk := by
  have move : (s.setChain { s.chain with hopCount := some hop, position := some (hop + 1) }).nodeOk :=
    nodeOk_of_touches (touches_setChain s _) hs (by decide)
  unfold takePosition
  simp only
  split_ifs
  · exact move
  · exact nodeOk_enterPositionFault _ move
  · exact (calm_queueReport _ _).told.nodeOk move
  · exact move

theorem nodeOk_takeMark (held : Option Nat) (day sec : Nat) {s : State} (hs : s.nodeOk) : (takeMark held day sec s).nodeOk := by
  unfold takeMark
  split_ifs
  · exact nodeOk_completeJoining held ((calm_setClock s day sec).told.nodeOk hs)
  · split
    next => exact hs
    next =>
      exact (((calm_setClock s day sec).trans (calm_queueReport _ _)).told.trans (told_flushNode _)).nodeOk hs
    next => exact (calm_setBack s day sec).told.nodeOk hs
    next => exact (calm_forwardStep s _ day sec).told.nodeOk hs
    next => exact (calm_forwardStep s _ day sec).told.nodeOk hs
  · exact hs

theorem nodeOk_switchBank (held : Option Nat) (gen : Nat) {s : State} (hs : s.nodeOk) : (switchBank held gen s).nodeOk := by
  unfold switchBank
  split
  next => exact (calm_refuseSwitch s _ _ _).told.nodeOk hs
  next =>
    rw [acceptSwitch_eq]
    exact nodeOk_completeJoining held ((calm_switchWorks s gen).told.nodeOk hs)

theorem nodeOk_dequeuePlaced (body : List Byte) {s : State} (hs : s.nodeOk) : (dequeuePlaced body s).nodeOk := by
  unfold dequeuePlaced
  split
  next => exact hs
  next => exact { hs with reports := by have h := hs.reports; simp; omega }

theorem nodeOk_sendUpstream (good : Bool) (body : List Byte) (left : Nat) {s : State} (hs : s.nodeOk) :
    (sendUpstream good body left s).nodeOk :=
  nodeOk_of_touches (touches_setPorts _ _) (nodeOk_dequeuePlaced body hs) (by decide)

/-- R171: a key added leaves at most 4, none twice. -/
theorem addWatch_ok {key : Nat} (hkey : key ≠ 0) {w : List Nat} (hlen : w.length ≤ 4) (hnodup : w.Nodup)
    (hnonzero : ∀ k ∈ w, k ≠ 0) :
    (addWatch key w).length ≤ 4 ∧ (addWatch key w).Nodup ∧ ∀ k ∈ addWatch key w, k ≠ 0 := by
  by_cases hmem : key ∈ w
  · rw [addWatch, if_pos (by simpa using hmem)]
    exact ⟨hlen, hnodup, hnonzero⟩
  · rw [addWatch_new hmem]
    have hsub : (if 4 ≤ w.length then w.drop (w.length - 3) else w).Sublist w := by
      split
      next => exact List.drop_sublist _ _
      next => exact List.Sublist.refl w
    have hshort : (if 4 ≤ w.length then w.drop (w.length - 3) else w).length ≤ 3 := by
      split
      next => simp; omega
      next => omega
    refine ⟨by simp; omega, ?_, fun k hk => ?_⟩
    · refine List.nodup_append.mpr ⟨hsub.nodup hnodup, List.nodup_singleton key, fun a ha b hb hab => ?_⟩
      rw [List.mem_singleton.mp hb] at hab
      exact hmem (hab ▸ hsub.subset ha)
    · rcases List.mem_append.mp hk with hk | hk
      · exact hnonzero k (hsub.subset hk)
      · exact List.mem_singleton.mp hk ▸ hkey

theorem op_keeps_nodeOk (o : Op) (s : State) (hstore : s.storeOk) (hs : s.nodeOk) : (o.run s).nodeOk := by
  have hlimit : s.bank.params.holdoverLimit ≤ 3600 := by
    have h := params_ok_of_valid hstore.valid
    simp only [NodeParams.ok, Bool.and_eq_true, decide_eq_true_eq] at h
    change s.store.active.params.holdoverLimit ≤ 3600
    omega
  have calm {o : Op} (h : o.isCalm = true) : (o.run s).nodeOk := (Op.calm_run h s).told.nodeOk hs
  cases o
  case powerOn => exact ⟨Nat.zero_le _, Nat.zero_le _, List.nodup_nil, nofun, Nat.zero_le _, nofun⟩
  case powerUpEnd =>
    change (powerUpEnd s).nodeOk
    unfold powerUpEnd
    split
    next => exact { hs with counting := nofun }
    next => exact hs
  case mark held day sec => exact nodeOk_takeMark held day sec hs
  case hold =>
    change (holdTick s).nodeOk
    unfold holdTick
    split
    next hstate =>
      have hcount := hs.counting hstate
      simp only
      split
      next =>
        refine (told_flushNode _).nodeOk ?_
        rw [changeState_eq]
        refine Told.nodeOk (s := s.setNode { s.node with state := .isolated, holdover := s.node.holdover + 1 }) ⟨_, rfl⟩ ?_
        exact { hs with holdover := hcount, counting := nofun }
      next hbelow => exact nodeOk_setHoldover (lt_of_lt_of_le (Nat.not_le.mp hbelow) hlimit) hs
    next => exact hs
  case holdLimit =>
    change (reachHoldoverLimit s).nodeOk
    unfold reachHoldoverLimit
    split
    next =>
      refine (told_flushNode _).nodeOk ?_
      rw [changeState_eq]
      refine Told.nodeOk (s := s.setNode
        { s.node with state := .isolated, holdover := max s.node.holdover s.bank.params.holdoverLimit }) ⟨_, rfl⟩ ?_
      exact { hs with holdover := max_le hs.holdover hlimit, counting := nofun }
    next => exact hs
  case commandReset =>
    change (commandReset s).nodeOk
    unfold commandReset
    split
    next => exact nodeOk_resetNode _ s
    next => exact hs
  case breakReset => exact nodeOk_breakReset hs
  case breakTick =>
    change (breakTick s).nodeOk
    unfold breakTick
    split_ifs
    · exact nodeOk_breakReset hs
    · exact nodeOk_of_touches (touches_setChain s _) hs (by decide)
    · exact hs
  case watchSet mode key =>
    change (watchSet mode key s).nodeOk
    unfold watchSet
    split_ifs with _ hkey
    · exact (calm_reportIfPosition s _ _).told.nodeOk hs
    · obtain ⟨hlen, hnodup, hnonzero⟩ := addWatch_ok hkey hs.watch hs.watchKeys hs.watchNonzero
      exact { hs with watch := hlen, watchKeys := hnodup, watchNonzero := hnonzero }
    · exact hs
  case watchClear =>
    change (watchClear s).nodeOk
    unfold watchClear
    split
    next => exact { hs with watch := Nat.zero_le _, watchKeys := List.nodup_nil, watchNonzero := nofun }
    next => exact hs
  case bankSwitch =>
    change (bankSwitch s).nodeOk
    unfold bankSwitch
    split
    next => exact hs
    next =>
      split
      next => exact nodeOk_switchBank _ _ hs
      next => exact hs
  case tableCommit held mode gen cycle =>
    change (tableCommit held mode gen cycle s).nodeOk
    have hsup := (calm_supersede s).told.nodeOk hs
    unfold tableCommit
    split_ifs
    · exact (calm_reportIfPosition s _ _).told.nodeOk hs
    · exact nodeOk_switchBank held gen hsup
    · exact nodeOk_of_touches (touches_setStore _ _) hsup (by decide)
    · exact hs
  case upSilence =>
    change (raiseUpSilence s).nodeOk
    unfold raiseUpSilence
    split_ifs
    · exact hs
    · exact nodeOk_tellLinkLoss hs
    · exact nodeOk_of_touches (touches_setChain s _) hs (by decide)
  case linkLoss =>
    change (linkLoss s).nodeOk
    unfold linkLoss
    split
    next => exact hs
    next => exact nodeOk_tellLinkLoss hs
  case position hop => exact nodeOk_takePosition hop hs
  case nodeFrame held => exact nodeOk_nodeFrame held hs
  case originate =>
    change (originateFrame s).nodeOk
    unfold originateFrame
    split
    next => exact hs
    next => exact nodeOk_sendUpstream _ _ _ hs
  case upstreamFrame bs =>
    change (upstreamFrame bs s).nodeOk
    unfold upstreamFrame
    split
    next => exact hs
    next => exact nodeOk_sendUpstream _ _ _ hs
  all_goals exact calm rfl

/-- Settles O11: every operation keeps the node controller sound, under a bank whose holdover limit is in range. -/
theorem stepKeepsNodeController : Obligations.StepKeepsNodeController := fun _ _ hstore hs hstep =>
  (step_keeps (P := fun u => u.storeOk ∧ u.nodeOk)
    (fun s _ h => ⟨storeOk_of_store (s := s) rfl h.1, nodeOk_of_node (s := s) rfl h.2⟩)
    (fun o s _ h => ⟨op_keeps_storeOk o s h.1, op_keeps_nodeOk o s h.1 h.2⟩) hstep ⟨hstore, hs⟩).2

/-! ### The node at rest (R173) -/

theorem Calm.restOk {s t : State} (h : Calm s t) (hs : s.restOk) : t.restOk := by
  intro hr hh
  rw [h.told.state] at hr hh
  obtain ⟨htable, hcues⟩ := hs hr hh
  exact ⟨h.table hr htable, h.cues hr hcues⟩

theorem restOk_of_empty {s : State} (ht : s.table = []) (hc : s.cues.queue = []) : s.restOk := fun _ _ => ⟨ht, hc⟩

theorem restOk_of_active {s : State} (h : s.node.state = .running ∨ s.node.state = .holdover) : s.restOk :=
  fun hr hh => absurd h (not_or.mpr ⟨hr, hh⟩)

theorem changeState_node_state (new : NodeState) (old : Option Nat) (s : State) :
    (changeState new old s).node.state = new := by
  rw [changeState_eq]
  simp

theorem restOk_changeState_active {new : NodeState} (h : new = .running ∨ new = .holdover) (old : Option Nat) (s : State) :
    (changeState new old s).restOk :=
  restOk_of_active (by rwa [changeState_node_state])

/-- A change between two resting states. -/
theorem restOk_changeState_rest (new : NodeState) (old : Option Nat) {s : State} (hs : s.restOk)
    (hstate : s.node.state ≠ .running ∧ s.node.state ≠ .holdover) : (changeState new old s).restOk := by
  obtain ⟨htable, hcues⟩ := hs hstate.1 hstate.2
  rw [changeState_eq]
  exact restOk_of_empty htable hcues

theorem restOk_flushNode (s : State) : (flushNode s).restOk := by
  rw [flushNode_eq]
  exact restOk_of_empty rfl rfl

theorem restOk_completeJoining (held : Option Nat) {s : State} (hs : s.restOk) : (completeJoining held s).restOk := by
  unfold completeJoining
  split
  next => exact restOk_changeState_active (.inl rfl) _ _
  next => exact hs

theorem restOk_nodeLinkLoss {s : State} (hs : s.restOk) : (nodeLinkLoss s).restOk := by
  unfold nodeLinkLoss
  split
  next => exact restOk_changeState_active (.inr rfl) _ _
  next h => exact restOk_changeState_rest _ _ hs (by simp [h])
  next => exact hs

theorem restOk_tellLinkLoss {s : State} (hs : s.restOk) : (tellLinkLoss s).restOk :=
  restOk_nodeLinkLoss ((Calm.of_touches (touches_setChain s _) (by decide)).restOk hs)

theorem restOk_nodeFrame (held : Option Nat) {s : State} (hs : s.restOk) : (nodeFrame held s).restOk := by
  have joining (h : s.node.state ≠ .running ∧ s.node.state ≠ .holdover) : (enterJoining held s).restOk :=
    restOk_changeState_rest _ _ ((Calm.of_touches (touches_setTime s _) (by decide)).restOk hs) h
  unfold nodeFrame
  split
  next h => exact joining (by simp [h])
  next h => exact joining (by simp [h])
  next h =>
    split
    next => exact joining (by simp [h])
    next => exact hs
  next => exact restOk_changeState_active (.inl rfl) _ _
  next => exact hs

theorem restOk_resetNode (cause : ResetCause) (s : State) : (resetNode cause s).restOk := by
  rw [resetNode_eq]
  exact restOk_of_empty rfl rfl

theorem restOk_breakReset {s : State} (hs : s.restOk) : (breakReset s).restOk := by
  unfold breakReset
  split
  next => exact restOk_resetNode _ _
  next => exact hs

theorem restOk_takePosition (hop : Nat) {s : State} (hs : s.restOk) : (takePosition hop s).restOk := by
  have move : (s.setChain { s.chain with hopCount := some hop, position := some (hop + 1) }).restOk :=
    (Calm.of_touches (touches_setChain s _) (by decide)).restOk hs
  unfold takePosition
  simp only
  split_ifs
  · exact move
  · exact restOk_flushNode _
  · exact (calm_queueReport _ _).restOk move
  · exact move

theorem restOk_takeMark (held : Option Nat) (day sec : Nat) {s : State} (hs : s.restOk) : (takeMark held day sec s).restOk := by
  unfold takeMark
  split_ifs
  · exact restOk_completeJoining held ((calm_setClock s day sec).restOk hs)
  · split
    next => exact hs
    next => exact restOk_flushNode _
    next => exact (calm_setBack s day sec).restOk hs
    next => exact (calm_forwardStep s _ day sec).restOk hs
    next => exact (calm_forwardStep s _ day sec).restOk hs
  · exact hs

theorem restOk_switchBank (held : Option Nat) (gen : Nat) {s : State} (hs : s.restOk) : (switchBank held gen s).restOk := by
  unfold switchBank
  split
  next => exact (calm_refuseSwitch s _ _ _).restOk hs
  next =>
    rw [acceptSwitch_eq]
    exact restOk_completeJoining held ((calm_switchWorks s gen).restOk hs)

theorem restOk_of_state {s t : State} (hstate : t.node.state = s.node.state) (htable : t.table = s.table)
    (hcues : t.cues = s.cues) (hs : s.restOk) : t.restOk := by
  intro hr hh
  rw [htable, hcues]
  exact hs (hstate ▸ hr) (hstate ▸ hh)

theorem restOk_sendUpstream (good : Bool) (body : List Byte) (left : Nat) {s : State} (hs : s.restOk) :
    (sendUpstream good body left s).restOk := by
  have hstate : (dequeuePlaced body s).node.state = s.node.state := by
    unfold dequeuePlaced
    split <;> rfl
  have htouch := touches_sendUpstream s good body left
  exact restOk_of_state hstate (htouch .table (by decide)) (htouch .cues (by decide)) hs

theorem op_keeps_restOk (o : Op) (s : State) (hs : s.restOk) : (o.run s).restOk := by
  have calm {o : Op} (h : o.isCalm = true) : (o.run s).restOk := (Op.calm_run h s).restOk hs
  cases o
  case powerOn => exact restOk_of_empty rfl rfl
  case powerUpEnd =>
    change (powerUpEnd s).restOk
    unfold powerUpEnd
    split
    next h =>
      obtain ⟨htable, hcues⟩ := hs (by simp [h]) (by simp [h])
      exact restOk_of_empty htable hcues
    next => exact hs
  case mark held day sec => exact restOk_takeMark held day sec hs
  case hold =>
    change (holdTick s).restOk
    unfold holdTick
    split
    next hstate =>
      simp only
      split
      next => exact restOk_flushNode _
      next => exact restOk_of_active (.inr hstate)
    next => exact hs
  case holdLimit =>
    change (reachHoldoverLimit s).restOk
    unfold reachHoldoverLimit
    split
    next => exact restOk_flushNode _
    next => exact hs
  case commandReset =>
    change (commandReset s).restOk
    unfold commandReset
    split
    next => exact restOk_resetNode _ s
    next => exact hs
  case breakReset => exact restOk_breakReset hs
  case breakTick =>
    change (breakTick s).restOk
    unfold breakTick
    split_ifs
    · exact restOk_breakReset hs
    · exact (Calm.of_touches (touches_setChain s _) (by decide)).restOk hs
    · exact hs
  case watchSet mode key =>
    change (watchSet mode key s).restOk
    unfold watchSet
    split_ifs
    · exact (calm_reportIfPosition s _ _).restOk hs
    · exact restOk_of_state (s := s) rfl rfl rfl hs
    · exact hs
  case watchClear =>
    change (watchClear s).restOk
    unfold watchClear
    split
    next => exact restOk_of_state (s := s) rfl rfl rfl hs
    next => exact hs
  case bankSwitch =>
    change (bankSwitch s).restOk
    unfold bankSwitch
    split
    next => exact hs
    next =>
      split
      next => exact restOk_switchBank _ _ hs
      next => exact hs
  case tableCommit held mode gen cycle =>
    change (tableCommit held mode gen cycle s).restOk
    have hsup := (calm_supersede s).restOk hs
    unfold tableCommit
    split_ifs
    · exact (calm_reportIfPosition s _ _).restOk hs
    · exact restOk_switchBank held gen hsup
    · exact (Calm.of_touches (touches_setStore _ _) (by decide)).restOk hsup
    · exact hs
  case upSilence =>
    change (raiseUpSilence s).restOk
    unfold raiseUpSilence
    split_ifs
    · exact hs
    · exact restOk_tellLinkLoss hs
    · exact (Calm.of_touches (touches_setChain s _) (by decide)).restOk hs
  case linkLoss =>
    change (linkLoss s).restOk
    unfold linkLoss
    split
    next => exact hs
    next => exact restOk_tellLinkLoss hs
  case position hop => exact restOk_takePosition hop hs
  case nodeFrame held => exact restOk_nodeFrame held hs
  case originate =>
    change (originateFrame s).restOk
    unfold originateFrame
    split
    next => exact hs
    next => exact restOk_sendUpstream _ _ _ hs
  case upstreamFrame bs =>
    change (upstreamFrame bs s).restOk
    unfold upstreamFrame
    split
    next => exact hs
    next => exact restOk_sendUpstream _ _ _ hs
  all_goals exact calm rfl

/-- Settles O12: what fills table or queue is taken in RUNNING alone, and what leaves RUNNING and HOLDOVER empties both. -/
theorem stepKeepsRestingNodeEmpty : Obligations.StepKeepsRestingNodeEmpty := fun _ _ hs hstep =>
  step_keeps (P := State.restOk) (fun s _ h => restOk_of_state (s := s) rfl rfl rfl h)
    (fun o s _ => op_keeps_restOk o s) hstep hs

/-! ### The power-on state -/

theorem zoneOk_resetZone (addr : Nat) : (resetZone addr).ok :=
  ⟨by simp [resetZone], Nat.zero_le _, nofun, nofun, nofun, nofun⟩

/-- A controller at rest: eight sound zones and nothing under way. -/
theorem lineOk_of_rest {l : LineCtl} (h8 : l.zones.length = 8) (hz : ∀ z ∈ l.zones, z.ok) (hseq : l.seq = none)
    (hjobs : l.jobs = []) (htrans : ∀ t, l.status ≠ .transaction t) (hquiet : ∀ k, l.status ≠ .quiet k) : l.ok where
  eight := h8
  zones := hz
  seq := fun q hq => by simp [hseq] at hq
  stops := fun n i hj => by simp [hjobs] at hj
  offer := fun n a i h => absurd h (htrans _)
  stop := fun n a i h => absurd h (htrans _)
  poll := fun n a h => absurd h (htrans _)
  quiet := fun k h => absurd h (hquiet k)

/-- With no zone held and nothing under way, zones and queue agree when no cue is on the line. -/
theorem accordOk_of_rest {s : State} (hz : ∀ n, n < 8 → (s.line.zone n).holding = none)
    (hcues : ∀ c ∈ s.cues.queue, c.onLine = false) (hseq : s.line.seq = none) (hjobs : s.line.jobs = [])
    (htrans : ∀ t, s.line.status ≠ .transaction t) : s.accordOk where
  held := fun n hn i h => by simp [hz n hn] at h
  borne := fun c hc h => by simp [hcues c hc] at h
  offered := fun c hc h => by
    have hoff := hcues c hc
    simp [Cue.onLine, h] at hoff
  seq := fun q hq => by simp [hseq] at hq
  offer := fun n a i h => absurd h (htrans _)
  start := fun i h => absurd h (htrans _)
  stop := fun n a i h => absurd h (htrans _)
  stops := fun n i hj => by simp [hjobs] at hj

theorem zone_replicate {l : LineCtl} {z : Zone} (h : l.zones = List.replicate 8 z) {n : Nat} (hn : n < 8) : l.zone n = z := by
  rw [LineCtl.zone, h, List.getD_eq_getElem?_getD, List.getElem?_replicate, if_pos hn, Option.getD_some]

theorem lineOk_reset : State.reset.line.ok :=
  lineOk_of_rest rfl (fun _ hz => List.eq_of_mem_replicate hz ▸ zoneOk_resetZone 0) rfl rfl nofun nofun

theorem accordOk_reset : State.reset.accordOk :=
  accordOk_of_rest (fun _ hn => congrArg Zone.holding (zone_replicate (z := resetZone 0) rfl hn)) (List.forall_mem_nil _) rfl rfl nofun

/-- Settles O4: the values of power-on, block by block. -/
theorem powerOnStateIsSound : Obligations.PowerOnStateIsSound :=
  ⟨timeOk_powerOnState State.reset, storeOk_powerOnState State.reset,
    ⟨Nat.zero_le _, .nil, .nil, List.forall_mem_nil _⟩,
    ⟨Nat.zero_le _, .nil, .nil, List.forall_mem_nil _, by decide⟩, lineOk_reset,
    ⟨nofun, rfl, nofun, Nat.zero_le _, Nat.zero_le _, rfl, fun _ => ⟨rfl, rfl⟩⟩, ovrOk_none rfl,
    ⟨Nat.zero_le _, Nat.zero_le _, List.nodup_nil, nofun, Nat.zero_le _, nofun⟩, restOk_of_empty rfl rfl, accordOk_reset,
    List.forall_mem_nil _⟩

end Sys2Proof.Laws
end

section
/-! SUPPORT. What the service list unit and the rule evaluator leave of the table, in closed form, and the invariant of the
table: ordered, without a key twice, of at most 96 sound records (R1 to R5, R20). -/

namespace Sys2Proof.Laws

open Sys2Proof Sys2Proof.Machine

/-! ### Records settled one after another -/

/-- One record of a table settled: replaced where it stands, or taken out. -/
def settleRecord (g : ServiceRecord → Option ServiceRecord) (t : List ServiceRecord) (r : ServiceRecord) :
    List ServiceRecord :=
  match g r with
  | none => removeKey r.key t
  | some q => replaceRecord q t

/-- The record a list holds for the key of `x`. -/
def sameKey (l : List ServiceRecord) (x : ServiceRecord) : Option ServiceRecord := l.find? fun r => r.key == x.key

/-- What a table's record becomes when the records of a list are settled. -/
def settled (g : ServiceRecord → Option ServiceRecord) (l : List ServiceRecord) (x : ServiceRecord) :
    Option ServiceRecord :=
  match sameKey l x with
  | none => some x
  | some r => g r

/-- In a table without a key twice a key names one record. -/
theorem eq_of_key_eq {t : List ServiceRecord} (h : t.Pairwise fun a b => a.key ≠ b.key) {x y : ServiceRecord} (hx : x ∈ t)
    (hy : y ∈ t) (hkey : x.key = y.key) : x = y :=
  List.inj_on_of_nodup_map (f := ServiceRecord.key) (List.pairwise_map.mpr h) hx hy hkey

section
variable {g : ServiceRecord → Option ServiceRecord} (hkey : ∀ r q, g r = some q → q.key = r.key)
include hkey

theorem settleRecord_eq (t : List ServiceRecord) (r : ServiceRecord) :
    settleRecord g t r = t.filterMap fun x => if x.key = r.key then g r else some x := by
  unfold settleRecord
  cases hg : g r with
  | none =>
    rw [removeKey, ← List.filterMap_eq_filter]
    refine List.filterMap_congr fun x _ => ?_
    by_cases hx : x.key = r.key <;> simp [hx, Option.guard]
  | some q =>
    change t.map (fun x => if x.key == q.key then q else x) = _
    rw [← List.filterMap_eq_map]
    refine List.filterMap_congr fun x _ => ?_
    by_cases hx : x.key = r.key <;> simp [hx, hkey r q hg]

theorem foldl_settleRecord (l t : List ServiceRecord) (hl : l.Pairwise fun a b => a.key ≠ b.key) :
    l.foldl (settleRecord g) t = t.filterMap (settled g l) := by
  induction l generalizing t with
  | nil => exact List.filterMap_some.symm
  | cons r l ih =>
    obtain ⟨hr, hl⟩ := List.pairwise_cons.mp hl
    rw [List.foldl_cons, ih _ hl, settleRecord_eq hkey, List.filterMap_filterMap]
    refine List.filterMap_congr fun x _ => ?_
    by_cases hx : x.key = r.key
    · have hfirst : settled g (r :: l) x = g r := by simp [settled, sameKey, hx]
      have hlater (y : ServiceRecord) (hy : y.key = r.key) : settled g l y = some y := by
        have hnone : sameKey l y = none := by
          simp only [sameKey, List.find?_eq_none, beq_iff_eq]
          exact fun q hq h => hr q hq (hy.symm.trans h.symm)
        rw [settled, hnone]
      rw [if_pos hx, hfirst]
      cases hg : g r with
      | none => rfl
      | some q => exact hlater q (hkey r q hg)
    · have hskip : sameKey (r :: l) x = sameKey l x := by
        simp [sameKey, Ne.symm hx]
      rw [if_neg hx, settled, hskip]
      rfl

/-- Settling every record of a table without a key twice settles each by itself. -/
theorem foldl_settleRecord_self (t : List ServiceRecord) (ht : t.Pairwise fun a b => a.key ≠ b.key) :
    t.foldl (settleRecord g) t = t.filterMap g := by
  rw [foldl_settleRecord hkey t t ht]
  refine List.filterMap_congr fun x hx => ?_
  obtain ⟨r, hr⟩ : ∃ r, sameKey t x = some r := Option.isSome_iff_exists.mp (by simpa [sameKey] using ⟨x, hx, rfl⟩)
  have hrx : r.key = x.key := by simpa using List.find?_some hr
  rw [settled, hr, eq_of_key_eq ht (List.mem_of_find?_eq_some hr) hx hrx]

end

/-! ### The rule evaluator (R50 to R56) -/

theorem table_fullEvaluation (r : ServiceRecord) (s : State) :
    (fullEvaluation r s).table = replaceRecord (decideRules s.bank s.time.second r) s.table :=
  touches_ruleRequests _ _ _ .table (by decide)

theorem bank_of_touches {bs : List Block} {s t : State} (h : Touches bs s t)
    (hbs : bs.contains .store = false) : t.bank = s.bank :=
  congrArg Store.active (h .store (by simpa using hbs) : t.store = s.store)

theorem time_of_touches {bs : List Block} {s t : State} (h : Touches bs s t)
    (hbs : bs.contains .time = false) : t.time = s.time := h .time (by simpa using hbs)

/-- R54: an evaluation of every record decides each of them anew. -/
theorem table_evaluateAll (s : State) (h : s.table.Pairwise fun a b => a.key ≠ b.key) :
    (evaluateAll s).table = s.table.map (decideRules s.bank s.time.second) := by
  have fold (l : List ServiceRecord) (u : State) (hbank : u.bank = s.bank) (htime : u.time = s.time) :
      (l.foldl (fun st r => fullEvaluation r st) u).table =
        l.foldl (settleRecord fun r => some (decideRules s.bank s.time.second r)) u.table := by
    induction l generalizing u with
    | nil => rfl
    | cons r l ih =>
      have htouch := touches_fullEvaluation u r
      rw [List.foldl_cons, ih _ ((bank_of_touches htouch (by decide)).trans hbank) ((time_of_touches htouch (by decide)).trans htime),
        table_fullEvaluation, hbank, htime]
      rfl
  rw [evaluateAll, fold s.table s rfl rfl, foldl_settleRecord_self (fun r q hq => by cases hq; rfl) s.table h]
  exact congrFun List.filterMap_eq_map' _

/-- R23: what a re-selection makes of a record under the active selection table. -/
def reselected (b : Bank) (r : ServiceRecord) : Option ServiceRecord :=
  if (selectRecord b.selection r.platform r.opClass).1 = 0#4 then none
  else
    some { r with
      boards := (selectRecord b.selection r.platform r.opClass).1
      cueEnabled := (selectRecord b.selection r.platform r.opClass).2 }

theorem reselected_key {b : Bank} {r q : ServiceRecord} (h : reselected b r = some q) : q.key = r.key := by
  unfold reselected at h
  split at h
  next => cases h
  next => cases h; rfl

theorem table_reselectOne (s : State) (r : ServiceRecord) :
    (reselectOne s r).table = settleRecord (reselected s.bank) s.table r := by
  unfold reselectOne settleRecord reselected
  simp only
  by_cases h : (selectRecord s.bank.selection r.platform r.opClass).1 = 0#4
  · rw [if_pos (by simpa using h), if_pos h]
    exact touches_leaveSelection _ _ .table (by decide)
  · rw [if_neg (by simpa using h), if_neg h]
    rfl

/-- R23: a re-selection takes the records under the active selection table one by one. -/
theorem table_reselectAll (s : State) (h : s.table.Pairwise fun a b => a.key ≠ b.key) :
    (reselectAll s).table = s.table.filterMap (reselected s.bank) := by
  have fold (l : List ServiceRecord) (u : State) (hbank : u.bank = s.bank) :
      (l.foldl reselectOne u).table = l.foldl (settleRecord (reselected s.bank)) u.table := by
    induction l generalizing u with
    | nil => rfl
    | cons r l ih =>
      rw [List.foldl_cons, ih _ ((bank_of_touches (touches_reselectOne u r) (by decide)).trans hbank), table_reselectOne, hbank]
      rfl
  rw [reselectAll, fold s.table s rfl, foldl_settleRecord_self (fun r q => reselected_key) s.table h]

/-! ### One record put back where it stands -/

theorem replaceRecord_eq_map {t : List ServiceRecord} (ht : t.Pairwise fun a b => a.key ≠ b.key) {r : ServiceRecord}
    (hr : r ∈ t) {f : ServiceRecord → ServiceRecord} (hkey : (f r).key = r.key) :
    replaceRecord (f r) t = t.map fun x => if x.key = r.key then f x else x := by
  refine List.map_congr_left fun x hx => ?_
  by_cases hxr : x.key = r.key
  · simp [eq_of_key_eq ht hx hr hxr, hkey]
  · simp [hxr, hkey]

theorem mem_of_findRecord {s : State} {key : Nat} {r : ServiceRecord} (h : s.findRecord key = some r) :
    r ∈ s.table ∧ r.key = key :=
  ⟨List.mem_of_find?_eq_some h, by simpa using List.find?_some h⟩

theorem table_afterApply_none (ev : WatchEvent) {key : Nat} {s : State} (h : s.findRecord key = none) :
    (afterApply ev key s).table = s.table := by
  simp only [afterApply, h]

/-- R18: what follows a post or amend leaves the record decided anew in its place. -/
theorem table_afterApply_some (ev : WatchEvent) {key : Nat} {s : State} {r : ServiceRecord} (h : s.findRecord key = some r) :
    (afterApply ev key s).table = replaceRecord (decideRules s.bank s.time.second r) s.table := by
  simp only [afterApply, h]
  split
  next => exact table_fullEvaluation r s
  next => exact (touches_watchReport _ _ _ .table (by decide)).trans (table_fullEvaluation r s)

/-! ### The invariant of the table -/

/-- R1: a list of records that stands as a table under a bank. -/
structure TableOk (b : Bank) (t : List ServiceRecord) : Prop where
  size : t.length ≤ 96
  sorted : t.Pairwise fun x y => before x y = true
  keys : t.Pairwise fun x y => x.key ≠ y.key
  records : ∀ r ∈ t, r.ok b

theorem tableOk_iff (s : State) : s.tableOk ↔ TableOk s.bank s.table :=
  ⟨fun h => ⟨h.size, h.sorted, h.keys, h.records⟩, fun h => ⟨h.size, h.sorted, h.keys, h.records⟩⟩

theorem tableOk_nil (b : Bank) : TableOk b [] := ⟨Nat.zero_le _, .nil, .nil, nofun⟩

theorem TableOk.sublist {b : Bank} {t u : List ServiceRecord} (h : TableOk b t) (hsub : u.Sublist t) : TableOk b u :=
  ⟨hsub.length_le.trans h.size, h.sorted.sublist hsub, h.keys.sublist hsub, fun r hr => h.records r (hsub.subset hr)⟩

theorem TableOk.removeKey {b : Bank} {t : List ServiceRecord} (h : TableOk b t) (key : Nat) :
    TableOk b (removeKey key t) := h.sublist List.filter_sublist

/-- A change that moves the scheduled and the expected minute of every record alike, and no key, keeps the order. -/
structure KeepsOrder (d : Int) (f : ServiceRecord → ServiceRecord) : Prop where
  key : ∀ r, (f r).key = r.key
  sm : ∀ r, (f r).sm = r.sm + d
  expected : ∀ r, expectedMinute (f r) = expectedMinute r + d

theorem KeepsOrder.before {d : Int} {f : ServiceRecord → ServiceRecord} (h : KeepsOrder d f) {x y : ServiceRecord}
    (hxy : before x y = true) : before (f x) (f y) = true := by
  rw [before_iff] at *
  simp only [sortKey, h.key, h.sm, h.expected] at *
  omega

/-- A change of every record that keeps the order and each record's soundness keeps the table, here also for a part of the
table and from one bank to another. -/
theorem TableOk.filterMap {b c : Bank} {t : List ServiceRecord} (h : TableOk b t) {g : ServiceRecord → Option ServiceRecord}
    (horder : ∀ x y x' y', g x = some x' → g y = some y' → before x y = true → before x' y' = true)
    (hkey : ∀ x x', g x = some x' → x'.key = x.key) (hok : ∀ x x', g x = some x' → x.ok b → x'.ok c) :
    TableOk c (t.filterMap g) where
  size := (List.length_filterMap_le g t).trans h.size
  sorted := List.Pairwise.filterMap g (fun x y hxy x' hx y' hy => horder x y x' y' hx hy hxy) h.sorted
  keys := List.Pairwise.filterMap g
    (fun x y hxy x' hx y' hy hsame => hxy ((hkey x x' hx).symm.trans (hsame.trans (hkey y y' hy)))) h.keys
  records := fun r hr => by
    obtain ⟨x, hx, hg⟩ := List.mem_filterMap.mp hr
    exact hok x r hg (h.records x hx)

theorem TableOk.map {b : Bank} {t : List ServiceRecord} (h : TableOk b t) {d : Int} {f : ServiceRecord → ServiceRecord}
    (hf : KeepsOrder d f) (hok : ∀ r ∈ t, r.ok b → (f r).ok b) : TableOk b (t.map f) where
  size := by simpa using h.size
  sorted := h.sorted.map f fun _ _ hxy => hf.before hxy
  keys := h.keys.map f fun x y hxy => by rwa [hf.key, hf.key]
  records := fun r hr => by
    obtain ⟨x, hx, rfl⟩ := List.mem_map.mp hr
    exact hok x hx (h.records x hx)

theorem TableOk.insert {b : Bank} {t : List ServiceRecord} (h : TableOk b t) {r : ServiceRecord} (hr : r.ok b)
    (hnew : ∀ x ∈ t, x.key ≠ r.key) (hsize : t.length < 96) : TableOk b (insertRecord r t) where
  size := by rw [length_insertRecord]; exact hsize
  sorted := insertRecord_sorted r t h.sorted hnew
  keys := by
    have hperm : (insertRecord r t).Perm (r :: t) := by
      unfold insertRecord
      exact List.perm_middle.trans (by rw [List.takeWhile_append_dropWhile])
    refine (hperm.pairwise_iff fun hxy => hxy.symm).mpr (List.pairwise_cons.mpr ⟨fun x hx => (hnew x hx).symm, h.keys⟩)
  records := fun x hx => by
    rcases (mem_insertRecord r x t).mp hx with rfl | hx
    · exact hr
    · exact h.records x hx

/-! ### Sound records -/

/-- R48: a decision of the rules touches neither key, times, platform nor selection of a record. -/
theorem ok_decideRules {b c : Bank} {sec : Nat} {r : ServiceRecord} (h : r.ok b) : (decideRules c sec r).ok b :=
  { h with }

theorem keepsOrder_decideRules (b : Bank) (sec : Nat) : KeepsOrder 0 (decideRules b sec) :=
  ⟨fun _ => rfl, fun _ => (Int.add_zero _).symm, fun _ => (Int.add_zero _).symm⟩

theorem ok_clearRecordAttention {b : Bank} {r : ServiceRecord} (h : r.ok b) : (clearRecordAttention r).ok b :=
  { h with attention := Nat.zero_le _, previous := by simp [clearRecordAttention], changed := nofun }

theorem keepsOrder_clearRecordAttention : KeepsOrder 0 clearRecordAttention :=
  ⟨fun _ => rfl, fun _ => (Int.add_zero _).symm, fun _ => (Int.add_zero _).symm⟩

theorem keepsOrder_id : KeepsOrder 0 id :=
  ⟨fun _ => rfl, fun _ => (Int.add_zero _).symm, fun _ => (Int.add_zero _).symm⟩

theorem KeepsOrder.ite {d : Int} {f g : ServiceRecord → ServiceRecord} (hf : KeepsOrder d f) (hg : KeepsOrder d g)
    (p : ServiceRecord → Prop) [DecidablePred p] : KeepsOrder d fun r => if p r then f r else g r := by
  refine ⟨fun r => ?_, fun r => ?_, fun r => ?_⟩
  all_goals
    by_cases h : p r
    · simp only [h, if_true, hf.key, hf.sm, hf.expected]
    · simp only [h, if_false, hg.key, hg.sm, hg.expected]

theorem ok_lowerAttention {b : Bank} {r : ServiceRecord} (h : r.ok b) : (lowerAttention r).ok b := by
  unfold lowerAttention
  split_ifs with hzero hone
  · exact h
  · exact ok_clearRecordAttention h
  · have hprev := h.previous
    have hatt := h.attention
    exact { h with
      attention := by change r.attention - 1 ≤ 600; omega
      previous := by change r.previous.isSome = true ↔ 0 < r.attention - 1; rw [hprev]; omega }

theorem keepsOrder_lowerAttention : KeepsOrder 0 lowerAttention := by
  refine ⟨fun r => ?_, fun r => ?_, fun r => ?_⟩
  all_goals
    unfold lowerAttention
    split_ifs <;> simp [expectedMinute]

theorem keepsOrder_lowerRecord : KeepsOrder (-1440) lowerRecord := by
  refine ⟨fun _ => rfl, fun _ => rfl, fun r => ?_⟩
  unfold expectedMinute lowerRecord
  split_ifs
  · rfl
  · cases r.delay with
    | none => rfl
    | some d => simp only; omega

/-- R22: a record of the day itself, lowered by a day, stays within the table's range. -/
theorem ok_lowerRecord {b : Bank} {r : ServiceRecord} (h : r.ok b) (hsm : 0 ≤ r.sm) : (lowerRecord r).ok b := by
  have hhigh := h.smHigh
  exact { h with
    smLow := by change -1440 ≤ r.sm - 1440; omega
    smHigh := by change r.sm - 1440 ≤ 2879; omega }

theorem table_turnTable (s : State) :
    (turnTable s).table = (s.table.filter fun r => !decide (r.sm < 0)).map lowerRecord := by
  unfold turnTable
  simp only [State.setTable_table, retireWhere_table]

theorem TableOk.turn {b : Bank} {t : List ServiceRecord} (h : TableOk b t) :
    TableOk b ((t.filter fun r => !decide (r.sm < 0)).map lowerRecord) := by
  refine (h.sublist List.filter_sublist).map keepsOrder_lowerRecord fun r hr hok => ok_lowerRecord hok ?_
  have hsm := List.of_mem_filter hr
  simpa using hsm

theorem TableOk.evaluate {b c : Bank} {t : List ServiceRecord} (h : TableOk b t) (sec : Nat) :
    TableOk b (t.map (decideRules c sec)) :=
  h.map (keepsOrder_decideRules c sec) fun _ _ hok => ok_decideRules hok

/-- R23: a record that a selection table keeps is sound under it. -/
theorem ok_reselected {b c : Bank} {r q : ServiceRecord} (h : reselected c r = some q) (hok : r.ok b) : q.ok c := by
  unfold reselected at h
  split at h
  next => cases h
  next hsel =>
    cases h
    exact { hok with boards := hsel, selected := rfl }

theorem TableOk.reselect {b : Bank} {t : List ServiceRecord} (h : TableOk b t) (c : Bank) :
    TableOk c (t.filterMap (reselected c)) := by
  refine h.filterMap (fun x y x' y' hx hy hxy => ?_) (fun x x' => reselected_key) fun x x' => ok_reselected
  have same {r q : ServiceRecord} (hq : reselected c r = some q) :
      q.key = r.key ∧ q.sm = r.sm ∧ expectedMinute q = expectedMinute r := by
    unfold reselected at hq
    split at hq
    next => cases hq
    next => cases hq; exact ⟨rfl, rfl, rfl⟩
  obtain ⟨hkx, hsx, hex⟩ := same hx
  obtain ⟨hky, hsy, hey⟩ := same hy
  rw [before_iff] at *
  simp only [sortKey, hkx, hsx, hex, hky, hsy, hey] at *
  exact hxy

/-- A record decided anew where it stands keeps the table. -/
theorem TableOk.replaceDecided {b c : Bank} {t : List ServiceRecord} (h : TableOk b t) {r : ServiceRecord} (hr : r ∈ t)
    (sec : Nat) : TableOk b (replaceRecord (decideRules c sec r) t) := by
  rw [replaceRecord_eq_map h.keys hr rfl]
  refine h.map (d := 0) ((keepsOrder_decideRules c sec).ite keepsOrder_id fun x => x.key = r.key) fun x _ hok => ?_
  by_cases hx : x.key = r.key
  · simp only [hx, if_true]
    exact ok_decideRules hok
  · simp only [hx, if_false]
    exact hok

/-! ### Posts and amends (R7 to R16) -/

theorem clampDelay_range {d : Option Int} {x : Int} (h : clampDelay d = some x) : -15 ≤ x ∧ x ≤ 999 := by
  cases d with
  | none => cases h
  | some y =>
    simp only [clampDelay, Option.map_some, Option.some.injEq] at h
    omega

theorem normPlatform_range {p q : Nat} (h : normPlatform p = some q) : 1 ≤ q ∧ q ≤ 64 := by
  unfold normPlatform at h
  split at h
  next hp => cases h; exact hp
  next => cases h

/-- What a SERVICE POST that is not refused brings (R7). -/
theorem postBad_eq_false {b : PostBody} (h : postBad b = false) :
    b.key ≠ 0 ∧ -1440 ≤ b.sm ∧ b.sm ≤ 2879 ∧ b.vias.length ≤ 3 ∧ b.destination ≤ 1023 ∧ (∀ v ∈ b.vias, v ≤ 1023) ∧
      b.opClass ≤ 15 := by
  simpa [postBad, and_assoc] using h

theorem ok_postRecord {c : Bank} {b : PostBody} (hb : postBad b = false)
    (hsel : (selectRecord c.selection (normPlatform b.platform) b.opClass).1 ≠ 0#4) :
    (postRecord b (selectRecord c.selection (normPlatform b.platform) b.opClass)).ok c := by
  obtain ⟨hkey, hlow, hhigh, hvias, hdest, hphrases, hclass⟩ := postBad_eq_false hb
  exact ⟨hkey, hlow, hhigh, fun d => clampDelay_range, fun p => normPlatform_range, Nat.zero_le _, hdest, hvias, hphrases,
    hclass, hsel, rfl, by simp [postRecord], nofun⟩

/-- What R2 and R20 say of the fields of a record, its selection aside. -/
structure FieldsOk (r : ServiceRecord) : Prop where
  key : r.key ≠ 0
  smLow : -1440 ≤ r.sm
  smHigh : r.sm ≤ 2879
  delay : ∀ d, r.delay = some d → -15 ≤ d ∧ d ≤ 999
  platform : ∀ p, r.platform = some p → 1 ≤ p ∧ p ≤ 64
  attention : r.attention ≤ 600
  destination : r.destination ≤ 1023
  vias : r.vias.length ≤ 3
  viaPhrases : ∀ v ∈ r.vias, v ≤ 1023
  opClass : r.opClass ≤ 15
  previous : r.previous.isSome = true ↔ 0 < r.attention
  changed : ∀ q, r.previous = some q → ∃ p, r.platform = some p ∧ p ≠ q

theorem fieldsOk_of_ok {b : Bank} {r : ServiceRecord} (h : r.ok b) : FieldsOk r := { h with }

/-- R5: sound fields and the mask and enable of the selection table make a sound record. -/
theorem FieldsOk.ok {b : Bank} {r : ServiceRecord} (h : FieldsOk r) {sel : BitVec 4 × Bool}
    (hsel : sel = selectRecord b.selection r.platform r.opClass) (hne : sel.1 ≠ 0#4) :
    ({ r with boards := sel.1, cueEnabled := sel.2 } : ServiceRecord).ok b :=
  { h with boards := hne, selected := hsel }

/-- R14 to R16: a platform applied keeps the fields sound. -/
theorem fieldsOk_applyPlatform {period : Nat} (hperiod : period ≤ 600) {p : Option Nat}
    (hp : ∀ q, p = some q → 1 ≤ q ∧ q ≤ 64) {r : ServiceRecord} (h : FieldsOk r) :
    FieldsOk (applyPlatform period p r).1 := by
  unfold applyPlatform
  split
  next old new hold =>
    split
    next => exact h
    next hsame =>
      split
      next => exact { h with attention := Nat.zero_le _, previous := by simp, changed := nofun, platform := hp }
      next =>
        refine { h with attention := hperiod, platform := hp, previous := ?_, changed := fun q hq => ⟨new, rfl, ?_⟩ }
        · by_cases hpos : 0 < period <;> simp [hpos]
        · obtain ⟨-, hq⟩ : 0 < period ∧ some old = some q := by simpa using hq
          exact Option.some.inj hq ▸ Ne.symm hsame
  next => exact { h with attention := Nat.zero_le _, previous := by simp, changed := nofun, platform := nofun }
  next new hnone =>
    refine { h with platform := hp, changed := fun q hq => ?_ }
    obtain ⟨p, hsome, -⟩ := h.changed q hq
    exact absurd (hnone.symm.trans hsome) (by simp)
  next => exact h

theorem applyPlatform_platform (period : Nat) (p : Option Nat) (r : ServiceRecord) :
    (applyPlatform period p r).1.platform = p := by
  unfold applyPlatform
  split
  next old new hold => split_ifs with hsame <;> simp [hold, hsame]
  next => rfl
  next => rfl
  next hnone => exact hnone

/-- A platform applied leaves key, class, mask and enable. -/
theorem applyPlatform_rest (period : Nat) (p : Option Nat) (r : ServiceRecord) :
    (applyPlatform period p r).1.key = r.key ∧ (applyPlatform period p r).1.opClass = r.opClass ∧
      (applyPlatform period p r).1.boards = r.boards ∧ (applyPlatform period p r).1.cueEnabled = r.cueEnabled := by
  unfold applyPlatform
  split
  · split_ifs <;> exact ⟨rfl, rfl, rfl, rfl⟩
  all_goals exact ⟨rfl, rfl, rfl, rfl⟩

section
variable (period : Nat) (delay : Option (Option Int)) (platform : Option (Option Nat)) (cancelled boarding : Option Bool)
  (r : ServiceRecord)

theorem applyFields_platform :
    (applyFields period delay platform cancelled boarding r).record.platform = platform.getD r.platform := by
  unfold applyFields
  cases platform with
  | none => rfl
  | some p => exact applyPlatform_platform period p _

theorem applyFields_rest :
    (applyFields period delay platform cancelled boarding r).record.key = r.key ∧
      (applyFields period delay platform cancelled boarding r).record.opClass = r.opClass ∧
      (applyFields period delay platform cancelled boarding r).record.boards = r.boards ∧
      (applyFields period delay platform cancelled boarding r).record.cueEnabled = r.cueEnabled := by
  unfold applyFields
  cases platform with
  | none => exact ⟨rfl, rfl, rfl, rfl⟩
  | some p => exact applyPlatform_rest period p _

/-- The platform counts as changed when one is present that is not the stored one. -/
theorem applyFields_platformChanged :
    (applyFields period delay platform cancelled boarding r).platformChanged = false →
      platform.getD r.platform = r.platform := by
  unfold applyFields
  cases platform with
  | none => exact fun _ => rfl
  | some p => exact fun h => (not_not.mp (of_decide_eq_false h)).symm

end

/-- R12, R13: present fields within their ranges keep the fields sound. -/
theorem fieldsOk_applyFields {period : Nat} (hperiod : period ≤ 600) {delay : Option (Option Int)}
    (hdelay : ∀ d x, delay = some d → d = some x → -15 ≤ x ∧ x ≤ 999) {platform : Option (Option Nat)}
    (hp : ∀ p q, platform = some p → p = some q → 1 ≤ q ∧ q ≤ 64) (cancelled boarding : Option Bool) {r : ServiceRecord}
    (h : FieldsOk r) : FieldsOk (applyFields period delay platform cancelled boarding r).record := by
  have hothers : FieldsOk { r with delay := delay.getD r.delay, cancelled := cancelled.getD r.cancelled
                                   boarding := boarding.getD r.boarding } := by
    refine { h with delay := fun x hx => ?_ }
    cases delay with
    | none => exact h.delay x hx
    | some d => exact hdelay d x rfl hx
  unfold applyFields
  cases platform with
  | none => exact hothers
  | some p => exact fieldsOk_applyPlatform hperiod (fun q => hp p q rfl) hothers

/-- R9: a post of a held key leaves a record of sound fields. -/
theorem fieldsOk_postChange {period : Nat} (hperiod : period ≤ 600) {c : Bank} {b : PostBody} (hb : postBad b = false)
    {old : ServiceRecord} (hold : old.ok c) :
    FieldsOk (applyFields period (some (clampDelay b.delay)) (some (normPlatform b.platform)) (some b.cancelled)
      (some b.boarding)
      { old with sm := b.sm, destination := b.destination, vias := b.vias, opClass := b.opClass }).record := by
  obtain ⟨hkey, hlow, hhigh, hvias, hdest, hphrases, hclass⟩ := postBad_eq_false hb
  refine fieldsOk_applyFields hperiod (fun d x hd hx => ?_) (fun p q hp hq => ?_) _ _
    { fieldsOk_of_ok hold with
      smLow := hlow, smHigh := hhigh, destination := hdest, vias := hvias, viaPhrases := hphrases, opClass := hclass }
  · cases hd
    exact clampDelay_range hx
  · cases hp
    exact normPlatform_range hq

/-- R12: an amend leaves a record of sound fields. -/
theorem fieldsOk_amendChange {period : Nat} (hperiod : period ≤ 600) {c : Bank} (b : AmendBody) {old : ServiceRecord}
    (hold : old.ok c) : FieldsOk (amendChange period b old).record := by
  refine fieldsOk_applyFields hperiod (fun d x hd hx => ?_) (fun p q hp hq => ?_) _ _ (fieldsOk_of_ok hold)
  · obtain ⟨e, -, rfl⟩ := Option.map_eq_some_iff.mp hd
    exact clampDelay_range hx
  · obtain ⟨e, -, rfl⟩ := Option.map_eq_some_iff.mp hp
    exact normPlatform_range hq

theorem TableOk.afterApply {b : Bank} {s : State} (h : TableOk b s.table) (ev : WatchEvent) (key : Nat) :
    TableOk b (afterApply ev key s).table := by
  cases hr : s.findRecord key with
  | none => rw [table_afterApply_none ev hr]; exact h
  | some r => rw [table_afterApply_some ev hr]; exact h.replaceDecided (mem_of_findRecord hr).1 _

/-- R9, R14: a record changed goes into its new place, or leaves. -/
theorem TableOk.settleChange {b : Bank} {s : State} (h : TableOk b s.table) {ch : FieldChange}
    (hheld : ∃ r ∈ s.table, r.key = ch.record.key)
    (ev : WatchEvent) (e : Bool) {sel : BitVec 4 × Bool}
    (hsel : sel.1 ≠ 0#4 → ({ ch.record with boards := sel.1, cueEnabled := sel.2 } : ServiceRecord).ok b) :
    TableOk b (settleChange ev e ch sel s).table := by
  have hremoved := h.removeKey ch.record.key
  have hasked (t : List ServiceRecord) : (builtInRequests e ch (s.setTable t)).table = t :=
    touches_builtInRequests _ e ch .table (by decide)
  unfold Machine.settleChange
  split
  next =>
    have hleft := touches_leaveSelection
      (builtInRequests e ch (s.setTable (Machine.removeKey ch.record.key s.table))) ch.record .table (by decide)
    rw [show (leaveSelection _ _).table = _ from hleft.trans (hasked _)]
    exact hremoved
  next hne =>
    refine TableOk.afterApply ?_ ev _
    rw [hasked]
    refine hremoved.insert (hsel (by simpa using hne)) (fun x hx => ?_) ?_
    · simpa using List.of_mem_filter hx
    · obtain ⟨r, hr, hrkey⟩ := hheld
      refine lt_of_lt_of_le (List.length_filter_lt_length_iff_exists.mpr ⟨r, hr, by simp [hrkey]⟩) h.size

theorem TableOk.createRecord {b : Bank} {s : State} (h : TableOk b s.table) {r : ServiceRecord} (hr : r.ok b)
    (hnew : ∀ x ∈ s.table, x.key ≠ r.key) (hsize : s.table.length < 96) : TableOk b (createRecord r s).table :=
  TableOk.afterApply (s := s.setTable (insertRecord r s.table)) (h.insert hr hnew hsize) _ _

theorem table_evictRecord (r : ServiceRecord) (s : State) : (evictRecord r s).table = removeKey r.key s.table :=
  (((touches_queueReport _ _).mono (cs := [.cues, .node]) (by decide)).trans ((touches_dropKey _ _ _).trans
    ((touches_watchReport _ _ _).mono (by decide)))) .table (by decide)

theorem TableOk.postNew {b : Bank} {s : State} (h : TableOk b s.table) {r : ServiceRecord} (hr : r.ok b)
    (hnew : ∀ x ∈ s.table, x.key ≠ r.key) : TableOk b (postNew r s).table := by
  unfold Machine.postNew
  split
  next hroom => exact h.createRecord hr hnew hroom
  next hfull =>
    split
    next hlast =>
      have hnil : s.table = [] := List.getLast?_eq_none_iff.mp hlast
      exact h.createRecord hr hnew (by simp [hnil])
    next last hlast =>
      have hmem : last ∈ s.table := List.mem_of_getLast? hlast
      split
      next =>
        have hevicted : TableOk b (evictRecord last s).table := by
          rw [table_evictRecord]
          exact h.removeKey _
        refine hevicted.createRecord hr (fun x hx => ?_) ?_
        · rw [table_evictRecord] at hx
          exact hnew x (List.mem_of_mem_filter hx)
        · rw [table_evictRecord]
          exact lt_of_lt_of_le (List.length_filter_lt_length_iff_exists.mpr ⟨last, hmem, by simp⟩) h.size
      next => exact (touches_queueReport s _ .table (by decide) : _ = s.table) ▸ h

/-! ### Every operation -/

theorem attentionPeriod_le {s : State} (h : s.storeOk) : s.bank.params.attentionPeriod ≤ 600 := by
  have hparams := params_ok_of_valid h.valid
  simp only [NodeParams.ok, Bool.and_eq_true, decide_eq_true_eq] at hparams
  change s.store.active.params.attentionPeriod ≤ 600
  omega

theorem tableOk_of_same {s t : State} (htable : t.table = s.table) (hstore : t.store = s.store) (hs : s.tableOk) :
    t.tableOk := by
  have hbank : t.bank = s.bank := congrArg Store.active hstore
  rw [tableOk_iff] at *
  rwa [htable, hbank]

theorem tableOk_of_touches {bs : List Block} {s t : State} (h : Touches bs s t) (hs : s.tableOk)
    (hbs : bs.contains .table = false ∧ bs.contains .store = false) : t.tableOk :=
  tableOk_of_same (h .table (by simpa using hbs.1)) (h .store (by simpa using hbs.2)) hs

/-- What an operation leaves as table stands under the bank it leaves alone. -/
theorem tableOk_of_table {bs : List Block} {s t : State} (h : Touches bs s t) (ht : TableOk s.bank t.table)
    (hbs : bs.contains .store = false) : t.tableOk := by
  rw [tableOk_iff, bank_of_touches h hbs]
  exact ht

theorem tableOk_servicePost (mode : AddrMode) (b : PostBody) {s : State} (hstore : s.storeOk) (hs : s.tableOk) :
    (servicePost mode b s).tableOk := by
  have ht := (tableOk_iff s).mp hs
  refine tableOk_of_table (touches_servicePost s mode b) ?_ (by decide)
  unfold servicePost
  split
  next =>
    split
    next => exact (touches_reportIfPosition s _ _ .table (by decide) : _ = s.table) ▸ ht
    next hbad =>
      have hbad : postBad b = false := Bool.eq_false_iff.mpr hbad
      simp only
      split
      next hnone =>
        split
        next => exact ht
        next hsel =>
          refine ht.postNew (ok_postRecord hbad (by simpa using hsel)) fun x hx hxkey => ?_
          have habsent := List.find?_eq_none.mp hnone x hx
          exact habsent (beq_iff_eq.mpr hxkey)
      next old hold =>
        obtain ⟨hmem, holdkey⟩ := mem_of_findRecord hold
        have hokold := ht.records old hmem
        split
        next =>
          have hleft := touches_leaveSelection (s.setTable (removeKey b.key s.table)) old .table (by decide)
          exact (hleft :) ▸ ht.removeKey b.key
        next hsel =>
          have hchange := fieldsOk_postChange (attentionPeriod_le hstore) hbad hokold
          obtain ⟨hreckey, hrecclass, -, -⟩ := applyFields_rest s.bank.params.attentionPeriod (some (clampDelay b.delay))
            (some (normPlatform b.platform)) (some b.cancelled) (some b.boarding)
            { old with sm := b.sm, destination := b.destination, vias := b.vias, opClass := b.opClass }
          refine ht.settleChange ⟨old, hmem, hreckey.symm⟩ _ _ fun hne => hchange.ok ?_ hne
          rw [applyFields_platform, hrecclass]
          rfl
  next => exact ht

theorem tableOk_serviceAmend (mode : AddrMode) (b : AmendBody) {s : State} (hstore : s.storeOk) (hs : s.tableOk) :
    (serviceAmend mode b s).tableOk := by
  have ht := (tableOk_iff s).mp hs
  refine tableOk_of_table (touches_serviceAmend s mode b) ?_ (by decide)
  unfold serviceAmend
  split
  next =>
    split
    next => exact (touches_reportIfPosition s _ _ .table (by decide) : _ = s.table) ▸ ht
    next old hold =>
      obtain ⟨hmem, -⟩ := mem_of_findRecord hold
      have hokold := ht.records old hmem
      have hchange := fieldsOk_amendChange (attentionPeriod_le hstore) b hokold
      obtain ⟨hkey, hclass, hboards, henabled⟩ := applyFields_rest s.bank.params.attentionPeriod (b.delay.map clampDelay)
        (b.platform.map normPlatform) b.cancelled b.boarding old
      refine ht.settleChange ⟨old, hmem, hkey.symm⟩ _ _ fun hne => hchange.ok ?_ hne
      unfold amendSelection
      split
      next => rfl
      next hsame =>
        have hplatform := applyFields_platformChanged _ _ _ _ _ _ (Bool.eq_false_iff.mpr hsame)
        rw [amendChange, hboards, henabled, applyFields_platform, hclass, hplatform]
        exact hokold.selected
  next => exact ht

theorem tableOk_serviceWithdraw (mode : AddrMode) (key : Nat) {s : State} (hs : s.tableOk) :
    (serviceWithdraw mode key s).tableOk := by
  have ht := (tableOk_iff s).mp hs
  refine tableOk_of_table (touches_serviceWithdraw s mode key) ?_ (by decide)
  unfold serviceWithdraw
  split
  next =>
    split
    next => exact (touches_reportIfPosition s _ _ .table (by decide) : _ = s.table) ▸ ht
    next r _ =>
      have hleft : (watchReport .withdrawn r (dropKey key .withdrawn (s.setTable (removeKey key s.table)))).table =
          removeKey key s.table :=
        ((touches_dropKey _ _ _).trans ((touches_watchReport _ _ _).mono (by decide))) .table (by decide)
      rw [hleft]
      exact ht.removeKey key
  next => exact ht

theorem tableOk_retireWhere (p : ServiceRecord → Bool) {s : State} (hs : s.tableOk) : (retireWhere p s).tableOk := by
  refine tableOk_of_table (touches_retireWhere s p) ?_ (by decide)
  rw [retireWhere_table]
  exact ((tableOk_iff s).mp hs).sublist List.filter_sublist

theorem tableOk_turnTable {s : State} (hs : s.tableOk) : (turnTable s).tableOk := by
  refine tableOk_of_table (touches_turnTable s) ?_ (by decide)
  rw [table_turnTable]
  exact ((tableOk_iff s).mp hs).turn

theorem tableOk_tickAttention {s : State} (hs : s.tableOk) : (tickAttention s).tableOk :=
  tableOk_of_table (touches_tickAttention s)
    (((tableOk_iff s).mp hs).map keepsOrder_lowerAttention fun _ _ => ok_lowerAttention) (by decide)

theorem tableOk_evaluateAll {s : State} (hs : s.tableOk) : (evaluateAll s).tableOk := by
  refine tableOk_of_table (touches_evaluateAll s) ?_ (by decide)
  rw [table_evaluateAll s hs.keys]
  exact ((tableOk_iff s).mp hs).evaluate _

/-- The attention of the records of a key cleared, under a condition. -/
theorem tableOk_clear (p : ServiceRecord → Bool) {s : State} (hs : s.tableOk) :
    (s.setTable (s.table.map fun r => if p r then clearRecordAttention r else r)).tableOk := by
  refine tableOk_of_table (touches_setTable s _) (((tableOk_iff s).mp hs).map (d := 0)
    (keepsOrder_clearRecordAttention.ite keepsOrder_id fun r => p r = true) fun r _ hok => ?_) (by decide)
  split
  next => exact ok_clearRecordAttention hok
  next => exact hok

theorem tableOk_of_empty {s : State} (h : s.table = []) : s.tableOk := by
  rw [tableOk_iff, h]
  exact tableOk_nil _

theorem tableOk_takeMark (held : Option Nat) (day sec : Nat) {s : State} (hs : s.tableOk) :
    (takeMark held day sec s).tableOk := by
  have hset : (setClock day sec s).tableOk := tableOk_of_touches (touches_setClock s day sec) hs (by decide)
  have hforward (cls : StepClass) : (forwardStep cls day sec s).tableOk := by
    have hturn (c : Bool) : (if c = true then turnTable (queueReport (.clockStep cls (markStep s.time day sec)) s)
        else queueReport (.clockStep cls (markStep s.time day sec)) s).tableOk := by
      have hreport := tableOk_of_touches (touches_queueReport s (.clockStep cls (markStep s.time day sec))) hs (by decide)
      split
      next => exact tableOk_turnTable hreport
      next => exact hreport
    unfold forwardStep
    exact tableOk_evaluateAll (tableOk_retireWhere _ (tableOk_of_touches (touches_setClock _ _ _)
      (tableOk_of_touches (touches_schedulerStep _ _ _ _ _) (hturn _) (by decide)) (by decide)))
  unfold takeMark
  split_ifs
  · exact tableOk_of_touches (touches_completeJoining _ _) hset (by decide)
  · split
    next => exact hs
    next => exact tableOk_of_empty (flushNode_table _)
    next =>
      exact tableOk_evaluateAll (tableOk_of_touches (touches_clearHolds _) (tableOk_of_touches (touches_queueReport _ _) hset (by decide)) (by decide))
    next => exact hforward _
    next => exact hforward _
  · exact hs

/-- R168: a refused switch gives up the commit alone. -/
theorem tableOk_refuseSwitch (gen table index : Nat) {s : State} (hs : s.tableOk) : (refuseSwitch gen table index s).tableOk := by
  have hbank : (refuseSwitch gen table index s).bank = s.bank := by
    unfold refuseSwitch
    rw [queueReport_eq]
    rfl
  rw [tableOk_iff] at *
  rwa [hbank, show (refuseSwitch gen table index s).table = s.table from touches_refuseSwitch s gen table index .table (by decide)]

/-- R23: the table of a switch, under the bank it brings. -/
theorem tableOk_switchBank (held : Option Nat) (gen : Nat) {s : State} (hs : s.tableOk) : (switchBank held gen s).tableOk := by
  have ht := (tableOk_iff s).mp hs
  unfold switchBank
  split
  next => exact tableOk_refuseSwitch _ _ _ hs
  next =>
    rw [acceptSwitch_eq]
    refine tableOk_of_touches (touches_completeJoining _ _) ?_ (by decide)
    have hrest : Touches [.cues, .line, .time, .node] (rebaseline (reselectAll (exchangeBanks gen s))) (switchWorks gen s) :=
      (((touches_compareZones _).mono (by decide)).trans ((touches_setDayStart _ _).mono (by decide))).trans
        ((touches_queueReport _ _).mono (by decide))
    refine tableOk_of_touches hrest ?_ (by decide)
    have hbank : (rebaseline (reselectAll (exchangeBanks gen s))).bank = s.store.shadow :=
      (bank_of_touches (touches_rebaseline _) (by decide)).trans (bank_of_touches (touches_reselectAll (exchangeBanks gen s)) (by decide))
    have hkeys : (exchangeBanks gen s).table.Pairwise fun a b => a.key ≠ b.key := hs.keys
    rw [tableOk_iff, hbank]
    change TableOk _ ((reselectAll (exchangeBanks gen s)).table.map _)
    rw [table_reselectAll _ hkeys]
    exact (ht.reselect s.store.shadow).evaluate _

end Sys2Proof.Laws
end

section
/-! SUPPORT. The service table through every step (R1 to R5, R20 to R23). -/

namespace Sys2Proof.Laws

open Sys2Proof Sys2Proof.Machine

theorem tableOk_of_bank {s t : State} (htable : t.table = s.table) (hbank : t.bank = s.bank) (hs : s.tableOk) : t.tableOk := by
  rw [tableOk_iff] at *
  rwa [htable, hbank]

theorem tableOk_supersede {s : State} (hs : s.tableOk) : (supersede s).tableOk := by
  unfold supersede
  split
  next => exact hs
  next =>
    refine tableOk_of_touches (touches_queueReport _ _) ?_ (by decide)
    exact tableOk_of_bank (s := s) rfl rfl hs

theorem tableOk_flushNode (s : State) : (flushNode s).tableOk := tableOk_of_empty (flushNode_table s)

theorem tableOk_resetNode (cause : ResetCause) (s : State) : (resetNode cause s).tableOk := by
  rw [resetNode_eq]
  exact tableOk_of_empty rfl

theorem tableOk_breakReset {s : State} (hs : s.tableOk) : (breakReset s).tableOk := by
  unfold breakReset
  split
  next => exact tableOk_resetNode _ _
  next => exact hs

theorem tableOk_takePosition (hop : Nat) {s : State} (hs : s.tableOk) : (takePosition hop s).tableOk := by
  have move : (s.setChain { s.chain with hopCount := some hop, position := some (hop + 1) }).tableOk :=
    tableOk_of_touches (touches_setChain s _) hs (by decide)
  unfold takePosition
  simp only
  split_ifs
  · exact move
  · exact tableOk_flushNode _
  · exact tableOk_of_touches (touches_queueReport _ _) move (by decide)
  · exact move

theorem op_keeps_tableOk (o : Op) (s : State) (hstore : s.storeOk) (hs : s.tableOk) : (o.run s).tableOk := by
  have elsewhere {o : Op} (h : o.blocks.contains .table = false ∧ o.blocks.contains .store = false) : (o.run s).tableOk :=
    tableOk_of_touches (o.touches s) hs h
  cases o
  case powerOn => exact tableOk_of_empty rfl
  case mark held day sec => exact tableOk_takeMark held day sec hs
  case age dayTurn =>
    change (if dayTurn = true then Machine.turnTable (tickAttention s) else tickAttention s).tableOk
    split
    next => exact tableOk_turnTable (tableOk_tickAttention hs)
    next => exact tableOk_tickAttention hs
  case turnTable => exact tableOk_turnTable hs
  case retireWhere p => exact tableOk_retireWhere p hs
  case rules => exact tableOk_evaluateAll hs
  case attentionExpiry key => exact tableOk_clear (fun r => r.key == key && r.attention == 1) hs
  case clearAttention mode key =>
    change (Machine.clearAttention mode key s).tableOk
    unfold Machine.clearAttention
    split
    next =>
      split
      next => exact tableOk_of_touches (touches_reportIfPosition s _ _) hs (by decide)
      next => exact tableOk_clear (fun r => r.key == key) hs
    next => exact hs
  case post mode b => exact tableOk_servicePost mode b hstore hs
  case amend mode b => exact tableOk_serviceAmend mode b hstore hs
  case withdraw mode key => exact tableOk_serviceWithdraw mode key hs
  case hold =>
    change (holdTick s).tableOk
    unfold holdTick
    split
    next =>
      simp only
      split
      next => exact tableOk_flushNode _
      next => exact tableOk_of_touches (touches_setNode s _) hs (by decide)
    next => exact hs
  case holdLimit =>
    change (reachHoldoverLimit s).tableOk
    unfold reachHoldoverLimit
    split
    next => exact tableOk_flushNode _
    next => exact hs
  case commandReset =>
    change (commandReset s).tableOk
    unfold commandReset
    split
    next => exact tableOk_resetNode _ s
    next => exact hs
  case breakReset => exact tableOk_breakReset hs
  case breakTick =>
    change (breakTick s).tableOk
    unfold breakTick
    split_ifs
    · exact tableOk_breakReset hs
    · exact tableOk_of_touches (touches_setChain s _) hs (by decide)
    · exact hs
  case bankSwitch =>
    change (bankSwitch s).tableOk
    unfold bankSwitch
    split
    next => exact hs
    next =>
      split
      next => exact tableOk_switchBank _ _ hs
      next => exact hs
  case tableWrite mode table index entry =>
    change (tableWrite mode table index entry s).tableOk
    unfold tableWrite
    split_ifs
    · exact tableOk_of_touches (touches_queueReport s _) hs (by decide)
    · exact tableOk_of_touches (touches_reportIfPosition s _ _) hs (by decide)
    · exact tableOk_of_bank (s := s) rfl rfl hs
    · exact hs
  case tableCopy =>
    change (tableCopy s).tableOk
    unfold tableCopy
    split
    next => exact tableOk_of_bank (s := s) rfl rfl hs
    next => exact hs
  case tableCommit held mode gen cycle =>
    change (tableCommit held mode gen cycle s).tableOk
    have hsup := tableOk_supersede hs
    unfold tableCommit
    split_ifs
    · exact tableOk_of_touches (touches_reportIfPosition s _ _) hs (by decide)
    · exact tableOk_switchBank held gen hsup
    · exact tableOk_of_bank (s := supersede s) rfl rfl hsup
    · exact hs
  case position hop => exact tableOk_takePosition hop hs
  all_goals exact elsewhere ⟨rfl, rfl⟩

/-- Settles O6: every operation keeps the table sound, under a bank whose attention period is in range. -/
theorem stepKeepsServiceTable : Obligations.StepKeepsServiceTable := fun _ _ hstore hs hstep =>
  (step_keeps (P := fun u => u.storeOk ∧ u.tableOk)
    (fun s _ h => ⟨storeOk_of_store (s := s) rfl h.1, tableOk_of_same (s := s) rfl rfl h.2⟩)
    (fun o s _ h => ⟨op_keeps_storeOk o s h.1, op_keeps_tableOk o s h.1 h.2⟩) hstep ⟨hstore, hs⟩).2

end Sys2Proof.Laws
end

section
/-! SUPPORT. The cue queue (R108, R109): what keeps it sound, admission and coalescing, and the content of a cue built from
a template of a valid bank (R103 to R107). -/

namespace Sys2Proof.Laws

open Sys2Proof Sys2Proof.Machine

/-! ### Queues -/

/-- A list of cues that stands as a queue. -/
structure QueueOk (q : List Cue) : Prop where
  size : q.length ≤ 32
  ids : q.Pairwise fun a b => a.id < b.id
  apart : q.Pairwise fun a b => ¬ a.twins b
  sound : ∀ c ∈ q, c.ok

theorem cuesOk_iff (s : State) : s.cuesOk ↔ QueueOk s.cues.queue ∧ s.cues.nextId < 256 :=
  ⟨fun h => ⟨⟨h.size, h.ids, h.apart, h.sound⟩, h.nextId⟩, fun ⟨h, hn⟩ => ⟨h.size, h.ids, h.apart, h.sound, hn⟩⟩

theorem queueOk_nil : QueueOk [] := ⟨Nat.zero_le _, .nil, .nil, nofun⟩

theorem QueueOk.sublist {q p : List Cue} (h : QueueOk q) (hsub : p.Sublist q) : QueueOk p :=
  ⟨hsub.length_le.trans h.size, h.ids.sublist hsub, h.apart.sublist hsub, fun c hc => h.sound c (hsub.subset hc)⟩

/-- A change of cues that keeps id, key and template, and lets no cue wait that did not. -/
structure Steady (f : Cue → Cue) : Prop where
  id : ∀ c, (f c).id = c.id
  key : ∀ c, (f c).key = c.key
  template : ∀ c, (f c).template = c.template
  waits : ∀ c, (f c).waits = true → c.waits = true

theorem Steady.twins {f : Cue → Cue} (h : Steady f) {a b : Cue} (hab : (f a).twins (f b)) : a.twins b := by
  obtain ⟨hzero, hkey, htemplate, ha, hb⟩ := hab
  rw [h.key] at hzero
  rw [h.key, h.key] at hkey
  rw [h.template, h.template] at htemplate
  exact ⟨hzero, hkey, htemplate, h.waits a ha, h.waits b hb⟩

theorem QueueOk.map {q : List Cue} (h : QueueOk q) {f : Cue → Cue} (hf : Steady f) (hok : ∀ c ∈ q, c.ok → (f c).ok) :
    QueueOk (q.map f) where
  size := by simpa using h.size
  ids := h.ids.map f fun a b hab => by rwa [hf.id, hf.id]
  apart := h.apart.map f fun _ _ hab hnew => hab (hf.twins hnew)
  sound := fun c hc => by
    obtain ⟨d, hd, rfl⟩ := List.mem_map.mp hc
    exact hok d hd (h.sound d hd)

theorem Steady.at {f : Cue → Cue} (h : Steady f) (i : Nat) : Steady fun c => if c.id = i then f c else c := by
  refine ⟨fun c => ?_, fun c => ?_, fun c => ?_, fun c => ?_⟩
  all_goals split
  case refine_1.isTrue => exact h.id c
  case refine_2.isTrue => exact h.key c
  case refine_3.isTrue => exact h.template c
  case refine_4.isTrue => exact h.waits c
  case refine_4.isFalse => exact fun h => h
  all_goals rfl

/-- An id names one cue of a queue. -/
theorem eq_of_id_eq {q : List Cue} (h : QueueOk q) {a b : Cue} (ha : a ∈ q) (hb : b ∈ q) (hid : a.id = b.id) : a = b :=
  List.inj_on_of_nodup_map (f := Cue.id) (List.pairwise_map.mpr (h.ids.imp fun hlt => Nat.ne_of_lt hlt)) ha hb hid

theorem twins_symm {a b : Cue} (h : a.twins b) : b.twins a := by
  obtain ⟨hzero, hkey, htemplate, ha, hb⟩ := h
  exact ⟨hkey ▸ hzero, hkey.symm, htemplate.symm, hb, ha⟩

theorem not_twins_of_mem {q : List Cue} (h : QueueOk q) {a b : Cue} (ha : a ∈ q) (hb : b ∈ q) (hid : a.id ≠ b.id) :
    ¬ a.twins b := by
  have hsymm : Std.Symm fun x y : Cue => ¬ x.twins y := ⟨fun _ _ hxy hyx => hxy (twins_symm hyx)⟩
  exact h.apart.forall ha hb fun hab => hid (congrArg Cue.id hab)

/-- A list of sound cues in ascending id is a queue when no two of them are twins, in whichever order one looks at them. -/
theorem QueueOk.of_forall {q : List Cue} (hsize : q.length ≤ 32) (hids : q.Pairwise fun a b => a.id < b.id)
    (hapart : ∀ a ∈ q, ∀ b ∈ q, a.id ≠ b.id → ¬ a.twins b) (hsound : ∀ c ∈ q, c.ok) : QueueOk q :=
  ⟨hsize, hids, hids.imp_of_mem fun ha hb hlt => hapart _ ha _ hb (Nat.ne_of_lt hlt), hsound⟩

/-! ### A cue added (R109) -/

theorem insertCue_perm (c : Cue) (q : List Cue) : (insertCue c q).Perm (c :: q) := by
  unfold insertCue
  exact List.perm_middle.trans (by rw [List.takeWhile_append_dropWhile])

theorem mem_insertCue {c x : Cue} {q : List Cue} : x ∈ insertCue c q ↔ x = c ∨ x ∈ q :=
  (insertCue_perm c q).mem_iff.trans List.mem_cons

theorem insertCue_sorted {c : Cue} {q : List Cue} (h : q.Pairwise fun a b => a.id < b.id) (hnew : ∀ x ∈ q, x.id ≠ c.id) :
    (insertCue c q).Pairwise fun a b => a.id < b.id := by
  induction q with
  | nil => exact List.pairwise_singleton _ _
  | cons x q ih =>
    obtain ⟨hx, hq⟩ := List.pairwise_cons.mp h
    have hxc := hnew x List.mem_cons_self
    by_cases hlt : x.id < c.id
    · have hcons : insertCue c (x :: q) = x :: insertCue c q := by simp [insertCue, hlt]
      rw [hcons]
      refine List.pairwise_cons.mpr ⟨fun y hy => ?_, ih hq fun y hy => hnew y (List.mem_cons_of_mem x hy)⟩
      rcases mem_insertCue.mp hy with rfl | hy
      · exact hlt
      · exact hx y hy
    · have hcons : insertCue c (x :: q) = c :: x :: q := by simp [insertCue, hlt]
      rw [hcons]
      refine List.pairwise_cons.mpr ⟨fun y hy => ?_, h⟩
      rcases List.mem_cons.mp hy with rfl | hy
      · omega
      · have := hx y hy
        omega

/-- R109: with at most 32 cues held, the next cue takes an id that no cue of the queue has. -/
theorem nextCueId_fresh {s : State} (hsize : s.cues.queue.length ≤ 32) (hnext : s.cues.nextId < 256) :
    nextCueId s < 256 ∧ ∀ c ∈ s.cues.queue, c.id ≠ nextCueId s := by
  obtain ⟨k, hk, heq, hused, hfree⟩ := freeId_cases (s.cues.queue.map fun c => c.id) 33 s.cues.nextId hnext
  have hlt : k < 33 := by
    refine lt_of_le_of_ne hk fun h33 => ?_
    subst h33
    have hnodup : ((List.range 33).map fun j => (s.cues.nextId + j) % 256).Nodup := by
      refine List.Nodup.map_on (fun x hx y hy hxy => ?_) List.nodup_range
      rw [List.mem_range] at hx hy
      omega
    have hsub : (List.range 33).map (fun j => (s.cues.nextId + j) % 256) ⊆ s.cues.queue.map fun c => c.id := by
      intro i hi
      obtain ⟨j, hj, rfl⟩ := List.mem_map.mp hi
      exact hused j (List.mem_range.mp hj)
    have hlen := (hnodup.subperm hsub).length_le
    simp only [List.length_map, List.length_range] at hlen
    omega
  unfold nextCueId
  rw [heq]
  exact ⟨Nat.mod_lt _ (by decide), fun c hc hid => hfree hlt (hid ▸ List.mem_map_of_mem hc)⟩

/-- A cue of a new id that is no cue's twin joins a queue with room. -/
theorem QueueOk.insert {q : List Cue} (h : QueueOk q) {c : Cue} (hroom : q.length < 32) (hnew : ∀ x ∈ q, x.id ≠ c.id)
    (hc : c.ok) (hapart : ∀ x ∈ q, ¬ x.twins c) : QueueOk (insertCue c q) := by
  refine .of_forall ?_ (insertCue_sorted h.ids hnew) (fun a ha b hb hab => ?_) fun x hx => ?_
  · rw [(insertCue_perm c q).length_eq]
    exact hroom
  · rcases mem_insertCue.mp ha, mem_insertCue.mp hb with ⟨hac | haq, hbc | hbq⟩
    · exact absurd (congrArg Cue.id (hac.trans hbc.symm)) hab
    · exact hac ▸ fun htw => hapart b hbq (twins_symm htw)
    · exact hbc ▸ hapart a haq
    · exact not_twins_of_mem h haq hbq hab
  · rcases mem_insertCue.mp hx with rfl | hx
    · exact hc
    · exact h.sound x hx

/-! ### A cue returned (R112) -/

/-- A cue of a queue changed in any way that keeps its id, and made no other's twin, leaves a queue. -/
theorem QueueOk.change {q : List Cue} (h : QueueOk q) {i : Nat} {f : Cue → Cue} (hid : ∀ c, (f c).id = c.id)
    (hok : ∀ c ∈ q, c.id = i → (f c).ok) (hapart : ∀ c ∈ q, c.id = i → ∀ x ∈ q, x.id ≠ i → ¬ x.twins (f c)) :
    QueueOk (q.map fun c => if c.id = i then f c else c) := by
  have hkeep (c : Cue) : (if c.id = i then f c else c).id = c.id := by split <;> [exact hid c; rfl]
  refine .of_forall (by simpa using h.size) (h.ids.map _ fun a b hab => by rwa [hkeep, hkeep]) (fun a ha b hb hab => ?_)
    fun c hc => ?_
  · obtain ⟨x, hx, rfl⟩ := List.mem_map.mp ha
    obtain ⟨y, hy, rfl⟩ := List.mem_map.mp hb
    rw [hkeep, hkeep] at hab
    split <;> split
    next hxi hyi => exact absurd (hxi.trans hyi.symm) hab
    next hxi hyi => exact fun htw => hapart x hx hxi y hy hyi (twins_symm htw)
    next hxi hyi => exact hapart y hy hyi x hx hxi
    next => exact not_twins_of_mem h hx hy hab
  · obtain ⟨x, hx, rfl⟩ := List.mem_map.mp hc
    split
    next hxi => exact hok x hx hxi
    next => exact h.sound x hx

/-! ### The content of a cue (R103 to R107) -/

/-- R104: the phrases of a record a cue may take. -/
def PhrasesOk (r : ServiceRecord) : Prop := r.destination ≤ 1023 ∧ ∀ v ∈ r.vias, v ≤ 1023

theorem phrasesOk_of_ok {b : Bank} {r : ServiceRecord} (h : r.ok b) : PhrasesOk r := ⟨h.destination, h.viaPhrases⟩

theorem numberPhrase_le {base n p : Nat} (h : p ∈ numberPhrase base n) : p ≤ 1023 := by
  unfold numberPhrase at h
  split at h
  next hle => rw [List.mem_singleton.mp h]; exact hle
  next => cases h

theorem timePhrases_le {base civil p : Nat} (h : p ∈ timePhrases base civil) : p ≤ 1023 := by
  unfold timePhrases at h
  split at h
  next hle =>
    simp only [List.mem_cons, List.not_mem_nil, or_false] at h
    omega
  next => cases h

theorem elementPhrases_le {ds base : Nat} {r : Option ServiceRecord} (hr : ∀ x, r = some x → PhrasesOk x) {e : Element}
    (he : e.ok = true) {p : Nat} (h : p ∈ elementPhrases ds base r e) : p ≤ 1023 := by
  unfold elementPhrases at h
  split at h
  next =>
    rw [List.mem_singleton.mp h]
    exact of_decide_eq_true he
  next x => rw [List.mem_singleton.mp h]; exact (hr x rfl).1
  next x => exact (hr x rfl).2 p h
  next => split at h; exacts [numberPhrase_le h, absurd h List.not_mem_nil]
  next => split at h; exacts [numberPhrase_le h, absurd h List.not_mem_nil]
  next => exact timePhrases_le h
  next => exact timePhrases_le h
  next =>
    split at h
    next => split at h; exacts [numberPhrase_le h, absurd h List.not_mem_nil]
    next => cases h
  next => cases h

/-- R103, R169: what a template in use of a valid bank promises. -/
structure TemplateOk (t : CueTemplate) : Prop where
  elements : ∀ e ∈ t.elements.take t.elementCount, e.ok = true
  languages : t.languages ≠ 0#4
  priority : t.priority ≤ 7
  lifeLow : 10 ≤ t.lifetime
  lifeHigh : t.lifetime ≤ 1800
  playLow : 1 ≤ t.playLimit
  playHigh : t.playLimit ≤ 120

theorem templateOk_of_valid {b : Bank} (h : b.firstInvalid = none) (t : Nat)
    (huse : (b.templates.getD t emptyTemplate).inUse = true) : TemplateOk (b.templates.getD t emptyTemplate) := by
  have hok : (b.templates.getD t emptyTemplate).ok = true := by
    rw [List.getD_eq_getElem?_getD] at *
    cases hget : b.templates[t]? with
    | none => rfl
    | some tm =>
      exact (firstInvalid_eq_none_iff b).mp h 5 (by decide) _ (List.mem_map_of_mem (List.mem_of_getElem? hget))
  simp only [CueTemplate.ok, huse, Bool.not_true, Bool.false_or, Bool.and_eq_true, decide_eq_true_eq, List.all_eq_true,
    bne_iff_ne, ne_eq] at hok
  obtain ⟨⟨⟨⟨⟨⟨⟨⟨⟨⟨⟨-, -⟩, helements⟩, -⟩, hlang⟩, -⟩, hprio⟩, -⟩, hlow⟩, hhigh⟩, hplow⟩, hphigh⟩ := hok
  exact ⟨helements, hlang, hprio, hlow, hhigh, hplow, hphigh⟩

theorem languageList_le {ds : Nat} {t : CueTemplate} (ht : TemplateOk t) {r : Option ServiceRecord}
    (hr : ∀ x, r = some x → PhrasesOk x) {p : Nat} (h : p ∈ languageList ds t r) : p ≤ 1023 := by
  obtain ⟨e, he, hp⟩ := List.mem_flatMap.mp h
  exact elementPhrases_le hr (ht.elements e he) hp

theorem length_flatMap_inLanguage (ls list : List Nat) :
    (ls.flatMap (inLanguage list)).length = ls.length * list.length := by
  induction ls with
  | nil => simp
  | cons l ls ih => simp [ih, inLanguage, Nat.succ_mul, Nat.add_comm]

theorem mem_flatMap_inLanguage_le {ls list : List Nat} (hls : ∀ l ∈ ls, l < 4) (hlist : ∀ p ∈ list, p ≤ 1023) {c : Nat}
    (h : c ∈ ls.flatMap (inLanguage list)) : c ≤ 4095 := by
  obtain ⟨l, hl, hc⟩ := List.mem_flatMap.mp h
  obtain ⟨p, hp, rfl⟩ := List.mem_map.mp hc
  have := hls l hl
  have := hlist p hp
  omega

theorem bitsOf_ne_nil {n : Nat} {m : BitVec n} (h : m ≠ 0#n) : bitsOf m ≠ [] := by
  refine fun hnil => h (BitVec.eq_of_getLsbD_eq fun i hi => ?_)
  have hnot : i ∉ bitsOf m := hnil ▸ List.not_mem_nil
  rw [mem_bitsOf, not_and, Bool.not_eq_true] at hnot
  rw [hnot hi, BitVec.getLsbD_zero]

/-- R105: the codes of a cue are 1 to 16, of at most 4095. -/
theorem expandLanguages_ok {languages : BitVec 4} (hl : languages ≠ 0#4) {list : List Nat} (hne : list ≠ [])
    (hle : ∀ p ∈ list, p ≤ 1023) :
    1 ≤ (expandLanguages languages list).length ∧ (expandLanguages languages list).length ≤ 16 ∧
      ∀ c ∈ expandLanguages languages list, c ≤ 4095 := by
  have hbits : 1 ≤ (bitsOf languages).length := List.length_pos_iff.mpr (bitsOf_ne_nil hl)
  have hlist : 1 ≤ list.length := List.length_pos_iff.mpr hne
  have hsmall : ∀ l ∈ bitsOf languages, l < 4 := fun l h => ((mem_bitsOf languages l).mp h).1
  have hpart (k : Nat) : ∀ l ∈ (bitsOf languages).take k, l < 4 := fun l h => hsmall l (List.mem_of_mem_take h)
  unfold expandLanguages
  split
  next hfit =>
    rw [length_flatMap_inLanguage]
    exact ⟨Nat.mul_pos hbits hlist, hfit, fun c => mem_flatMap_inLanguage_le hsmall hle⟩
  next =>
    split
    next hlong =>
      have hlong : 16 < list.length := hlong
      rw [List.length_take, length_flatMap_inLanguage, List.length_take, Nat.min_eq_left hbits, Nat.one_mul]
      exact ⟨by change 1 ≤ min 16 _; omega, Nat.min_le_left _ _,
        fun c hc => mem_flatMap_inLanguage_le (hpart 1) hle (List.mem_of_mem_take hc)⟩
    next hlong =>
      have hshort : list.length ≤ 16 := Nat.le_of_not_lt hlong
      have hquot : 1 ≤ 16 / list.length := (Nat.le_div_iff_mul_le hlist).mpr (by omega)
      rw [length_flatMap_inLanguage, List.length_take]
      refine ⟨Nat.mul_pos (le_min hquot hbits) hlist, ?_, fun c => mem_flatMap_inLanguage_le (hpart _) hle⟩
      calc min (16 / list.length) (bitsOf languages).length * list.length
          ≤ 16 / list.length * list.length := Nat.mul_le_mul_right _ (Nat.min_le_left _ _)
        _ ≤ 16 := Nat.div_mul_le_self _ _

end Sys2Proof.Laws
end

section
/-! SUPPORT. How an operation that lowers no cue moves the cue queue on: sound to sound, and no release further back than
1800 s before midnight but those there were (R108, R110). -/

namespace Sys2Proof.Laws

open Sys2Proof Sys2Proof.Machine

/-- Where a cue of a later queue comes from: from a cue of `q` of the same release, or, where cues are
asked for, from a request of the meantime. Under `strict` no cue has come onto the line. -/
def Descends (strict asks : Bool) (q : List Cue) (c : Cue) : Prop :=
  (∃ d ∈ q, c.release = d.release ∧ (strict = true → c.onLine = true → d.onLine = true)) ∨
    (asks = true ∧ -1800 ≤ c.release ∧ (strict = true → c.onLine = false))

/-- `t` has its cues from `s`. -/
structure Evolves (strict asks : Bool) (s t : State) : Prop where
  sound : s.cuesOk → t.cuesOk
  descends : ∀ c ∈ t.cues.queue, Descends strict asks s.cues.queue c

theorem Descends.of_mem {b a : Bool} {q : List Cue} {c : Cue} (h : c ∈ q) : Descends b a q c :=
  .inl ⟨c, h, rfl, fun _ h => h⟩

section
variable {b a : Bool} {s t u : State}

theorem Evolves.of_cues (h : t.cues = s.cues) : Evolves b a s t :=
  ⟨fun hs => (cuesOk_iff t).mpr (by rw [h]; exact (cuesOk_iff s).mp hs), fun c hc => .of_mem (by rwa [h] at hc)⟩

theorem Evolves.refl (s : State) : Evolves b a s s := .of_cues rfl

theorem Evolves.of_touches {bs : List Block} (h : Touches bs s t) (hbs : bs.contains .cues = false) : Evolves b a s t :=
  .of_cues (h .cues (by simpa using hbs))

theorem Evolves.trans (h : Evolves b a s t) (k : Evolves b a t u) : Evolves b a s u := by
  refine ⟨fun hs => k.sound (h.sound hs), fun c hc => ?_⟩
  rcases k.descends c hc with ⟨d, hd, hrel, hline⟩ | hnew
  · rcases h.descends d hd with ⟨e, he, hrel', hline'⟩ | ⟨hask, hlow, hoff⟩
    · exact .inl ⟨e, he, hrel.trans hrel', fun hb hc => hline' hb (hline hb hc)⟩
    · exact .inr ⟨hask, hrel ▸ hlow, fun hb => Bool.eq_false_iff.mpr fun hon => by simp [hline hb hon] at hoff; simp [hb] at hoff⟩
  · exact .inr hnew

theorem Evolves.ite {p : Prop} [Decidable p] (h : Evolves b a s t) (k : Evolves b a s u) :
    Evolves b a s (if p then t else u) := by split <;> assumption

/-- An emptied queue. -/
theorem Evolves.of_nil (hq : t.cues.queue = []) (hn : t.cues.nextId < 256) : Evolves b a s t :=
  ⟨fun _ => (cuesOk_iff t).mpr ⟨hq ▸ queueOk_nil, hn⟩, fun c hc => by rw [hq] at hc; cases hc⟩

/-- Some cues gone. -/
theorem Evolves.of_sublist (hq : t.cues.queue.Sublist s.cues.queue) (hn : t.cues.nextId = s.cues.nextId) :
    Evolves b a s t := by
  refine ⟨fun hs => ?_, fun c hc => .of_mem (hq.subset hc)⟩
  obtain ⟨hok, hnext⟩ := (cuesOk_iff s).mp hs
  exact (cuesOk_iff t).mpr ⟨hok.sublist hq, hn ▸ hnext⟩

/-- Cues changed where they stand. -/
theorem Evolves.of_map {f : Cue → Cue} (hq : t.cues.queue = s.cues.queue.map f) (hn : t.cues.nextId = s.cues.nextId)
    (hf : Steady f) (hok : ∀ c, c.ok → (f c).ok) (hrel : ∀ c, (f c).release = c.release)
    (hline : b = true → ∀ c, (f c).onLine = true → c.onLine = true) : Evolves b a s t := by
  refine ⟨fun hs => ?_, fun c hc => ?_⟩
  · obtain ⟨hqueue, hnext⟩ := (cuesOk_iff s).mp hs
    exact (cuesOk_iff t).mpr ⟨hq ▸ hqueue.map hf fun c _ => hok c, hn ▸ hnext⟩
  · rw [hq] at hc
    obtain ⟨d, hd, rfl⟩ := List.mem_map.mp hc
    exact .inl ⟨d, hd, hrel d, fun hb => hline hb d⟩

theorem evolves_foldl {α : Type} {f : State → α → State} (hf : ∀ s x, Evolves b a s (f s x)) :
    ∀ (l : List α) (s : State), Evolves b a s (l.foldl f s)
  | [], s => .refl s
  | x :: l, s => (hf s x).trans (evolves_foldl hf l (f s x))

end

variable {b a : Bool} (s : State)

/-! ### Shared operations -/

theorem evolves_queueReport (r : Report) : Evolves b a s (queueReport r s) := .of_touches (touches_queueReport s r) (by decide)

theorem evolves_reportIfPosition (mode : AddrMode) (r : Report) : Evolves b a s (reportIfPosition mode r s) :=
  .of_touches (touches_reportIfPosition s mode r) (by decide)

theorem evolves_watchReport (ev : WatchEvent) (r : ServiceRecord) : Evolves b a s (watchReport ev r s) :=
  .of_touches (touches_watchReport s ev r) (by decide)

theorem evolves_dropCues (p : Cue → Bool) (reason : DropReason) : Evolves b a s (dropCues p reason s) := by
  rw [dropCues_eq]
  exact .of_sublist List.filter_sublist rfl

theorem evolves_noZoneCheck : Evolves b a s (noZoneCheck s) := evolves_dropCues s _ _

theorem evolves_removeCue (i : Nat) : Evolves b a s (removeCue i s) := .of_sublist List.filter_sublist rfl

/-- One cue changed in what neither admission nor order looks at. -/
theorem evolves_updateCue (i : Nat) {f : Cue → Cue} (hf : Steady f) (hok : ∀ c, c.ok → (f c).ok)
    (hrel : ∀ c, (f c).release = c.release) (hline : b = true → ∀ c, (f c).onLine = true → c.onLine = true) :
    Evolves b a s (updateCue i f s) := by
  refine .of_map (updateCue_queue i f s) rfl (hf.at i) (fun c hc => ?_) (fun c => ?_) fun hb c => ?_
  all_goals split
  · exact hok c hc
  · exact hc
  · exact hrel c
  · rfl
  · exact hline hb c
  · exact id

/-! ### Admission (R109 to R113) -/

theorem pickFirst_mem {lt : Cue → Cue → Bool} : ∀ {l : List Cue} {c : Cue}, pickFirst lt l = some c → c ∈ l
  | [], _, h => by cases h
  | x :: l, c, h => by
    unfold pickFirst at h
    cases hd : pickFirst lt l with
    | none =>
      rw [hd] at h
      cases h
      exact List.mem_cons_self
    | some d =>
      rw [hd] at h
      simp only at h
      split at h <;> cases h
      · exact List.mem_cons_of_mem x (pickFirst_mem hd)
      · exact List.mem_cons_self

/-- Content within the ranges of R108, R110. -/
structure ContentOk (c : Cue) : Prop where
  zones : c.zones ≠ 0#8
  codesLow : 1 ≤ c.codes.length
  codesHigh : c.codes.length ≤ 16
  codes : ∀ p ∈ c.codes, p ≤ 4095
  lifeLow : c.release + 10 ≤ c.expiry
  lifeHigh : c.expiry ≤ c.release + 1800
  expiry : c.expiry ≤ 172799
  priority : c.priority ≤ 7
  playLow : 1 ≤ c.playLimit
  playHigh : c.playLimit ≤ 120

theorem contentOk_of_ok {c : Cue} (h : c.ok) : ContentOk c := { h with }

theorem ok_withId {c : Cue} (h : ContentOk c) {i : Nat} (hi : i < 256) : ({ c with id := i } : Cue).ok := { h with id := hi }

theorem ok_takeContent {new old : Cue} (hnew : ContentOk new) (hold : old.ok) (sec : Nat) : (takeContent sec new old).ok :=
  { hnew with id := hold.id }

theorem firstState_offLine (release : Int) (sec : Nat) (c : Cue) (h : c.state = firstState release sec) :
    c.onLine = false ∧ c.waits = true := by
  unfold firstState at h
  split at h <;> simp [Cue.onLine, Cue.waits, h]

theorem coalesceTarget_some {c x : Cue} {s : State} (h : coalesceTarget c s = some x) :
    x ∈ s.cues.queue ∧ x.waits = true := by
  have hp := List.find?_some h
  simp only [Bool.and_eq_true] at hp
  exact ⟨List.mem_of_find?_eq_some h, hp.2⟩

theorem coalesceTarget_none {c : Cue} {s : State} (h : coalesceTarget c s = none) :
    ∀ x ∈ s.cues.queue, ∀ i, ¬ x.twins { c with id := i } := by
  rintro x hx i ⟨hzero, hkey, htemplate, hwaits, -⟩
  have hnot := List.find?_eq_none.mp h x hx
  simp only at hkey htemplate
  rw [hkey] at hzero
  simp [hkey, htemplate, hwaits, hzero] at hnot

/-- What a cue that R102 admits brings. -/
structure Fresh (s : State) (c : Cue) : Prop where
  content : ContentOk c
  low : -1800 ≤ c.release
  state : c.state = firstState c.release s.time.second

theorem evolves_addCue {c : Cue} {s t : State} (hc : Fresh s c) (hnone : ∀ x ∈ t.cues.queue, ∀ i, ¬ x.twins { c with id := i })
    (hroom : s.cuesOk → t.cues.queue.length < 32) (hst : Evolves b true s t) : Evolves b true s (addCue c t) := by
  have hoff := (firstState_offLine _ _ c hc.state).1
  refine ⟨fun hs => ?_, fun x hx => ?_⟩
  · obtain ⟨hq, hn⟩ := (cuesOk_iff t).mp (hst.sound hs)
    obtain ⟨hlt, hfree⟩ := nextCueId_fresh hq.size hn
    exact (cuesOk_iff _).mpr ⟨hq.insert (hroom hs) hfree (ok_withId hc.content hlt) fun x hx => hnone x hx _,
      Nat.mod_lt _ (by decide)⟩
  · rcases mem_insertCue.mp hx with rfl | hx
    · exact .inr ⟨rfl, hc.low, fun _ => hoff⟩
    · exact hst.descends x hx

theorem evolves_placeCue {c : Cue} (hc : Fresh s c) (hnone : coalesceTarget c s = none) : Evolves b true s (placeCue c s) := by
  have hapart := coalesceTarget_none hnone
  unfold placeCue
  split
  next hroom => exact evolves_addCue hc hapart (fun _ => hroom) (.refl s)
  next =>
    split
    next => exact evolves_queueReport s _
    next v hv =>
      split
      next =>
        have hqueue : (dropCues (fun x => x.id == v.id) .full s).cues.queue = s.cues.queue.filter fun x => !(x.id == v.id) := by
          rw [dropCues_eq]
          rfl
        refine evolves_addCue hc (fun x hx => ?_) (fun hs => ?_) (evolves_dropCues s _ _)
        · rw [hqueue] at hx
          exact hapart x (List.mem_of_mem_filter hx)
        · rw [hqueue]
          have hmem : v ∈ s.cues.queue := List.mem_of_mem_filter (pickFirst_mem hv)
          exact lt_of_lt_of_le (List.length_filter_lt_length_iff_exists.mpr ⟨v, hmem, by simp⟩) hs.size
      next => exact evolves_queueReport s _

/-- R111: content taken over by a cue that waits makes no twin. -/
theorem QueueOk.take {q : List Cue} (hq : QueueOk q) {x new : Cue} (hx : x ∈ q) (hwaits : x.waits = true)
    (hnew : ContentOk new) (sec : Nat) :
    QueueOk (q.map fun c => if c.id = x.id then takeContent sec new c else c) := by
  refine hq.change (fun _ => rfl) (fun c hc _ => ok_takeContent hnew (hq.sound c hc) sec) fun c hc hid y hy hne htwins => ?_
  obtain ⟨hzero, hkey, htemplate, hy', -⟩ := htwins
  have hcx := eq_of_id_eq hq hc hx hid
  exact not_twins_of_mem hq hy hc (hid ▸ hne) ⟨hzero, hkey, htemplate, hy', hcx ▸ hwaits⟩

theorem evolves_coalesce {c x : Cue} (hc : Fresh s c) (hx : x ∈ s.cues.queue) (hwaits : x.waits = true) :
    Evolves b true s (updateCue x.id (takeContent s.time.second c) s) := by
  have hoff (d : Cue) := firstState_offLine c.release s.time.second (takeContent s.time.second c d) rfl
  refine ⟨fun hs => ?_, fun y hy => ?_⟩
  · obtain ⟨hq, hn⟩ := (cuesOk_iff s).mp hs
    refine (cuesOk_iff _).mpr ⟨?_, hn⟩
    rw [updateCue_queue]
    exact hq.take hx hwaits hc.content _
  · rw [updateCue_queue] at hy
    obtain ⟨d, hd, rfl⟩ := List.mem_map.mp hy
    split
    next => exact .inr ⟨rfl, hc.low, fun _ => (hoff d).1⟩
    next => exact .of_mem hd

theorem evolves_enterCue {c : Cue} (hc : Fresh s c) : Evolves b true s (enterCue c s) := by
  unfold enterCue
  split
  next x hx =>
    obtain ⟨hmem, hwaits⟩ := coalesceTarget_some hx
    exact (evolves_coalesce s hc hmem hwaits).trans (evolves_noZoneCheck _)
  next hnone => exact (evolves_placeCue s hc hnone).trans (evolves_noZoneCheck _)

theorem evolves_dropRequest (source : CueSource) (key : Nat) (t : Option Nat) (reason : DropReason) :
    Evolves b a s (dropRequest source key t reason s) := evolves_queueReport s _

/-- R110: what is asked of a cue before it is timed. -/
structure RequestOk (codes : List Nat) (zones : BitVec 8) (priority lifetime playLimit : Nat) : Prop where
  zones : zones ≠ 0#8
  codesLow : 1 ≤ codes.length
  codesHigh : codes.length ≤ 16
  codes : ∀ p ∈ codes, p ≤ 4095
  priority : priority ≤ 7
  lifeLow : 10 ≤ lifetime
  lifeHigh : lifetime ≤ 1800
  playLow : 1 ≤ playLimit
  playHigh : playLimit ≤ 120

theorem evolves_timeCue (source : CueSource) (key : Nat) (t : Option Nat) {codes : List Nat} {zones : BitVec 8}
    {priority lifetime playLimit : Nat} (release : Int) (h : RequestOk codes zones priority lifetime playLimit) :
    Evolves b true s (timeCue source key t codes zones priority release lifetime playLimit s) := by
  have hlow := h.lifeLow
  have hhigh := h.lifeHigh
  unfold timeCue
  split
  next => exact evolves_dropRequest s _ _ _ _
  next hlast =>
    have hlast : ¬ (172799 : Int) < release + lifetime := hlast
    split
    next => exact evolves_dropRequest s _ _ _ _
    next hexp =>
      refine evolves_enterCue s ⟨{ h with lifeLow := ?_, lifeHigh := ?_, expiry := ?_ }, ?_, rfl⟩
      · change release + 10 ≤ release + lifetime; omega
      · change release + lifetime ≤ release + 1800; omega
      · change release + lifetime ≤ 172799; omega
      · change -1800 ≤ release; omega

theorem evolves_requestTemplate (hs : s.store.active.firstInvalid = none) (source : CueSource) (key t : Nat)
    {r : Option ServiceRecord} (hr : ∀ x, r = some x → PhrasesOk x) : Evolves b true s (requestTemplate source key t r s) := by
  unfold requestTemplate
  simp only
  split
  next => exact evolves_dropRequest s _ _ _ _
  next huse =>
    split
    next => exact evolves_dropRequest s _ _ _ _
    next hzones =>
      simp only [Bool.or_eq_true, Bool.not_eq_eq_eq_not, Bool.not_true, List.isEmpty_iff, not_or, Bool.not_eq_false] at huse
      have htm := templateOk_of_valid hs t huse.1
      obtain ⟨hlow, hhigh, hcodes⟩ := expandLanguages_ok htm.languages huse.2 fun p => languageList_le htm hr
      refine evolves_timeCue s _ _ _ _ { htm with
        zones := by simpa using hzones, codesLow := hlow, codesHigh := hhigh, codes := hcodes, priority := ?_ }
      split
      next => exact Nat.le_refl 7
      next => exact htm.priority

theorem evolves_requestCue (hs : s.store.active.firstInvalid = none) (source : CueSource) (key : Nat) (t : Option Nat)
    {r : Option ServiceRecord} (hr : ∀ x, r = some x → PhrasesOk x) : Evolves b true s (requestCue source key t r s) := by
  refine .ite ?_ (.refl s)
  split
  next => exact .refl s
  next => exact evolves_requestTemplate s hs _ _ _ hr

theorem cuePostBad_eq_false {body : CuePostBody} (h : cuePostBad body = false) :
    1 ≤ body.codes.length ∧ body.codes.length ≤ 16 ∧ (∀ p ∈ body.codes, p ≤ 4095) ∧ body.zones ≠ 0#8 ∧ body.priority ≤ 7 ∧
      10 ≤ body.lifetime ∧ body.lifetime ≤ 1800 := by
  simp only [cuePostBad, Bool.or_eq_false_iff, decide_eq_false_iff_not, List.isEmpty_eq_false_iff, List.any_eq_false,
    decide_eq_true_eq, not_lt, beq_eq_false_iff_ne] at h
  obtain ⟨⟨⟨⟨⟨⟨⟨hne, hlen⟩, hcodes⟩, hzones⟩, hprio⟩, -⟩, hlow⟩, hhigh⟩ := h
  exact ⟨List.length_pos_iff.mpr hne, hlen, hcodes, hzones, hprio, hlow, hhigh⟩

theorem evolves_cuePost (mode : AddrMode) (body : CuePostBody) : Evolves b true s (cuePost mode body s) := by
  unfold cuePost
  split
  next =>
    split
    next => exact evolves_reportIfPosition s _ _
    next hgood =>
      split
      next => exact evolves_dropRequest s _ _ _ _
      next hzones =>
        obtain ⟨hclow, hchigh, hcodes, -, hprio, hlow, hhigh⟩ := cuePostBad_eq_false (Bool.eq_false_iff.mpr hgood)
        exact evolves_timeCue s _ _ _ _ ⟨by simpa using hzones, hclow, hchigh, hcodes, hprio, hlow, hhigh, by decide, by decide⟩
  next => exact .refl s

/-! ### Release, expiry and returned cues (R112, R116 to R118) -/

theorem evolves_dropKey (key : Nat) (reason : DropReason) : Evolves b a s (dropKey key reason s) := evolves_dropCues s _ _

theorem release?_offLine (sec : Int) (c : Cue) :
    (c.release? sec).onLine = c.onLine ∧ (c.release? sec).waits = c.waits := by
  unfold Cue.release?
  split
  next h =>
    simp only [Bool.and_eq_true, beq_iff_eq] at h
    simp only [Cue.onLine, Cue.waits, h.1]
    decide
  next => exact ⟨rfl, rfl⟩

theorem release?_rest (sec : Int) (c : Cue) : ∃ st, c.release? sec = { c with state := st } := by
  unfold Cue.release?
  split
  next => exact ⟨_, rfl⟩
  next => exact ⟨c.state, rfl⟩

theorem steady_release? (sec : Int) : Steady (Cue.release? sec) := by
  refine ⟨fun c => ?_, fun c => ?_, fun c => ?_, fun c h => (release?_offLine sec c).2 ▸ h⟩
  all_goals
    obtain ⟨st, h⟩ := release?_rest sec c
    rw [h]

theorem ok_release? (sec : Int) {c : Cue} (h : c.ok) : (c.release? sec).ok := by
  obtain ⟨st, heq⟩ := release?_rest sec c
  rw [heq]
  exact { h with }

theorem release?_release (sec : Int) (c : Cue) : (c.release? sec).release = c.release := by
  obtain ⟨st, heq⟩ := release?_rest sec c
  rw [heq]

theorem evolves_releaseTest (sec : Int) : Evolves b a s (releaseTest sec s) :=
  .of_map rfl rfl (steady_release? sec) (fun _ => ok_release? sec) (release?_release sec)
    fun _ c h => (release?_offLine sec c).1 ▸ h

theorem evolves_releaseCue (i : Nat) : Evolves b a s (releaseCue i s) :=
  (evolves_updateCue s i (steady_release? _) (fun _ => ok_release? _) (release?_release _)
    fun _ c h => (release?_offLine _ c).1 ▸ h).trans (evolves_noZoneCheck _)

theorem evolves_expiryTest (sec : Int) : Evolves b a s (expiryTest sec s) := evolves_dropCues s _ _

theorem evolves_schedulerTests : Evolves b a s (schedulerTests s) :=
  ((evolves_expiryTest s _).trans (evolves_releaseTest _ _)).trans (evolves_noZoneCheck _)

theorem evolves_clearHolds : Evolves b a s (clearHolds s) := by
  have same (c : Cue) : ∃ h, (if c.state == .due then { c with retryHold := none } else c) = { c with retryHold := h } := by
    split
    next => exact ⟨none, rfl⟩
    next => exact ⟨c.retryHold, rfl⟩
  refine .of_map (f := fun c => if c.state == .due then { c with retryHold := none } else c) rfl rfl
    ⟨fun c => ?_, fun c => ?_, fun c => ?_, fun c => ?_⟩ (fun c hc => ?_) (fun c => ?_) fun _ c => ?_
  all_goals
    obtain ⟨h, heq⟩ := same c
    simp only [heq]
  · exact id
  · exact { hc with }
  · exact id

/-- R134, R140: a cue back in DUE. -/
def dueAgain (hold : Option Int) (c : Cue) : Cue :=
  { c with state := .due, retryHold := hold, playCount := 0, preempted := false, completed := 0#8, lost := 0#8 }

theorem returnCue_eq (i : Nat) (hold : Option Int) (s : State) :
    returnCue i hold s = noZoneCheck (coalesceReturned i (updateCue i (dueAgain hold) s)) := rfl

theorem mem_of_findCue {s : State} {i : Nat} {c : Cue} (h : s.findCue i = some c) : c ∈ s.cues.queue ∧ c.id = i :=
  ⟨List.mem_of_find?_eq_some h, by simpa using List.find?_some h⟩

/-- The cues of other ids stand as they were after one cue is changed. -/
theorem mem_updateCue_other {s : State} {i : Nat} {f : Cue → Cue} (hid : ∀ c, (f c).id = c.id) {x : Cue} (hx : x.id ≠ i) :
    x ∈ (updateCue i f s).cues.queue ↔ x ∈ s.cues.queue := by
  rw [updateCue_queue, List.mem_map]
  constructor
  · rintro ⟨y, hy, rfl⟩
    by_cases hyi : y.id = i
    · rw [if_pos hyi, hid] at hx
      exact absurd hyi hx
    · rwa [if_neg hyi]
  · exact fun h => ⟨x, h, if_neg hx⟩

/-- What the comparison of R112 looks for. -/
theorem returnMate_some {c o : Cue} {s : State} (h : returnMate c s = some o) :
    o ∈ s.cues.queue ∧ o.id ≠ c.id ∧ c.key ≠ 0 ∧ o.key = c.key ∧ o.template = c.template ∧ o.waits = true := by
  have hp := List.find?_some h
  simp only [Bool.and_eq_true, bne_iff_ne, beq_iff_eq] at hp
  obtain ⟨⟨⟨⟨hid, hzero⟩, hkey⟩, htemplate⟩, hwaits⟩ := hp
  exact ⟨List.mem_of_find?_eq_some h, hid, hzero, hkey, htemplate, hwaits⟩

theorem returnMate_none {c : Cue} {s : State} (h : returnMate c s = none) {x : Cue} (hx : x ∈ s.cues.queue)
    (hid : x.id ≠ c.id) : ¬ x.twins c := by
  rintro ⟨hzero, hkey, htemplate, hwaits, -⟩
  have hnot := List.find?_eq_none.mp h x hx
  rw [hkey] at hzero
  simp [hid, hzero, hkey, htemplate, hwaits] at hnot

/-- R112: the queue of a return that meets a mate: the mate gone, its content taken over. -/
theorem return_queue (i : Nat) (hold : Option Int) (sec : Nat) (o : Cue) (s : State) :
    (updateCue i (takeContent sec o) (removeCue o.id (updateCue i (dueAgain hold) s))).cues.queue =
      (s.cues.queue.filter fun c => c.id != o.id).map
        fun c => if c.id = i then takeContent sec o (dueAgain hold c) else c := by
  have hkeep (c : Cue) : (if c.id = i then dueAgain hold c else c).id = c.id := by split <;> rfl
  rw [updateCue_queue]
  change ((updateCue i (dueAgain hold) s).cues.queue.filter fun c => c.id != o.id).map _ = _
  rw [updateCue_queue, List.filter_map, List.map_map]
  have hfilter : ((fun c : Cue => c.id != o.id) ∘ fun c => if c.id = i then dueAgain hold c else c) =
      fun c => c.id != o.id := by
    funext c
    rw [Function.comp_apply, hkeep]
  rw [hfilter]
  refine List.map_congr_left fun c _ => ?_
  rw [Function.comp_apply, hkeep]
  split <;> rfl

theorem evolves_dueAgain (i : Nat) (hold : Option Int) (hs : s.cuesOk → ∀ c ∈ s.cues.queue, c.id = i →
    ∀ x ∈ s.cues.queue, x.id ≠ i → ¬ x.twins (dueAgain hold c)) : Evolves b a s (updateCue i (dueAgain hold) s) := by
  refine ⟨fun hok => ?_, fun c hc => ?_⟩
  · obtain ⟨hq, hn⟩ := (cuesOk_iff s).mp hok
    refine (cuesOk_iff _).mpr ⟨?_, hn⟩
    rw [updateCue_queue]
    exact hq.change (fun _ => rfl) (fun c hc _ => { hq.sound c hc with }) (hs hok)
  · rw [updateCue_queue] at hc
    obtain ⟨d, hd, rfl⟩ := List.mem_map.mp hc
    split
    next => exact .inl ⟨d, hd, rfl, fun _ h => by simp [dueAgain, Cue.onLine] at h⟩
    next => exact .of_mem hd

theorem evolves_takeMate {i : Nat} {hold : Option Int} {c o : Cue} (hfound : s.findCue i = some c)
    (hmate : returnMate (dueAgain hold c) (updateCue i (dueAgain hold) s) = some o) :
    Evolves b a s
      (updateCue i (takeContent s.time.second o) (removeCue o.id (updateCue i (dueAgain hold) s))) := by
  obtain ⟨hc, hci⟩ := mem_of_findCue hfound
  obtain ⟨ho, hoi, hzero, hkey, htemplate, howaits⟩ := returnMate_some hmate
  have hoi : o.id ≠ i := fun h => hoi (h.trans hci.symm)
  have ho : o ∈ s.cues.queue := (mem_updateCue_other (f := dueAgain hold) (fun _ => rfl) hoi).mp ho
  refine ⟨fun hok => ?_, fun x hx => ?_⟩
  · obtain ⟨hq, hn⟩ := (cuesOk_iff s).mp hok
    refine (cuesOk_iff _).mpr ⟨?_, hn⟩
    rw [return_queue]
    have hrest := hq.sublist (List.filter_sublist (p := fun x => x.id != o.id))
    refine hrest.change (f := fun x => takeContent s.time.second o (dueAgain hold x)) (fun _ => rfl) (fun x hx _ => ?_)
      fun x hx hxi y hy hyi htw => ?_
    · have hdue : (dueAgain hold x).ok := { hrest.sound x hx with }
      exact ok_takeContent (contentOk_of_ok (hq.sound o ho)) hdue _
    · obtain ⟨hyzero, hykey, hytemplate, hywaits, -⟩ := htw
      have hxc : x = c := eq_of_id_eq hq (List.mem_of_mem_filter hx) hc (hxi.trans hci.symm)
      subst hxc
      exact not_twins_of_mem hq (List.mem_of_mem_filter hy) ho (by simpa using List.of_mem_filter hy)
        ⟨hyzero, hykey.trans hkey.symm, hytemplate.trans htemplate.symm, hywaits, howaits⟩
  · rw [return_queue] at hx
    obtain ⟨d, hd, rfl⟩ := List.mem_map.mp hx
    have hd := List.mem_of_mem_filter hd
    split
    next =>
      have hoff := firstState_offLine o.release s.time.second (takeContent s.time.second o (dueAgain hold d)) rfl
      exact .inl ⟨o, ho, rfl, fun _ h => absurd (hoff.1.symm.trans h) (by decide)⟩
    next => exact .of_mem hd

theorem findCue_updateCue {s : State} {i : Nat} {f : Cue → Cue} (hid : ∀ c, (f c).id = c.id) :
    (updateCue i f s).findCue i = (s.findCue i).map f := by
  unfold State.findCue
  rw [updateCue_queue, List.find?_map]
  have hsame : ((fun c : Cue => c.id == i) ∘ fun c => if c.id = i then f c else c) = fun c => c.id == i := by
    funext c
    rw [Function.comp_apply]
    split
    next h => rw [hid]
    next => rfl
  rw [hsame]
  cases h : s.cues.queue.find? fun c => c.id == i with
  | none => rfl
  | some c =>
    have hci : c.id = i := by simpa using List.find?_some h
    simp [hci]

theorem evolves_returnCue (i : Nat) (hold : Option Int) : Evolves b a s (returnCue i hold s) := by
  rw [returnCue_eq]
  refine Evolves.trans ?_ (evolves_noZoneCheck _)
  unfold coalesceReturned
  rw [findCue_updateCue (f := dueAgain hold) fun _ => rfl]
  cases hfound : s.findCue i with
  | none =>
    refine evolves_dueAgain s i hold fun _ c hc hci => ?_
    have hnot := List.find?_eq_none.mp hfound c hc
    simp [hci] at hnot
  | some c =>
    simp only [Option.map_some]
    split
    next hnone =>
      refine evolves_dueAgain s i hold fun hok d hd hdi x hx hxi => ?_
      obtain ⟨hq, -⟩ := (cuesOk_iff s).mp hok
      obtain ⟨hc, hci⟩ := mem_of_findCue hfound
      have hdc := eq_of_id_eq hq hd hc (hdi.trans hci.symm)
      subst hdc
      exact returnMate_none hnone ((mem_updateCue_other (f := dueAgain hold) (fun _ => rfl) hxi).mpr hx) fun h => hxi (h.trans hdi)
    next o hmate =>
      have htaken : Evolves b a s _ := evolves_takeMate s hfound hmate
      exact .ite (htaken.trans (evolves_dropCues _ _ _)) htaken

end Sys2Proof.Laws
end

section
/-! SUPPORT. The cue queue through every operation that lowers no cue. -/

namespace Sys2Proof.Laws

open Sys2Proof Sys2Proof.Machine

/-- What a request leans on: a valid bank, and records whose phrases are in range. -/
structure Asks (s : State) : Prop where
  valid : s.store.active.firstInvalid = none
  phrases : ∀ r ∈ s.table, PhrasesOk r

theorem asks_of_ok {s : State} (hstore : s.storeOk) (htable : s.tableOk) : Asks s :=
  ⟨hstore.valid, fun r hr => phrasesOk_of_ok (htable.records r hr)⟩

theorem valid_of_touches {bs : List Block} {s t : State} (h : Touches bs s t) (hbs : bs.contains .store = false)
    (hs : s.store.active.firstInvalid = none) : t.store.active.firstInvalid = none := by
  rw [show t.store = s.store from h .store (by simpa using hbs)]
  exact hs

variable {b a : Bool} (s : State)

theorem evolves_setTable (t : List ServiceRecord) : Evolves b a s (s.setTable t) := .of_cues rfl

theorem evolves_setNode (n : Node) : Evolves b a s (s.setNode n) := .of_cues rfl

theorem evolves_setChain (c : Chain) : Evolves b a s (s.setChain c) := .of_cues rfl

theorem evolves_setOvr (o : OverrideContext) : Evolves b a s (s.setOvr o) := .of_cues rfl

theorem evolves_setStore (v : Store) : Evolves b a s (s.setStore v) := .of_cues rfl

/-! ### The rule evaluator and the service list unit -/

theorem evolves_ruleRequests (hs : s.store.active.firstInvalid = none) (edges : List Nat) {r : ServiceRecord}
    (hr : PhrasesOk r) : Evolves b true s (ruleRequests edges r s) := by
  induction edges generalizing s with
  | nil => exact .refl s
  | cons n ns ih =>
    have one : Evolves b true s (ruleRequests [n] r s) := by
      refine .ite ?_ (.refl s)
      split
      next => exact .refl s
      next => exact evolves_requestCue s hs _ _ _ fun x hx => by cases hx; exact hr
    exact one.trans (ih _ (valid_of_touches (touches_ruleRequests s [n] r) (by decide) hs))

theorem evolves_fullEvaluation (hs : s.store.active.firstInvalid = none) {r : ServiceRecord} (hr : PhrasesOk r) :
    Evolves b true s (fullEvaluation r s) :=
  (Evolves.of_touches (touches_storeEvaluated s r) (by decide)).trans
    (evolves_ruleRequests (storeEvaluated r s) hs _ (r := decideRules s.bank s.time.second r) hr)

theorem evolves_evaluateAll (hs : Asks s) : Evolves b true s (evaluateAll s) := by
  have fold (l : List ServiceRecord) (u : State) (hu : u.store.active.firstInvalid = none) (hl : ∀ r ∈ l, PhrasesOk r) :
      Evolves b true u (l.foldl (fun st r => fullEvaluation r st) u) := by
    induction l generalizing u with
    | nil => exact .refl u
    | cons r l ih =>
      exact (evolves_fullEvaluation u hu (hl r List.mem_cons_self)).trans
        (ih _ (valid_of_touches (touches_fullEvaluation u r) (by decide) hu) fun q hq => hl q (List.mem_cons_of_mem r hq))
  exact fold s.table s hs.valid hs.phrases

theorem evolves_builtInRequest (hs : s.store.active.firstInvalid = none) (e : Bool) (source : CueSource) {r : ServiceRecord}
    (hr : PhrasesOk r) : Evolves b true s (builtInRequest e source r s) :=
  .ite (evolves_requestCue s hs _ _ _ fun x hx => by cases hx; exact hr) (.refl s)

theorem evolves_builtInRequests (hs : s.store.active.firstInvalid = none) (e : Bool) {ch : FieldChange}
    (hr : PhrasesOk ch.record) : Evolves b true s (builtInRequests e ch s) := by
  have cancel : Evolves b true s (if ch.cancelCue then builtInRequest e .cancel ch.record s else s) :=
    .ite (evolves_builtInRequest s hs _ _ hr) (.refl s)
  have valid : (if ch.cancelCue then builtInRequest e .cancel ch.record s else s).store.active.firstInvalid = none := by
    split
    next => exact valid_of_touches (touches_builtInRequest s _ _ _) (by decide) hs
    next => exact hs
  unfold builtInRequests
  simp only
  split
  next => exact cancel
  next => exact cancel.trans (evolves_builtInRequest _ valid _ _ hr)

theorem evolves_afterApply (hs : Asks s) (ev : WatchEvent) (key : Nat) : Evolves b true s (afterApply ev key s) := by
  unfold afterApply
  split
  next => exact .refl s
  next r hr =>
    have evaluated : Evolves b true s (fullEvaluation r s) :=
      evolves_fullEvaluation s hs.valid (hs.phrases r (mem_of_findRecord hr).1)
    simp only
    split
    next => exact evaluated
    next => exact evaluated.trans (evolves_watchReport _ _ _)

theorem evolves_leaveSelection (r : ServiceRecord) : Evolves b a s (leaveSelection r s) :=
  (evolves_queueReport s _).trans (evolves_watchReport _ _ _)

theorem evolves_settleChange (hs : Asks s) (ev : WatchEvent) (e : Bool) {ch : FieldChange} (hr : PhrasesOk ch.record)
    (sel : BitVec 4 × Bool) : Evolves b true s (settleChange ev e ch sel s) := by
  have put (t : List ServiceRecord) : Evolves b true s (builtInRequests e ch (s.setTable t)) :=
    (evolves_setTable s t).trans (evolves_builtInRequests (s.setTable t) hs.valid e hr)
  refine .ite ((put _).trans (evolves_leaveSelection _ _)) ((put _).trans (evolves_afterApply _ ⟨?_, fun r hmem => ?_⟩ _ _))
  · exact valid_of_touches (touches_builtInRequests _ _ _) (by decide) hs.valid
  · rw [show (builtInRequests e ch _).table = _ from touches_builtInRequests _ e ch .table (by decide)] at hmem
    rcases (mem_insertRecord _ _ _).mp hmem with rfl | hmem
    · exact hr
    · exact hs.phrases r (List.mem_of_mem_filter hmem)

theorem evolves_createRecord (hs : Asks s) {r : ServiceRecord} (hr : PhrasesOk r) : Evolves b true s (createRecord r s) := by
  refine (evolves_setTable s _).trans (evolves_afterApply (s.setTable (insertRecord r s.table)) ⟨hs.valid, fun q hq => ?_⟩ _ _)
  rcases (mem_insertRecord _ _ _).mp hq with rfl | hq
  · exact hr
  · exact hs.phrases q hq

theorem asks_evictRecord (hs : Asks s) (r : ServiceRecord) : Asks (evictRecord r s) := by
  refine ⟨valid_of_touches (touches_evictRecord s r) (by decide) hs.valid, fun q hq => ?_⟩
  rw [table_evictRecord] at hq
  exact hs.phrases q (List.mem_of_mem_filter hq)

theorem evolves_evictRecord (r : ServiceRecord) : Evolves b a s (evictRecord r s) :=
  (((evolves_setTable s _).trans (evolves_queueReport _ _)).trans (evolves_dropKey _ _ _)).trans (evolves_watchReport _ _ _)

theorem evolves_postNew (hs : Asks s) {r : ServiceRecord} (hr : PhrasesOk r) : Evolves b true s (postNew r s) := by
  refine .ite (evolves_createRecord s hs hr) ?_
  split
  next => exact evolves_createRecord s hs hr
  next last _ =>
    exact .ite ((evolves_evictRecord s last).trans (evolves_createRecord _ (asks_evictRecord s hs last) hr))
      (evolves_queueReport s _)

theorem phrasesOk_of_fields {r : ServiceRecord} (h : FieldsOk r) : PhrasesOk r := ⟨h.destination, h.viaPhrases⟩

theorem evolves_servicePost (hstore : s.storeOk) (htable : s.tableOk) (mode : AddrMode) (body : PostBody) :
    Evolves b true s (servicePost mode body s) := by
  have hs := asks_of_ok hstore htable
  refine .ite ?_ (.refl s)
  split
  next => exact evolves_reportIfPosition s _ _
  next hbad =>
    have hbad : postBad body = false := Bool.eq_false_iff.mpr hbad
    simp only
    split
    next =>
      obtain ⟨-, -, -, -, hdest, hphrases, -⟩ := postBad_eq_false hbad
      exact .ite (.refl s) (evolves_postNew s hs ⟨hdest, hphrases⟩)
    next old hold =>
      have hchange := fieldsOk_postChange (attentionPeriod_le hstore) hbad (htable.records old (mem_of_findRecord hold).1)
      exact .ite ((evolves_setTable s _).trans (evolves_leaveSelection _ _))
        (evolves_settleChange s hs _ _ (phrasesOk_of_fields hchange) _)

theorem evolves_serviceAmend (hstore : s.storeOk) (htable : s.tableOk) (mode : AddrMode) (body : AmendBody) :
    Evolves b true s (serviceAmend mode body s) := by
  have hs := asks_of_ok hstore htable
  refine .ite ?_ (.refl s)
  split
  next => exact evolves_reportIfPosition s _ _
  next old hold =>
    have hchange := fieldsOk_amendChange (attentionPeriod_le hstore) body (htable.records old (mem_of_findRecord hold).1)
    exact evolves_settleChange s hs _ _ (phrasesOk_of_fields hchange) _

theorem evolves_serviceWithdraw (mode : AddrMode) (key : Nat) : Evolves b a s (serviceWithdraw mode key s) := by
  refine .ite ?_ (.refl s)
  split
  next => exact evolves_reportIfPosition s _ _
  next => exact ((evolves_setTable s _).trans (evolves_dropKey _ _ _)).trans (evolves_watchReport _ _ _)

/-! ### The cue line controller -/

theorem evolves_putZone (n : Nat) (z : Zone) : Evolves b a s (putZone n z s) := .of_touches (touches_putZone s n z) (by decide)

theorem evolves_withdrawStop (n : Nat) : Evolves b a s (withdrawStop n s) := .of_touches (touches_withdrawStop s n) (by decide)

theorem evolves_setLine (l : LineCtl) : Evolves b a s (s.setLine l) := .of_cues rfl

theorem evolves_freeZone (n : Nat) : Evolves b a s (freeZone n s) :=
  have free := (evolves_putZone s n _).trans (evolves_withdrawStop _ n)
  .ite (free.trans (evolves_noZoneCheck _)) free

theorem evolves_faultZone (n : Nat) : Evolves b a s (faultZone n s) :=
  have fault := ((evolves_queueReport s _).trans (evolves_putZone _ n _)).trans (evolves_withdrawStop _ n)
  .ite (fault.trans (evolves_noZoneCheck _)) fault

theorem evolves_haltCues (ids : List Nat) : Evolves b a s (haltCues ids s) := .of_touches (touches_haltCues s ids) (by decide)

theorem evolves_endPlay (i : Nat) : Evolves b a s (endPlay i s) := by
  unfold endPlay
  split
  next => exact .refl s
  next =>
    exact .ite (.ite (evolves_returnCue s _ _) (evolves_dropCues s _ _))
      ((evolves_removeCue s _).trans (evolves_queueReport _ _))

theorem evolves_releaseFrom (i n : Nat) (completed : Bool) : Evolves b a s (releaseFrom i n completed s) := by
  have count : Evolves b a s (updateCue i (fun c =>
      if completed then { c with completed := c.completed ||| BitVec.twoPow 8 n }
      else { c with lost := c.lost ||| BitVec.twoPow 8 n }) s) := by
    cases completed
    all_goals
      exact evolves_updateCue s i ⟨fun _ => rfl, fun _ => rfl, fun _ => rfl, fun _ => id⟩ (fun _ h => { h with })
        (fun _ => rfl) fun _ _ => id
  exact .ite (count.trans (evolves_endPlay _ _)) count

theorem evolves_freeAndRelease (n : Nat) (completed : Bool) : Evolves b a s (freeAndRelease n completed s) := by
  unfold freeAndRelease
  split
  next => exact evolves_freeZone s n
  next => exact (evolves_freeZone s n).trans (evolves_releaseFrom _ _ _ _)

theorem evolves_faultAndRelease (n : Nat) : Evolves b a s (faultAndRelease n s) := by
  unfold faultAndRelease
  split
  next => exact (evolves_faultZone s n).trans (evolves_noZoneCheck _)
  next => exact ((evolves_faultZone s n).trans (evolves_releaseFrom _ _ _ _)).trans (evolves_noZoneCheck _)

theorem evolves_failSequence (i : Nat) : Evolves b a s (failSequence i s) :=
  ((evolves_setLine s _).trans (evolves_foldl (fun s n => evolves_freeZone s n) _ _)).trans (evolves_returnCue _ _ _)

theorem evolves_setMiss (n k : Nat) : Evolves b a s (setMiss n k s) := evolves_putZone s _ _

theorem evolves_missOffer (n i : Nat) : Evolves b a s (missOffer n i s) :=
  .ite (((evolves_faultZone s n).trans (evolves_failSequence _ _)).trans (evolves_noZoneCheck _))
    ((evolves_setMiss s _ _).trans (evolves_failSequence _ _))

theorem evolves_missStop (n : Nat) : Evolves b a s (missStop n s) :=
  .ite (evolves_faultAndRelease s n) ((evolves_setMiss s _ _).trans (evolves_freeAndRelease _ _ _))

theorem evolves_missPoll (n : Nat) : Evolves b a s (missPoll n s) := by
  unfold missPoll
  split
  next => exact evolves_putZone s _ _
  next => exact .ite (evolves_faultAndRelease s n) (evolves_putZone s _ _)
  next => exact .ite (evolves_faultAndRelease s n) (evolves_setMiss s _ _)

theorem evolves_missTransaction (t : Transaction) : Evolves b a s (missTransaction t s) := by
  cases t
  case offer => exact evolves_missOffer s _ _
  case stop => exact evolves_missStop s _
  case poll => exact evolves_missPoll s _
  all_goals exact .refl s

theorem evolves_recoverZone (n : Nat) : Evolves b a s (recoverZone n s) :=
  (evolves_putZone s _ _).trans (evolves_queueReport _ _)

theorem evolves_onPlaying (n : Nat) : Evolves b a s (onPlaying n s) := by
  unfold onPlaying
  split
  next => exact evolves_recoverZone s n
  next => exact evolves_putZone s _ _
  next => exact evolves_setMiss s _ _

theorem evolves_onEnded (n : Nat) : Evolves b a s (onEnded n s) := by
  have ended := (evolves_setMiss s n 0).trans (evolves_freeAndRelease (b := b) (a := a) _ n true)
  unfold onEnded
  split
  next => exact evolves_recoverZone s n
  next => exact ended
  next => exact ended
  next => exact evolves_setMiss s _ _

theorem evolves_lineIdle : Evolves b a s (lineIdle s) := .of_touches (touches_lineIdle s) (by decide)

theorem evolves_onReply (k : ReplyKind) (chars : List LineChar) : Evolves b a s (onReply k chars s) := by
  unfold onReply
  split
  next => exact .ite (.refl s) (.of_touches (touches_lateCharacters s _) (by decide))
  next =>
    refine .ite ?_ (.refl s)
    split
    next => exact (evolves_lineIdle s).trans (.of_touches (touches_onTaken _ _) (by decide))
    next => exact (evolves_lineIdle s).trans ((evolves_setMiss _ _ _).trans (evolves_failSequence _ _))
    next => exact (evolves_lineIdle s).trans ((evolves_setMiss _ _ _).trans (evolves_freeAndRelease _ _ _))
    next => exact (evolves_lineIdle s).trans (evolves_onPlaying _ _)
    next => exact (evolves_lineIdle s).trans (evolves_onEnded _ _)
    next => exact (evolves_lineIdle s).trans (evolves_onEnded _ _)
    next => exact .refl s
  next => exact .refl s

theorem evolves_closeWindow : Evolves b a s (closeWindow s) := by
  unfold closeWindow
  split
  next => exact .ite ((evolves_setLine s _).trans (evolves_missTransaction _ _)) (.refl s)
  next => exact .refl s

/-- R133: a cue that begins to play. -/
def playing (c : Cue) : Cue := { c with state := .playing, playCount := 0, completed := 0#8, lost := 0#8 }

theorem steady_playing : Steady playing :=
  ⟨fun _ => rfl, fun _ => rfl, fun _ => rfl, fun _ h => by simp [playing, Cue.waits] at h⟩

theorem evolves_startSent : Evolves false a s (startSent s) := by
  unfold startSent
  split
  next i _ =>
    have idle := (evolves_setLine (b := false) (a := a) s { s.line with seq := none }).trans (evolves_lineIdle _)
    have played := idle.trans (evolves_updateCue _ i steady_playing (fun _ h => { h with }) (fun _ => rfl) nofun)
    exact (played.trans (evolves_foldl (fun s n => evolves_putZone s n _) _ _)).trans
      (evolves_foldl (fun s n => .of_touches (touches_haltZone s n) (by decide)) _ _)
  next => exact .refl s

/-- R132: a cue that is offered. -/
def offered (c : Cue) : Cue := { c with state := .offered }

theorem steady_offered : Steady offered :=
  ⟨fun _ => rfl, fun _ => rfl, fun _ => rfl, fun _ h => by simp [offered, Cue.waits] at h⟩

theorem evolves_beginSequence (c : Cue) : Evolves false a s (beginSequence c s) :=
  ((evolves_updateCue (b := false) (a := a) s c.id steady_offered (fun _ h => { h with }) (fun _ => rfl) nofun).trans
    (evolves_foldl (fun s n => evolves_putZone s n _) _ _)).trans (evolves_setLine _ _)

theorem evolves_preemptFor (c : Cue) : Evolves b a s (preemptFor c s) := by
  refine Evolves.trans ?_ (evolves_haltCues _ _)
  have same (ids : List Nat) (v : Cue) :
      ∃ p, (if ids.contains v.id then { v with preempted := true } else v) = { v with preempted := p } := by
    split
    next => exact ⟨true, rfl⟩
    next => exact ⟨v.preempted, rfl⟩
  refine .of_map rfl rfl ⟨fun v => ?_, fun v => ?_, fun v => ?_, fun v => ?_⟩ (fun v hv => ?_) (fun v => ?_) fun _ v => ?_
  all_goals
    obtain ⟨p, heq⟩ := same ((blockedZones s.line c.zones).filterMap fun n => (s.line.zone n).holding) v
    simp only [heq]
  · exact id
  · exact { hv with }
  · exact id

theorem evolves_chooseCue : Evolves false a s (chooseCue s) := by
  unfold chooseCue
  split
  next => exact .refl s
  next c _ => exact .ite (evolves_beginSequence s c) (evolves_preemptFor s c)

theorem evolves_sendTransaction (t : Transaction) : Evolves b a s (sendTransaction t s) :=
  .of_touches (touches_sendTransaction s t) (by decide)

theorem evolves_arbitrate : Evolves false a s (arbitrate s) := by
  have poll (n : Nat) : Evolves false a s (sendPoll n s) := .of_touches (touches_sendPoll s n) (by decide)
  have send (l : LineCtl) (t : Transaction) : Evolves false a s (sendTransaction t (s.setLine l)) :=
    (evolves_setLine s l).trans (evolves_sendTransaction _ t)
  refine .ite ?_ (.refl s)
  unfold arbiterWork
  split
  next => exact send _ _
  next =>
    split
    next => exact evolves_sendTransaction s _
    next =>
      split
      next => exact poll _
      next => exact send _ _
    next =>
      split
      next => exact poll _
      next => exact evolves_chooseCue s

/-- A play count put to any value. -/
theorem evolves_playCount (f : Cue → Nat) {s t : State} (hq : t.cues.queue = s.cues.queue.map fun c => { c with playCount := f c })
    (hn : t.cues.nextId = s.cues.nextId) : Evolves b a s t :=
  .of_map hq hn ⟨fun _ => rfl, fun _ => rfl, fun _ => rfl, fun _ => id⟩ (fun _ h => { h with }) (fun _ => rfl) fun _ _ => id

theorem evolves_reachPlayLimit (i : Nat) : Evolves b a s (reachPlayLimit i s) :=
  have counted : Evolves b a s (updateCue i (fun c => { c with playCount := c.playLimit * 64 }) s) :=
    evolves_updateCue s i ⟨fun _ => rfl, fun _ => rfl, fun _ => rfl, fun _ => id⟩ (fun _ h => { h with }) (fun _ => rfl)
      fun _ _ => id
  .ite (counted.trans (evolves_haltCues _ _)) (.refl s)

theorem countCycle_eq (c : Cue) : c.countCycle = { c with playCount := c.countCycle.playCount } := by
  unfold Cue.countCycle
  split <;> rfl

theorem evolves_lineCycle : Evolves b a s (lineCycle s) := by
  refine (Evolves.of_touches (touches_countTimers s) (by decide)).trans (Evolves.trans ?_ (evolves_haltCues _ _))
  exact evolves_playCount (fun c => c.countCycle.playCount) (List.map_congr_left fun c _ => countCycle_eq c) rfl

theorem evolves_lineBreak : Evolves b a s (lineBreak s) :=
  (evolves_setLine s _).trans (evolves_foldl (fun s n => evolves_freeZone s n) _ _)

theorem evolves_compareZones : Evolves b a s (compareZones s) :=
  (evolves_foldl (fun s n => .of_touches (touches_compareZone s n) (by decide)) _ s).trans (evolves_noZoneCheck _)

theorem evolves_lineTimeout : Evolves false a s (lineTimeout s) := by
  unfold lineTimeout
  split
  next => exact .refl s
  next => exact .of_touches (touches_lineQuietEnd s) (by decide)
  next => exact .of_touches (touches_lineBreakEnd s) (by decide)
  next => exact evolves_startSent s
  next => exact .of_touches (touches_cancelSent s) (by decide)
  next => exact evolves_closeWindow s

theorem evolves_lineTick : Evolves false a s (lineTick s) := by
  unfold lineTick
  split
  next => exact .refl s
  next => exact (evolves_setLine s _).trans (evolves_lineTimeout _)
  next => exact evolves_setLine s _

/-! ### Override control, the tables and the node controller -/

theorem evolves_stopLine : Evolves b a s (stopLine s) := (evolves_lineBreak s).trans (evolves_dropCues _ _ _)

theorem evolves_enterOverride (hs : s.store.active.firstInvalid = none) (body : OverrideBody) :
    Evolves b true s (enterOverride body s) := by
  have stopped : Evolves b true s (if body.level = 3 then stopLine (s.setOvr (overrideOf body)) else s.setOvr (overrideOf body)) :=
    .ite ((evolves_setOvr s _).trans (evolves_stopLine _)) (evolves_setOvr s _)
  refine stopped.trans (evolves_requestCue _ ?_ _ _ _ nofun)
  split
  next => exact valid_of_touches (touches_stopLine _) (by decide) hs
  next => exact hs

theorem evolves_overrideSet (hs : s.store.active.firstInvalid = none) (mode : AddrMode) (body : OverrideBody) :
    Evolves b true s (overrideSet mode body s) :=
  .ite (.ite (evolves_reportIfPosition s _ _) (.ite (evolves_enterOverride s hs body) (evolves_queueReport s _))) (.refl s)

theorem evolves_reselectOne (r : ServiceRecord) : Evolves b a s (reselectOne s r) :=
  .of_touches (touches_reselectOne s r) (by decide)

theorem evolves_switchBank (held : Option Nat) (gen : Nat) : Evolves b a s (switchBank held gen s) := by
  unfold switchBank
  split
  next => exact .of_touches (touches_refuseSwitch s _ _ _) (by decide)
  next =>
    have selected : Evolves b a s (rebaseline (reselectAll (exchangeBanks gen s))) :=
      ((evolves_setStore s _).trans (.of_touches (touches_reselectAll _) (by decide))).trans
        (.of_touches (touches_rebaseline _) (by decide))
    have works : Evolves b a s (switchWorks gen s) :=
      ((selected.trans (evolves_compareZones _)).trans (.of_touches (touches_setDayStart _ _) (by decide))).trans
        (evolves_queueReport _ _)
    rw [acceptSwitch_eq]
    exact works.trans (.of_touches (touches_completeJoining _ _) (by decide))

theorem evolves_bankSwitch : Evolves b a s (bankSwitch s) := by
  unfold bankSwitch
  split
  next => exact .refl s
  next => exact .ite (evolves_switchBank s _ _) (.refl s)

theorem evolves_tableCommit (held : Option Nat) (mode : AddrMode) (gen cycle : Nat) :
    Evolves b a s (tableCommit held mode gen cycle s) :=
  have superseded : Evolves b a s (supersede s) := .of_touches (touches_supersede s) (by decide)
  .ite (.ite (evolves_reportIfPosition s _ _)
    (.ite (superseded.trans (evolves_switchBank _ _ _)) (superseded.trans (.of_cues rfl)))) (.refl s)

theorem evolves_flushNode : Evolves b a s (flushNode s) :=
  ((evolves_setTable s []).trans (evolves_dropCues _ _ _)).trans (evolves_lineBreak _)

theorem evolves_enterIsolated : Evolves b a s (enterIsolated s) :=
  (Evolves.of_touches (touches_changeState s _ _) (by decide)).trans (evolves_flushNode _)

theorem evolves_holdTick : Evolves b a s (holdTick s) :=
  .ite (.ite ((evolves_setNode s _).trans (evolves_enterIsolated _)) (evolves_setNode s _)) (.refl s)

theorem evolves_reachHoldoverLimit : Evolves b a s (reachHoldoverLimit s) :=
  .ite ((evolves_setNode s _).trans (evolves_enterIsolated _)) (.refl s)

theorem evolves_takePosition (hop : Nat) : Evolves b a s (takePosition hop s) := by
  have move : Evolves b a s (s.setChain { s.chain with hopCount := some hop, position := some (hop + 1) }) := .of_cues rfl
  unfold takePosition
  simp only
  split_ifs
  · exact move
  · refine (move.trans ?_).trans (evolves_flushNode _)
    have changed := Evolves.of_touches (b := b) (a := a) (touches_changeState
      (s.setChain { s.chain with hopCount := some hop, position := some (hop + 1) }) .positionFault s.chain.position) (by decide)
    exact .ite (changed.trans (.of_cues rfl)) changed
  · exact move.trans (evolves_queueReport _ _)
  · exact move

theorem evolves_resetNode (cause : ResetCause) : Evolves b a s (resetNode cause s) := by
  rw [resetNode_eq]
  exact .of_nil rfl (Nat.zero_lt_succ 255)

theorem evolves_breakReset : Evolves b a s (breakReset s) := by
  unfold breakReset
  split
  next => exact (evolves_setChain s _).trans (evolves_resetNode _ _)
  next => exact .refl s

end Sys2Proof.Laws
end

section
/-! SUPPORT. The cue queue through every step (R108, R109, R116): the clock and the queue move together, for a step lowers
the cues by a day exactly when it turns the day. -/

namespace Sys2Proof.Laws

open Sys2Proof Sys2Proof.Machine

/-! ### Cues lowered by a day -/

theorem steady_lower : Steady Cue.lower := ⟨fun _ => rfl, fun _ => rfl, fun _ => rfl, fun _ => id⟩

theorem ok_lower {c : Cue} (h : c.ok) : c.lower.ok := by
  have hlow := h.lifeLow
  have hhigh := h.lifeHigh
  have hexp := h.expiry
  exact { h with
    lifeLow := by change c.release - 86400 + 10 ≤ c.expiry - 86400; omega
    lifeHigh := by change c.expiry - 86400 ≤ c.release - 86400 + 1800; omega
    expiry := by change c.expiry - 86400 ≤ 172799; omega }

theorem cuesOk_lowerCues {s : State} (hs : s.cuesOk) : (lowerCues s).cuesOk := by
  obtain ⟨hq, hn⟩ := (cuesOk_iff s).mp hs
  exact (cuesOk_iff _).mpr ⟨hq.map steady_lower fun _ _ => ok_lower, hn⟩

theorem cuesOk_of_cues {s t : State} (h : t.cues = s.cues) (hs : s.cuesOk) : t.cuesOk :=
  (Evolves.of_cues (b := false) (a := false) h).sound hs

theorem cuesOk_advanceSecond {s : State} (hs : s.cuesOk) : (advanceSecond s).cuesOk := by
  unfold advanceSecond
  simp only
  split
  next => exact cuesOk_lowerCues (cuesOk_of_cues (s := s) rfl hs)
  next => exact cuesOk_of_cues (s := s) rfl hs

/-! ### The operations that set no clock -/

/-- The day number and the service second are those before. -/
def SameDay (s t : State) : Prop := t.time.day = s.time.day ∧ t.time.second = s.time.second

section
variable {s t u : State}

theorem SameDay.refl (s : State) : SameDay s s := ⟨rfl, rfl⟩

theorem SameDay.trans (h : SameDay s t) (k : SameDay t u) : SameDay s u := ⟨k.1.trans h.1, k.2.trans h.2⟩

theorem SameDay.ite {c : Prop} [Decidable c] (h : SameDay s t) (k : SameDay s u) : SameDay s (if c then t else u) := by
  split <;> assumption

theorem SameClockwork.sameDay (h : SameClockwork s t) : SameDay s t := by
  obtain ⟨⟨fs, sy, sp, w, e, ht⟩, -⟩ := h
  exact ⟨by rw [ht], by rw [ht]⟩

theorem sameDay_of_touches {bs : List Block} (h : Touches bs s t) (hbs : bs.contains .time = false) : SameDay s t := by
  have ht : t.time = s.time := h .time (by simpa using hbs)
  exact ⟨by rw [ht], by rw [ht]⟩

end

variable (s : State)

theorem sameDay_setTime (v : TimeBase) (hday : v.day = s.time.day) (hsec : v.second = s.time.second) :
    SameDay s (s.setTime v) := ⟨hday, hsec⟩

theorem sameDay_closeTrim (t16 : Nat) : SameDay s (closeTrim t16 s) := by
  refine .ite (sameDay_setTime s _ rfl rfl) (.ite (.refl s) ?_)
  exact (sameDay_setTime s { s.time with excursion := true } rfl rfl).trans
    (sameDay_of_touches (touches_queueReport _ _) (by decide))

theorem sameDay_trimAtFrameStart : SameDay s (trimAtFrameStart s) := by
  unfold trimAtFrameStart
  split
  next => exact .ite (sameDay_setTime s _ rfl rfl) (.refl s)
  next => exact .ite ((sameDay_closeTrim s _).trans (sameDay_setTime _ _ rfl rfl)) (.refl s)

theorem sameDay_mergeFrameStart : SameDay s (mergeFrameStart s) :=
  .ite (sameDay_setTime s _ rfl rfl) ((sameDay_setTime s
    { s.time with
      tickCount := 0
      frameStarts := s.time.frameStarts + 1
      window := s.time.window.map fun w => { cycles := w.cycles, ticks := w.ticks + s.time.tickCount } } rfl rfl).trans
    (sameDay_trimAtFrameStart _))

theorem sameDay_setDayStart (d : Nat) : SameDay s (setDayStart d s) := .ite (.refl s) (sameDay_setTime s _ rfl rfl)

theorem sameDay_switchBank (held : Option Nat) (gen : Nat) : SameDay s (switchBank held gen s) := by
  unfold switchBank
  split
  next => exact sameDay_of_touches (touches_refuseSwitch s _ _ _) (by decide)
  next =>
    have compared : SameDay s (compareZones (rebaseline (reselectAll (exchangeBanks gen s)))) :=
      (((sameDay_of_touches (touches_setStore s _) (by decide)).trans
        (sameDay_of_touches (touches_reselectAll _) (by decide))).trans
        (sameDay_of_touches (touches_rebaseline _) (by decide))).trans
        (sameDay_of_touches (touches_compareZones _) (by decide))
    have works : SameDay s (switchWorks gen s) :=
      (compared.trans (sameDay_setDayStart _ _)).trans (sameDay_of_touches (touches_queueReport _ _) (by decide))
    rw [acceptSwitch_eq]
    exact works.trans (sameClockwork_completeJoining held _).sameDay

theorem op_sameDay {o : Op} (ho : o.steady = true) : SameDay s (o.run s) := by
  have elsewhere {o : Op} (h : o.blocks.contains .time = false) : SameDay s (o.run s) :=
    sameDay_of_touches (o.touches s) h
  cases o
  case powerOn => cases ho
  case second => cases ho
  case mark held day sec => cases ho
  case generator b => exact sameDay_setTime s _ rfl rfl
  case countTick => exact .ite (.refl s) (sameDay_setTime s _ rfl rfl)
  case setCycle n => exact ⟨rfl, rfl⟩
  case windowClose t16 => exact .ite ((sameDay_closeTrim s _).trans (sameDay_setTime _ _ rfl rfl)) (.refl s)
  case trim => exact sameDay_trimAtFrameStart s
  case mergeStart => exact sameDay_mergeFrameStart s
  case hold =>
    exact (SameClockwork.of_window (holdTick_time s) (touches_holdTick s .store (by decide))).sameDay
  case holdLimit =>
    exact .ite ((sameDay_of_touches (touches_setNode s _) (by decide)).trans (sameClockwork_enterIsolated _).sameDay) (.refl s)
  case commandReset => exact .ite (sameClockwork_resetNode _ s).sameDay (.refl s)
  case breakReset => exact (sameClockwork_breakReset s).sameDay
  case breakTick =>
    exact .ite (.ite (sameClockwork_breakReset s).sameDay (sameDay_of_touches (touches_setChain s _) (by decide))) (.refl s)
  case bankSwitch =>
    change SameDay s (Machine.bankSwitch s)
    unfold Machine.bankSwitch
    split
    next => exact .refl s
    next => exact .ite (sameDay_switchBank s _ _) (.refl s)
  case tableCommit held mode gen cycle =>
    have superseded := sameDay_of_touches (touches_supersede s) (by decide)
    exact .ite (.ite (sameDay_of_touches (touches_reportIfPosition s _ _) (by decide))
      (.ite (superseded.trans (sameDay_switchBank _ _ _))
        (superseded.trans (sameDay_of_touches (touches_setStore _ _) (by decide))))) (.refl s)
  case upSilence =>
    exact .ite (.refl s)
      (.ite (sameClockwork_tellLinkLoss s).sameDay (sameDay_of_touches (touches_setChain s _) (by decide)))
  case linkLoss => exact .ite (.refl s) (sameClockwork_tellLinkLoss s).sameDay
  case position hop => exact (sameClockwork_takePosition hop s).sameDay
  case nodeFrame held => exact (sameClockwork_nodeFrame held s).sameDay
  all_goals exact elsewhere rfl

theorem op_evolves {o : Op} (ho : o.steady = true) (hstore : s.storeOk) (htable : s.tableOk) :
    Evolves false true s (o.run s) := by
  have elsewhere {o : Op} (h : o.blocks.contains .cues = false) : Evolves false true s (o.run s) :=
    .of_touches (o.touches s) h
  cases o
  case powerOn => cases ho
  case second => cases ho
  case mark held day sec => cases ho
  case rules => exact evolves_evaluateAll s (asks_of_ok hstore htable)
  case post mode b => exact evolves_servicePost s hstore htable mode b
  case amend mode b => exact evolves_serviceAmend s hstore htable mode b
  case withdraw mode key => exact evolves_serviceWithdraw s mode key
  case scheduler => exact evolves_schedulerTests s
  case cueRelease i => exact evolves_releaseCue s i
  case cueExpiry i => exact evolves_dropCues s _ _
  case cuePost mode b => exact evolves_cuePost s mode b
  case arbitrate => exact evolves_arbitrate s
  case startSent => exact evolves_startSent s
  case reply k chars => exact evolves_onReply s k chars
  case closeWindow => exact evolves_closeWindow s
  case playLimit i => exact evolves_reachPlayLimit s i
  case lineCycle => exact evolves_lineCycle s
  case lineTick => exact evolves_lineTick s
  case hold => exact evolves_holdTick s
  case holdLimit => exact evolves_reachHoldoverLimit s
  case commandReset => exact .ite (evolves_resetNode s _) (.refl s)
  case breakReset => exact evolves_breakReset s
  case breakTick => exact .ite (.ite (evolves_breakReset s) (evolves_setChain s _)) (.refl s)
  case overrideSet mode b => exact evolves_overrideSet s hstore.valid mode b
  case bankSwitch => exact evolves_bankSwitch s
  case tableCommit held mode gen cycle => exact evolves_tableCommit s held mode gen cycle
  case position hop => exact evolves_takePosition s hop
  all_goals exact elsewhere rfl

/-! ### Time marks (R93 to R98) -/

/-- R98: the tests of a step, before the survivors of a day turn are lowered. -/
def stepTests (cls : StepClass) (oldSec newSec : Int) (s : State) : State :=
  releaseTest newSec (expiryTest newSec
    (if cls = .longStep then
      dropCues (fun c => c.state == .waiting && decide (oldSec < c.release) && decide (c.release ≤ newSec)) .skipped s
    else s))

theorem schedulerStep_eq (cls : StepClass) (oldSec newSec : Int) (crosses : Bool) (s : State) :
    schedulerStep cls oldSec newSec crosses s =
      noZoneCheck (if crosses then lowerCues (stepTests cls oldSec newSec s) else stepTests cls oldSec newSec s) := rfl

theorem evolves_stepTests {b a : Bool} (cls : StepClass) (oldSec newSec : Int) :
    Evolves b a s (stepTests cls oldSec newSec s) :=
  (Evolves.trans (t := if cls = .longStep then _ else s) (.ite (evolves_dropCues s _ _) (.refl s)) (evolves_expiryTest _ _)).trans
    (evolves_releaseTest _ _)

theorem cuesOk_schedulerStep (cls : StepClass) (oldSec newSec : Int) (crosses : Bool) {s : State} (hs : s.cuesOk) :
    (schedulerStep cls oldSec newSec crosses s).cuesOk := by
  have htests := (evolves_stepTests (b := false) (a := false) s cls oldSec newSec).sound hs
  rw [schedulerStep_eq]
  refine (evolves_noZoneCheck (b := false) (a := false) _).sound ?_
  split
  next => exact cuesOk_lowerCues htests
  next => exact htests

/-- R116: no waiting cue behind its expiry passes the tests. -/
theorem waits_of_mem_stepTests {cls : StepClass} {oldSec newSec : Int} {s : State} {c : Cue}
    (hc : c ∈ (stepTests cls oldSec newSec s).cues.queue) (hwaits : c.waits = true) : newSec ≤ c.expiry := by
  obtain ⟨d, hd, rfl⟩ := List.mem_map.mp hc
  rw [expiryTest, dropCues_eq] at hd
  have hkept := List.of_mem_filter hd
  obtain ⟨st, heq⟩ := release?_rest newSec d
  rw [(release?_offLine newSec d).2] at hwaits
  rw [heq]
  simp only [hwaits, Bool.true_and, Bool.not_eq_true', decide_eq_false_iff_not, not_lt] at hkept
  exact hkept

theorem onLine_of_not_waits {c : Cue} (h : c.waits = false) : c.onLine = true := by
  cases hs : c.state <;> simp [Cue.waits, Cue.onLine, hs] at h ⊢

/-- Where a cue stands after a mark that turns the day: among those of the new day, or, on the line, lowered by a day. -/
def Turned (q : List Cue) (c : Cue) : Prop :=
  -1800 ≤ c.release ∨ ∃ d ∈ q, d.onLine = true ∧ c.release = d.release - 86400

/-- R97, R98: a step that crosses the day turn. -/
theorem turned_schedulerStep (cls : StepClass) (oldSec : Int) (newSec : Nat) {s : State} (hs : s.cuesOk) {c : Cue}
    (hc : c ∈ (schedulerStep cls oldSec ((newSec : Int) + 86400) true s).cues.queue) : Turned s.cues.queue c := by
  rw [schedulerStep_eq, noZoneCheck, dropCues_eq] at hc
  obtain ⟨d, hd, rfl⟩ := List.mem_map.mp (List.mem_of_mem_filter hc)
  have htests := evolves_stepTests (b := true) (a := false) s cls oldSec ((newSec : Int) + 86400)
  cases hwaits : d.waits with
  | true =>
    have hexp := waits_of_mem_stepTests hd hwaits
    have hlife := ((htests.sound hs).sound d hd).lifeHigh
    exact .inl (by change -1800 ≤ d.release - 86400; omega)
  | false =>
    rcases htests.descends d hd with ⟨e, he, hrel, hline⟩ | ⟨hask, -⟩
    · exact .inr ⟨e, he, hline rfl (onLine_of_not_waits hwaits), by change d.release - 86400 = _; omega⟩
    · cases hask

theorem dayDifference_one {day newDay : Nat} (hday : newDay < 65536) (h : dayDifference day newDay = 1) :
    newDay = (day + 1) % 65536 := by
  unfold dayDifference at h
  split at h <;> omega

/-- No cue lies before `low`. -/
def Floor (low : Int) (s : State) : Prop := ∀ c ∈ s.cues.queue, low ≤ c.release

theorem Evolves.floor {b a : Bool} {s t : State} (h : Evolves b a s t) {low : Int} (hlow : a = true → low ≤ -1800)
    (hs : Floor low s) : Floor low t := by
  intro c hc
  rcases h.descends c hc with ⟨d, hd, hrel, -⟩ | ⟨hask, hnew, -⟩
  · rw [hrel]
    exact hs d hd
  · exact (hlow hask).trans hnew

/-- The step of a mark lowers no cue, or it turns the day by one. -/
structure MarkStep (s t : State) : Prop where
  sound : t.cuesOk
  moves : (∀ low, low ≤ -1800 → Floor low s → Floor low t) ∨
    (t.time.day = (s.time.day + 1) % 65536 ∧ ∀ c ∈ t.cues.queue, Turned s.cues.queue c)

theorem MarkStep.of_evolves {s t : State} (hs : s.cuesOk) (h : Evolves false true s t) : MarkStep s t :=
  ⟨h.sound hs, .inl fun _ hlow => h.floor fun _ => hlow⟩

theorem asks_of_touches {bs : List Block} {s t : State} (h : Touches bs s t)
    (hbs : bs.contains .store = false ∧ bs.contains .table = false) (hs : Asks s) : Asks t := by
  refine ⟨valid_of_touches h hbs.1 hs.valid, ?_⟩
  rw [show t.table = s.table from h .table (by simpa using hbs.2)]
  exact hs.phrases

theorem asks_retireWhere (p : ServiceRecord → Bool) {s : State} (hs : Asks s) : Asks (retireWhere p s) := by
  refine ⟨valid_of_touches (touches_retireWhere s p) (by decide) hs.valid, fun r hr => ?_⟩
  rw [retireWhere_table] at hr
  exact hs.phrases r (List.mem_of_mem_filter hr)

theorem asks_turnTable {s : State} (hs : Asks s) : Asks (turnTable s) := by
  refine ⟨valid_of_touches (touches_turnTable s) (by decide) hs.valid, fun r hr => ?_⟩
  rw [table_turnTable] at hr
  obtain ⟨q, hq, rfl⟩ := List.mem_map.mp hr
  exact hs.phrases q (List.mem_of_mem_filter hq)

/-- R97, R98: what a forward step does once the cues are settled, at the new second. -/
theorem evolves_afterStep {b : Bool} (day sec : Nat) (hs : Asks s) :
    Evolves b true s (evaluateAll (retireRecords (setClock day sec s))) :=
  ((Evolves.of_touches (touches_setClock s day sec) (by decide)).trans
    (.of_touches (touches_retireRecords _) (by decide))).trans
    (evolves_evaluateAll _ (asks_retireWhere _ (asks_of_touches (touches_setClock s day sec) (by decide) hs)))

theorem markStep_forward (cls : StepClass) {day sec : Nat} (hday : day < 65536) {s : State} (hasks : Asks s)
    (hs : s.cuesOk) : MarkStep s (forwardStep cls day sec s) := by
  have hreport : Asks (queueReport (.clockStep cls (markStep s.time day sec)) s) :=
    asks_of_touches (touches_queueReport s _) (by decide) hasks
  unfold forwardStep
  simp only
  by_cases hcross : dayDifference s.time.day day = 1
  · simp only [hcross, decide_true, if_true]
    have hturned : (turnTable (queueReport (.clockStep cls (markStep s.time day sec)) s)).cues = s.cues :=
      (((touches_queueReport s _).mono (by decide)).trans (touches_turnTable _)) .cues (by decide)
    generalize hu : turnTable (queueReport (.clockStep cls (markStep s.time day sec)) s) = u at hturned
    have husk : Asks u := hu ▸ asks_turnTable hreport
    have husound : u.cuesOk := cuesOk_of_cues hturned hs
    have hafter (b : Bool) := evolves_afterStep (b := b)
      (schedulerStep cls s.time.second ((sec : Int) + 86400) true u) day sec
      (asks_of_touches (touches_schedulerStep u cls s.time.second ((sec : Int) + 86400) true) (by decide) husk)
    refine ⟨(hafter false).sound (cuesOk_schedulerStep _ _ _ _ husound), .inr ⟨?_, fun c hc => ?_⟩⟩
    · have htime : Touches [.table, .cues, .node] (setClock day sec _) (evaluateAll (retireRecords (setClock day sec
          (schedulerStep cls s.time.second ((sec : Int) + 86400) true u)))) :=
        ((touches_retireRecords _).mono (by decide)).trans (touches_evaluateAll _)
      rw [show (evaluateAll _).time = _ from htime .time (by decide)]
      exact dayDifference_one hday hcross
    · rcases (hafter true).descends c hc with ⟨d, hd, hrel, -⟩ | ⟨-, hnew, -⟩
      · have hd := turned_schedulerStep cls s.time.second sec husound hd
        rw [hturned] at hd
        rcases hd with hlow | ⟨e, he, hline, herel⟩
        · exact .inl (hrel ▸ hlow)
        · exact .inr ⟨e, he, hline, hrel.trans herel⟩
      · exact .inl hnew
  · simp only [hcross, decide_false, Bool.false_eq_true, if_false]
    refine .of_evolves hs (Evolves.trans (t := schedulerStep cls s.time.second sec false _) ?_
      (evolves_afterStep _ day sec ?_))
    · rw [schedulerStep_eq]
      exact ((evolves_queueReport s _).trans (evolves_stepTests _ _ _ _)).trans (evolves_noZoneCheck _)
    · exact asks_of_touches (touches_schedulerStep _ _ _ _ _) (by decide) hreport

theorem markStep_takeMark (held : Option Nat) {day sec : Nat} (hday : day < 65536) {s : State} (hasks : Asks s)
    (hs : s.cuesOk) : MarkStep s (takeMark held day sec s) := by
  have hset : Evolves false true s (setClock day sec s) := .of_touches (touches_setClock s day sec) (by decide)
  have keeps {t : State} (h : Evolves false true s t) : MarkStep s t := .of_evolves hs h
  unfold takeMark
  split_ifs
  · exact keeps (hset.trans (.of_touches (touches_completeJoining _ _) (by decide)))
  · split
    next => exact keeps (.refl s)
    next => exact keeps ((hset.trans (evolves_queueReport _ _)).trans (evolves_flushNode _))
    next =>
      refine keeps (((hset.trans (evolves_queueReport _ _)).trans (evolves_clearHolds _)).trans (evolves_evaluateAll _ ?_))
      exact asks_of_touches (((touches_setClock s day sec).mono (by decide)).trans
        (((touches_queueReport _ _).mono (by decide)).trans ((touches_clearHolds _).mono (by decide))) :
          Touches [.time, .node, .cues] _ _) (by decide) hasks
    next => exact markStep_forward _ hday hasks hs
    next => exact markStep_forward _ hday hasks hs
  · exact keeps (.refl s)

theorem op_keeps_cuesOk {o : Op} (ho : o.inRange) (hstore : s.storeOk) (htable : s.tableOk) (hs : s.cuesOk) :
    (o.run s).cuesOk := by
  by_cases hsteady : o.steady = true
  · exact (op_evolves s hsteady hstore htable).sound hs
  · cases o
    case powerOn => exact (Evolves.of_nil (s := s) (b := false) (a := false) rfl (Nat.zero_lt_succ 255)).sound hs
    case second => exact cuesOk_advanceSecond hs
    case mark held day sec => exact (markStep_takeMark held ho (asks_of_ok hstore htable) hs).sound
    all_goals exact absurd rfl hsteady

end Sys2Proof.Laws
end

section
/-! SUPPORT. How far back the cues of a step's end may lie (R108, R116). -/

namespace Sys2Proof.Laws

open Sys2Proof Sys2Proof.Machine

/-- The invariants that the cue queue leans on, and its own. -/
structure Sound (s : State) : Prop where
  store : s.storeOk
  table : s.tableOk
  cues : s.cuesOk

theorem op_keeps_sound {o : Op} (ho : o.inRange) {s : State} (hs : Sound s) : Sound (o.run s) :=
  ⟨op_keeps_storeOk o s hs.store, op_keeps_tableOk o s hs.store hs.table, op_keeps_cuesOk s ho hs.store hs.table hs.cues⟩

theorem RunsOf.sound {p : Op → Bool} {s t : State} (h : RunsOf p s t) (hs : Sound s) : Sound t :=
  h.keeps (fun _ _ _ ho => op_keeps_sound ho) hs

theorem sound_setPending {s : State} (v : List Instr) (hs : Sound s) : Sound (s.setPending v) :=
  ⟨storeOk_of_store (s := s) rfl hs.store, tableOk_of_same (s := s) rfl rfl hs.table, cuesOk_of_cues (s := s) rfl hs.cues⟩

theorem Floor.mono {low low' : Int} {s : State} (h : Floor low s) (hle : low' ≤ low) : Floor low' s :=
  fun c hc => hle.trans (h c hc)

/-- A run that sets no clock keeps a floor of a day before. -/
theorem drift_floor {s t : State} (h : Drift s t) (hs : Sound s) (hf : Floor (-86400) s) : Floor (-86400) t :=
  (h.keeps (P := fun u => Sound u ∧ Floor (-86400) u)
    (fun _ u hsteady ho hu => ⟨op_keeps_sound ho hu.1,
      (op_evolves u hsteady hu.1.store hu.1.table).floor (fun _ => by decide) hu.2⟩) ⟨hs, hf⟩).2

theorem drift_day {s t : State} (h : Drift s t) : t.time.day = s.time.day :=
  h.keeps (P := fun u => u.time.day = s.time.day) (fun _ u hsteady _ hu => (op_sameDay u hsteady).1.trans hu) rfl

/-! ### A second at most -/

/-- R116: a step that begins here may turn the day and leave no cue more than a day back. -/
def Ready (s : State) : Prop := Floor 0 s ∨ (s.time.second ≠ 86399 ∧ Floor (-86400) s)

theorem Ready.floor {s : State} (h : Ready s) : Floor (-86400) s := by
  rcases h with h | ⟨-, h⟩
  · exact h.mono (by decide)
  · exact h

/-- What asks for no cue and sets no clock. -/
structure Quiet (s t : State) : Prop where
  evolves : Evolves false false s t
  sameDay : SameDay s t

theorem Quiet.trans {s t u : State} (h : Quiet s t) (k : Quiet t u) : Quiet s u :=
  ⟨h.evolves.trans k.evolves, h.sameDay.trans k.sameDay⟩

theorem Quiet.floor {s t : State} (h : Quiet s t) {low : Int} (hs : Floor low s) : Floor low t :=
  h.evolves.floor nofun hs

theorem Quiet.ready {s t : State} (h : Quiet s t) (hs : Ready s) : Ready t := by
  rcases hs with hs | ⟨hsec, hs⟩
  · exact .inl (h.floor hs)
  · exact .inr ⟨by rwa [h.sameDay.2], h.floor hs⟩

theorem quiet_of_cues {s t : State} (h : t.cues = s.cues) (hday : SameDay s t) : Quiet s t := ⟨.of_cues h, hday⟩

theorem quiet_of_op {o : Op} (ho : o.steady = true) (hc : o.blocks.contains .cues = false) (s : State) : Quiet s (o.run s) :=
  ⟨.of_touches (o.touches s) hc, op_sameDay s ho⟩

theorem turnsDay_iff (t : TimeBase) : t.turnsDay = true ↔ t.second = 86399 := by simp [TimeBase.turnsDay]

theorem advanceSecond_quiet {s : State} (h : s.time.second ≠ 86399) :
    (advanceSecond s).cues = s.cues ∧ (advanceSecond s).time.day = s.time.day := by
  have hturn : s.time.turnsDay = false := Bool.eq_false_iff.mpr fun ht => h ((turnsDay_iff _).mp ht)
  simp [advanceSecond, TimeBase.tickSecond, hturn]

theorem advanceSecond_turn {s : State} (h : s.time.second = 86399) :
    (advanceSecond s).cues.queue = s.cues.queue.map Cue.lower ∧
      (advanceSecond s).time.day = (s.time.day + 1) % 65536 := by
  have hturn : s.time.turnsDay = true := (turnsDay_iff _).mpr h
  simp [advanceSecond, TimeBase.tickSecond, hturn, lowerCues]

theorem floor_lowered {s t : State} (h : t.cues.queue = s.cues.queue.map Cue.lower) {low : Int} (hs : Floor low s) :
    Floor (low - 86400) t := by
  intro c hc
  rw [h] at hc
  obtain ⟨d, hd, rfl⟩ := List.mem_map.mp hc
  have := hs d hd
  change low - 86400 ≤ d.release - 86400
  omega

theorem floor_of_cues {s t : State} (h : t.cues = s.cues) {low : Int} (hs : Floor low s) : Floor low t := by
  intro c hc
  rw [h] at hc
  exact hs c hc

theorem Ready.second {s : State} (h : Ready s) : Floor (-86400) (advanceSecond s) := by
  by_cases hsec : s.time.second = 86399
  · rcases h with h | ⟨hno, -⟩
    · exact (floor_lowered (advanceSecond_turn hsec).1 h).mono (by decide)
    · exact absurd hsec hno
  · exact floor_of_cues (advanceSecond_quiet hsec).1 h.floor

theorem ready_startCycle (boundary : Bool) {s : State} (hs : Sound s) (h : Ready s) : Floor (-86400) (startCycle boundary s) := by
  have hgen : Ready (generatorStart boundary s) := (quiet_of_op (o := .generator boundary) rfl rfl s).ready h
  refine drift_floor (drift_startCycle boundary s) ((runs_clockStart boundary s).sound hs) ?_
  unfold clockStart
  split
  next => exact hgen.second
  next => exact hgen.floor

theorem quiet_breakTick (s : State) : Quiet s (breakTick s) :=
  ⟨.ite (.ite (evolves_breakReset s) (evolves_setChain s _)) (.refl s), op_sameDay s (o := .breakTick) rfl⟩

theorem quiet_lineTick (s : State) : Quiet s (lineTick s) := ⟨evolves_lineTick s, op_sameDay s (o := .lineTick) rfl⟩

theorem ready_referenceTick {s : State} (hs : Sound s) (h : Ready s) : Floor (-86400) (referenceTick s) := by
  have hquiet : Quiet s (lineTick (breakTick (upTick s))) :=
    ((quiet_of_op (o := .upTick) rfl rfl s).trans (quiet_breakTick _)).trans (quiet_lineTick _)
  have hsound : Sound (lineTick (breakTick (upTick s))) :=
    op_keeps_sound (o := .lineTick) trivial (op_keeps_sound (o := .breakTick) trivial (op_keeps_sound (o := .upTick) trivial hs))
  have hready := hquiet.ready h
  unfold referenceTick cycleTick
  split
  next => exact ready_startCycle true hsound hready
  next => exact floor_of_cues rfl hready.floor

theorem ready_idleStep {s : State} (hs : Sound s) (h : Ready s) : Floor (-86400) (idleStep s) := by
  unfold idleStep
  split
  next => exact drift_floor (Op.drift (o := .powerUpEnd) rfl trivial s) hs h.floor
  next =>
    split
    next => exact drift_floor (Op.drift (o := .arbitrate) rfl trivial s) hs h.floor
    next => exact ready_referenceTick hs h

theorem ready_frameStart {s : State} (hs : Sound s) (h : Ready s) : Floor (-86400) (frameStart s) := by
  have hhear : Quiet s (s.setChain { s.chain with upSilence := 0 }) := quiet_of_op (o := .hear) rfl rfl s
  have hsound : Sound (s.setChain { s.chain with upSilence := 0 }) := op_keeps_sound (o := .hear) trivial hs
  have hready := hhear.ready h
  unfold frameStart
  split
  next => exact h.floor
  next =>
    simp only
    split
    next => exact drift_floor (Op.drift (o := .mergeStart) rfl trivial _) hsound hready.floor
    next => exact ready_startCycle false hsound hready

theorem ready_secondTick {s : State} (hs : Sound s) (h : Ready s) : Floor (-86400) (secondTick s) :=
  drift_floor (drift_secondTick s) (op_keeps_sound (o := .second) trivial hs) h.second

theorem ready_dayTurn {s : State} (hs : Sound s) (h : Ready s) : Floor (-86400) (dayTurn s) := by
  unfold dayTurn
  split
  next =>
    exact drift_floor (Op.drift (o := .turnTable) rfl trivial _) (op_keeps_sound (o := .second) trivial hs) h.second
  next => exact h.floor

/-! ### A frame: a second at most, then a mark at most -/

/-- No cue on the line lies before `low`. -/
def LineFloor (low : Int) (s : State) : Prop := ∀ c ∈ s.cues.queue, c.onLine = true → low ≤ c.release

/-- Where the works of a second tick stand: nothing has come onto the line. -/
theorem tickWork_evolves (w : CycleWork) {s : State} (hs : Sound s) :
    Sound (tickWork w s) ∧ Evolves true true s (tickWork w s) ∧ SameDay s (tickWork w s) := by
  have day := (SameClockwork.of_window (tickWork_time w s) (touches_tickWork s w .store (by decide))).sameDay
  have op (o : Op) (ho : o.inRange) := op_keeps_sound ho hs
  cases w
  case age turn => exact ⟨op (.age turn) trivial, .of_touches (touches_ageTable s turn) (by decide), day⟩
  case retire => exact ⟨op (.retireWhere _) trivial, .of_touches (touches_retireRecords s) (by decide), day⟩
  case rules => exact ⟨op .rules trivial, evolves_evaluateAll s (asks_of_ok hs.store hs.table), day⟩
  case scheduler => exact ⟨op .scheduler trivial, evolves_schedulerTests s, day⟩
  case hold => exact ⟨op .hold trivial, evolves_holdTick s, day⟩
  all_goals exact ⟨hs, .refl s, day⟩

theorem tickWorks_evolve (works : List CycleWork) {s : State} (hs : Sound s) :
    Evolves true true s (works.foldl (fun st w => tickWork w st) s) ∧
      SameDay s (works.foldl (fun st w => tickWork w st) s) := by
  induction works generalizing s with
  | nil => exact ⟨.refl s, .refl s⟩
  | cons w ws ih =>
    obtain ⟨hsound, hev, hday⟩ := tickWork_evolves w hs
    obtain ⟨hevs, hdays⟩ := ih hsound
    exact ⟨hev.trans hevs, hday.trans hdays⟩

theorem secondTick_evolves {s : State} (hs : Sound s) :
    Evolves true true (advanceSecond s) (secondTick s) ∧ SameDay (advanceSecond s) (secondTick s) := by
  have hfree : Sound (countFree (advanceSecond s)) :=
    op_keeps_sound (o := .countFree) trivial (op_keeps_sound (o := .second) trivial hs)
  obtain ⟨hev, hday⟩ := tickWorks_evolve (tickOrder s.free s.time.turnsDay) hfree
  have hcount : Evolves true true (advanceSecond s) (countFree (advanceSecond s)) := .of_cues rfl
  exact ⟨hcount.trans hev, SameDay.trans (t := countFree (advanceSecond s)) ⟨rfl, rfl⟩ hday⟩

theorem correctCycle_cases (n : Nat) (s : State) :
    correctCycle n s = s ∨ correctCycle n s = takeCycle n s ∨ correctCycle n s = secondTick (takeCycle n s) := by
  unfold correctCycle
  split
  next => exact .inl rfl
  next =>
    simp only
    split
    next => exact .inr (.inr rfl)
    next => exact .inr (.inl rfl)

/-- Before the mark of a frame: either the day of `s` still, or the next day. -/
structure BeforeMark (s t : State) : Prop where
  recent : s.time.second ≠ 86399 → Floor (-86400) s → Floor (-86400) t ∧ t.time.day = s.time.day
  ahead : Floor 0 s → (t.time.day = s.time.day ∧ Floor (-1800) t ∧ LineFloor 0 t) ∨
    (t.time.day = (s.time.day + 1) % 65536 ∧ Floor (-86400) t)

theorem BeforeMark.of_quiet {s t : State} (h : Quiet s t) : BeforeMark s t :=
  ⟨fun _ hf => ⟨h.floor hf, h.sameDay.1⟩, fun hf =>
    have hft := h.floor hf
    .inl ⟨h.sameDay.1, hft.mono (by decide), fun c hc _ => hft c hc⟩⟩

theorem BeforeMark.after_quiet {s t u : State} (h : Quiet s t) (k : BeforeMark t u) : BeforeMark s u := by
  refine ⟨fun hsec hf => ?_, fun hf => ?_⟩
  · rw [← h.sameDay.1]
    exact k.recent (by rwa [h.sameDay.2]) (h.floor hf)
  · rw [← h.sameDay.1]
    exact k.ahead (h.floor hf)

theorem Evolves.lineFloor {a : Bool} {s t : State} (h : Evolves true a s t) {low : Int} (hs : LineFloor low s) :
    LineFloor low t := by
  intro c hc hon
  rcases h.descends c hc with ⟨d, hd, hrel, hline⟩ | ⟨-, -, hoff⟩
  · rw [hrel]
    exact hs d hd (hline rfl hon)
  · exact absurd ((hoff rfl).symm.trans hon) (by decide)

theorem beforeMark_secondTick {s : State} (hs : Sound s) : BeforeMark s (secondTick s) := by
  obtain ⟨hev, hday, -⟩ := secondTick_evolves hs
  by_cases hsec : s.time.second = 86399
  · refine ⟨fun hno => absurd hsec hno, fun hf => .inr ?_⟩
    obtain ⟨hqueue, hnext⟩ := advanceSecond_turn hsec
    exact ⟨hday.trans hnext, hev.floor (fun _ => by decide) ((floor_lowered hqueue hf).mono (by decide))⟩
  · obtain ⟨hcues, hsame⟩ := advanceSecond_quiet hsec
    refine ⟨fun _ hf => ⟨hev.floor (fun _ => by decide) (floor_of_cues hcues hf), hday.trans hsame⟩, fun hf => .inl ?_⟩
    have hf : Floor 0 (advanceSecond s) := floor_of_cues hcues hf
    exact ⟨hday.trans hsame, hev.floor (fun _ => by decide) (hf.mono (by decide)), hev.lineFloor fun c hc _ => hf c hc⟩

theorem beforeMark_correctCycle {n : Nat} (hn : n < 64) {s : State} (hs : Sound s) : BeforeMark s (correctCycle n s) := by
  have htake : Quiet s (takeCycle n s) := quiet_of_op (o := .setCycle n) rfl rfl s
  rcases correctCycle_cases n s with h | h | h
  all_goals rw [h]
  · exact .of_quiet ⟨.refl s, .refl s⟩
  · exact .of_quiet htake
  · exact .after_quiet htake (beforeMark_secondTick (op_keeps_sound (o := .setCycle n) hn hs))

/-- What a step leaves of the floor: a day back, but where the clock says more. -/
structure StepFloor (s t : State) : Prop where
  recent : s.time.second ≠ 86399 → Floor (-86400) s → Floor (-86400) t ∨ t.time.day = (s.time.day + 1) % 65536
  ahead : Floor 0 s → Floor (-86400) t ∨ t.time.day = ((s.time.day + 1) % 65536 + 1) % 65536

theorem StepFloor.of_ready {s t : State} (h : Ready s → Floor (-86400) t) : StepFloor s t :=
  ⟨fun hsec hf => .inl (h (.inr ⟨hsec, hf⟩)), fun hf => .inl (h (.inl hf))⟩

theorem StepFloor.of_before {s t : State} (h : BeforeMark s t) : StepFloor s t := by
  refine ⟨fun hsec hf => .inl (h.recent hsec hf).1, fun hf => .inl ?_⟩
  rcases h.ahead hf with ⟨-, hlow, -⟩ | ⟨-, hlow⟩
  · exact hlow.mono (by decide)
  · exact hlow

theorem StepFloor.of_mark {s t u : State} (h : BeforeMark s t) (k : MarkStep t u) : StepFloor s u := by
  refine ⟨fun hsec hf => ?_, fun hf => ?_⟩
  · obtain ⟨hlow, hday⟩ := h.recent hsec hf
    rcases k.moves with hkeep | ⟨hnext, -⟩
    · exact .inl (hkeep _ (by decide) hlow)
    · exact .inr (hday ▸ hnext)
  · rcases k.moves with hkeep | ⟨hnext, hturned⟩
    · refine .inl (hkeep _ (by decide) ?_)
      rcases h.ahead hf with ⟨-, hlow, -⟩ | ⟨-, hlow⟩
      · exact hlow.mono (by decide)
      · exact hlow
    · rcases h.ahead hf with ⟨-, -, hline⟩ | ⟨hday, -⟩
      · refine .inl fun c hc => ?_
        rcases hturned c hc with hlow | ⟨d, hd, hon, hrel⟩
        · omega
        · have := hline d hd hon
          omega
      · exact .inr (by rw [hnext, hday])

theorem StepFloor.drift {s t u : State} (h : StepFloor s t) (ht : Sound t) (k : Drift t u) : StepFloor s u := by
  have hday := drift_day k
  refine ⟨fun hsec hf => ?_, fun hf => ?_⟩
  · exact (h.recent hsec hf).imp (drift_floor k ht) hday.trans
  · exact (h.ahead hf).imp (drift_floor k ht) hday.trans

theorem StepFloor.after_quiet {s t u : State} (h : Quiet s t) (k : StepFloor t u) : StepFloor s u := by
  refine ⟨fun hsec hf => ?_, fun hf => ?_⟩
  · rw [← h.sameDay.1]
    exact k.recent (by rwa [h.sameDay.2]) (h.floor hf)
  · rw [← h.sameDay.1]
    exact k.ahead (h.floor hf)

theorem quiet_takePosition (hop : Nat) (s : State) : Quiet s (takePosition hop s) :=
  ⟨evolves_takePosition s hop, op_sameDay s (o := .position hop) rfl⟩

theorem stepFloor_takeFrame {f : ParsedFrame} (hf : HeaderInRange f) {s : State} (hs : Sound s) :
    StepFloor s (takeFrame f s) := by
  have hstart : Quiet s (nodeFrame s.chain.position (takePosition f.hop s)) :=
    (quiet_takePosition f.hop s).trans (quiet_of_op (o := .nodeFrame s.chain.position) rfl rfl _)
  have hsound : Sound (nodeFrame s.chain.position (takePosition f.hop s)) :=
    op_keeps_sound (o := .nodeFrame _) trivial (op_keeps_sound (o := .position f.hop) hf.hop hs)
  have hbefore := BeforeMark.after_quiet hstart (beforeMark_correctCycle hf.cycle hsound)
  have hcorrected := (runs_correctCycle hf.cycle _).sound hsound
  have hheader : StepFloor s (takeHeader f s) := by
    have grant (u : State) : Drift u (u.setChain { u.chain with grant := f.grant }) :=
      Op.drift (o := .setGrant f.grant) rfl hf.grant u
    unfold takeHeader
    simp only
    split
    next => exact (StepFloor.of_before hbefore).drift hcorrected (grant _)
    next day sec hmark =>
      have hmarked := markStep_takeMark s.chain.position (sec := sec) (hf.day day sec hmark)
        (asks_of_ok hcorrected.store hcorrected.table) hcorrected.cues
      exact (StepFloor.of_mark hbefore hmarked).drift
        (op_keeps_sound (o := .mark _ day sec) (hf.day day sec hmark) hcorrected) (grant _)
  exact hheader.drift ((runs_takeHeader hf s).sound hs) (drift_takeFrame f s)

theorem stepFloor_receiveFrame (bs : List Byte) {s : State} (hs : Sound s) : StepFloor s (receiveFrame bs s) := by
  have hforward : Quiet s (forward bs s) := quiet_of_op (o := .forward bs) rfl rfl s
  have hsound : Sound (forward bs s) := op_keeps_sound (o := .forward bs) trivial hs
  unfold receiveFrame
  split
  next => exact .of_ready Ready.floor
  next =>
    split
    next => exact .of_ready fun h => floor_of_cues rfl (hforward.ready h).floor
    next f hf => exact .after_quiet hforward (stepFloor_takeFrame (parseFrame_inRange hf) hsound)

theorem stepFloor_step {s t : State} (hs : Sound s) (h : step s = .next t) : StepFloor s t := by
  unfold step at h
  split at h
  next =>
    cases h
    exact .of_ready (ready_idleStep hs)
  next c rest hpending =>
    clear hpending
    have hsound := sound_setPending rest hs
    have hquiet : Quiet s (s.setPending rest) := quiet_of_cues rfl ⟨rfl, rfl⟩
    refine .after_quiet hquiet ?_
    by_cases hc : setsClock c = false
    · obtain ⟨u, hu, hdrift⟩ := exec_drift c (s.setPending rest) hc
      rw [h] at hu
      cases hu
      exact .of_ready fun hr => drift_floor hdrift hsound hr.floor
    · cases c
      case powerOn => cases h; exact .of_ready fun _ c hc => absurd hc List.not_mem_nil
      case ownCycleBoundary => cases h; exact .of_ready (ready_startCycle true hsound)
      case frameStart => cases h; exact .of_ready (ready_frameStart hsound)
      case frame bs => cases h; exact stepFloor_receiveFrame bs hsound
      case secondTick => cases h; exact .of_ready (ready_secondTick hsound)
      case dayTurn => cases h; exact .of_ready (ready_dayTurn hsound)
      all_goals exact absurd rfl hc

/-- R108: in a sound queue the expiries lie after the releases. -/
theorem cuesRecent_of_floor {s : State} (hs : s.cuesOk) (h : Floor (-86400) s) : s.cuesRecent := by
  intro c hc
  have hlow := h c hc
  have hlife := (hs.sound c hc).lifeLow
  omega

/-- Settles O7: every operation keeps the queue sound, and what lowers the cues turns the day. -/
theorem stepKeepsCueQueue : Obligations.StepKeepsCueQueue := by
  intro s t hstore htable hcues hstep
  have hs : Sound s := ⟨hstore, htable, hcues⟩
  have hfloor := stepFloor_step hs hstep
  have ht : t.cuesOk :=
    (step_keeps (P := Sound) (fun _ v h => sound_setPending v h) (fun _ _ ho => op_keeps_sound ho) hstep hs).cues
  refine ⟨ht, fun hsec hday hrecent => ?_, fun hday hahead => ?_⟩
  · refine cuesRecent_of_floor ht ((hfloor.recent hsec fun c hc => (hrecent c hc).1).resolve_right fun hnext => ?_)
    omega
  · refine cuesRecent_of_floor ht ((hfloor.ahead hahead).resolve_right fun hnext => ?_)
    omega

end Sys2Proof.Laws
end

section
/-! SUPPORT. The service list unit's own events, withdrawal, NOTICE SET and refused service messages (R6 to R8, R19 to R22,
R69). -/

namespace Sys2Proof.Laws

open Sys2Proof Sys2Proof.Machine

/-! ### Retirement and the day turn (R20 to R22) -/

/-- R21, R22: the records retired leave, and each watched one has its report. -/
theorem retireWhere_eq (p : ServiceRecord → Bool) (s : State) :
    retireWhere p s =
      (s.setTable (s.table.filter fun r => !p r)).setNode
        (nodeAfterReports
          ((s.table.filter fun r => p r && s.node.watch.contains r.key).map fun r => .watch .retired r.summary) s.node) := by
  rw [retireWhere, watchReports_eq, List.filter_filter]
  simp only [Bool.and_comm]
  rfl

/-- Settles O43: both events act on the records of their key alone, and only a retirement reports. -/
theorem attentionExpiresAndRecordsRetire : Obligations.AttentionExpiresAndRecordsRetire := by
  intro s key
  constructor
  · have hpoint : (fun r : ServiceRecord => if r.key == key && r.attention == 1 then clearRecordAttention r else r) =
        fun r => if r.key = key ∧ r.attention = 1 then { r with attention := 0, previous := none } else r := by
      funext r
      simp [clearRecordAttention]
    change Host.Outcome.next (s.setTable (s.table.map _)) = _
    rw [hpoint]
    rfl
  · change Host.Outcome.next (retireWhere _ s) = _
    rw [retireWhere_eq]
    simp only [retires, Int.neg_mul]
    rfl

theorem advanceSecond_of_turn {s : State} (h : s.time.second = 86399) :
    advanceSecond s =
      (s.setTime { s.time with clock := s.time.clock.nextSecond, second := 0, day := (s.time.day + 1) % 65536 }).setCues
        { s.cues with queue := s.cues.queue.map Cue.lower } := by
  simp [advanceSecond, lowerCues, TimeBase.tickSecond, TimeBase.turnsDay, h]

/-- R22: the records of the day before leave, each watched one with its report, and the others are lowered. -/
theorem turnTable_eq (s : State) :
    turnTable s =
      (s.setTable ((s.table.filter fun r => decide (0 ≤ r.sm)).map lowerRecord)).setNode
        (nodeAfterReports
          ((s.table.filter fun r => decide (r.sm < 0) && s.node.watch.contains r.key).map fun r => .watch .retired r.summary)
          s.node) := by
  have hstay : (s.table.filter fun r => !decide (r.sm < 0)) = s.table.filter fun r => decide (0 ≤ r.sm) :=
    List.filter_congr fun r _ => by rw [← decide_not]; exact decide_eq_decide.mpr not_lt
  rw [turnTable, retireWhere_eq, hstay]
  rfl

/-- Settles O28: at the day turn the clock and the cues move with `advanceSecond`, and `turnTable` does the rest. -/
theorem dayTurnLowersTableAndCues : Obligations.DayTurnLowersTableAndCues := by
  intro s
  constructor
  · intro hsec
    have hturn : s.time.turnsDay = true := by simp [TimeBase.turnsDay, hsec]
    have hclock (hok : s.timeOk) : s.time.clock.nextSecond = civilClock s.bank.params.dayStart 0 := by
      have h := tickSecond_clock hok
      rwa [TimeBase.tickSecond, hturn] at h
    refine ⟨turnTable (advanceSecond s), by rw [exec, execDayTurn, dayTurn, if_pos hturn], ?_⟩
    rw [turnTable_eq, advanceSecond_of_turn hsec]
    exact ⟨rfl, rfl, hclock, rfl, rfl, rfl, rfl, rfl, rfl, rfl, rfl, rfl⟩
  · intro hsec
    have hturn : ¬ s.time.turnsDay = true := by simp [TimeBase.turnsDay, hsec]
    rw [exec, execDayTurn, dayTurn, if_neg hturn]

/-! ### Withdrawal, refusals and LEFT SELECTION (R6 to R8, R12, R19) -/

theorem dropKey_eq (key : Nat) (reason : DropReason) (s : State) :
    dropKey key reason s =
      (s.setCues { s.cues with queue := s.cues.queue.filter fun c => !(c.key == key && c.waits) }).setNode
        (nodeAfterReports ((s.cues.queue.filter fun c => c.key == key && c.waits).map (Cue.dropReport reason)) s.node) :=
  dropCues_eq _ _ s

theorem key_of_findRecord {s : State} {key : Nat} {r : ServiceRecord} (h : s.findRecord key = some r) : r.key = key :=
  (mem_of_findRecord h).2

/-- Settles O42: the record and its waiting cues go, in this order, and then the WATCH report follows. -/
theorem withdrawDropsRecordAndItsCues : Obligations.WithdrawDropsRecordAndItsCues := by
  intro s mode key r hrun hfind
  have hkey := key_of_findRecord hfind
  change Host.Outcome.next (serviceWithdraw mode key s) = _
  simp only [serviceWithdraw, hrun, if_true, hfind]
  rw [dropKey_eq, watchReport_eq, hkey, nodeAfterReports_append]
  simp only [State.setNode_node, nodeAfterReports_watch]
  rfl

/-- R8: a record that leaves by LEFT SELECTION, with its report and, watched, its WATCH report. -/
theorem leaveSelection_eq (r : ServiceRecord) (s : State) :
    leaveSelection r s =
      s.setNode
        (nodeAfterReports
          (if r.key ∈ s.node.watch then [.leftSelection r.key, .watch .leftSelection r.summary] else [.leftSelection r.key])
          s.node) := by
  rw [leaveSelection, watchReport_eq, queueReport_eq]
  by_cases h : r.key ∈ s.node.watch
  · simp [h, ← nodeAfterReports_append]
  · simp [h]

/-- Settles O37: a refusal reports to its sender alone; LEFT SELECTION takes the record out first. -/
theorem serviceMessagesRefusedOrIgnored : Obligations.ServiceMessagesRefusedOrIgnored := by
  intro s mode b a key
  refine ⟨fun hstate => ?_, fun hrun => ⟨fun hbad => ?_, fun habsent => ?_, fun habsent => ?_,
    fun hbad hsel => ⟨fun habsent => ?_, fun old hold => ?_⟩⟩⟩
  · simp [exec, execServicePost, servicePost, execServiceAmend, serviceAmend, execServiceWithdraw, serviceWithdraw, hstate]
  · have hbad' : postBad b = true := by simpa [postBad, or_assoc] using hbad
    simp only [exec, execServicePost, servicePost, hrun, hbad', if_true, reportIfPosition_eq]
    rfl
  · simp only [exec, execServiceAmend, serviceAmend, hrun, if_true, findRecord_eq_none habsent, reportIfPosition_eq]
    rfl
  · simp only [exec, execServiceWithdraw, serviceWithdraw, hrun, if_true, findRecord_eq_none habsent, reportIfPosition_eq]
    rfl
  · simp [exec, execServicePost, servicePost, hrun, hbad, hsel, findRecord_eq_none habsent]
  · simp only [exec, execServicePost, servicePost, hrun, hbad, hsel, hold, if_true, leaveSelection_eq]
    rfl

/-! ### Standing notices (R69) -/

theorem noticeBad_iff (b : NoticeBody) :
    noticeBad b = true ↔ b.boards = 0#4 ∨ 8 < b.phrases.length ∨ ∃ p ∈ b.phrases, 1023 < p := by
  simp [noticeBad, or_assoc]

/-- Settles O44: the standing notices alone change, board by board of the mask. -/
theorem noticeSetReplacesStandingNotices : Obligations.NoticeSetReplacesStandingNotices := by
  intro s mode b
  refine ⟨fun hstate => ?_, fun hrun => ⟨fun hbad => ?_, fun hboards hlen hphrases => ?_⟩⟩
  · simp [exec, execNoticeSet, noticeSet, hstate]
  · simp only [exec, execNoticeSet, noticeSet, hrun, (noticeBad_iff b).mpr hbad, if_true, reportIfPosition_eq]
    rfl
  · have hok : ¬ noticeBad b = true := fun h => by
      rcases (noticeBad_iff b).mp h with h | h | ⟨p, hp, h⟩
      · exact hboards h
      · omega
      · exact absurd (hphrases p hp) (by omega)
    refine ⟨noticeSet mode b s, rfl, ?_, fun i hi => ?_⟩
    all_goals simp only [noticeSet, hrun, if_true, if_neg hok]
    · rfl
    · simp [hi]

end Sys2Proof.Laws
end

section
/-! SUPPORT. Frames on their way through the node (R154 to R157, R161 to R165) and the trim window (R89, R90). -/

namespace Sys2Proof.Laws

open Sys2Proof Sys2Proof.Machine

/-! ### The trim window (R89, R90) -/

theorem windowCloses_eq {t16 : Nat} {s : State} (h : s.time.window.isSome = true) :
    windowCloses t16 s =
      (closeTrim t16 s).setTime { (closeTrim t16 s).time with window := some { cycles := 0, ticks := 0 } } := if_pos h

/-- Settles O29: the three cases of `closeTrim`, each followed by the next window. -/
theorem trimWindowAcceptedOrRejected : Obligations.TrimWindowAcceptedOrRejected := by
  intro s t16 hwindow
  refine ⟨fun hlow hhigh => ?_, fun hout => ⟨fun hexc => ?_, fun hexc => ?_⟩⟩
  all_goals rw [exec, execTrimWindowClose, windowCloses_eq hwindow, closeTrim]
  · rw [if_pos ((trimAccepted_iff _).mpr ⟨hlow, hhigh⟩)]
    rfl
  · rw [if_neg (by rw [trimAccepted_iff]; omega), if_neg (by simp [hexc]), queueReport_eq]
    rfl
  · rw [if_neg (by rw [trimAccepted_iff]; omega), if_pos hexc]
    rfl

/-! ### The two ports (R162, R163) -/

/-- Settles O32: the frame is forwarded and the grant goes. -/
theorem failingFrameOnlyClearsGrant : Obligations.FailingFrameOnlyClearsGrant := by
  intro s bs hstate hbreak hparse
  have hclosed : ¬ (s.node.state = .powerUp ∨ s.chain.upBreak = true) := by simp [hstate, hbreak]
  simp only [exec, execFrame, receiveFrame, if_neg hclosed, hparse]
  rfl

/-- R163: fewer bytes of a frame have been sent than it has while some of it is left. -/
theorem sentBytes_lt {left : Nat} (h : 0 < left) : sentBytes left < 133 := by
  change (133 * 60 - left) / 60 < 133
  omega

/-- Settles O35: each event acts on the chain interface, and the loss and the cut frame on what they name besides. -/
theorem chainPortEvents : Obligations.ChainPortEvents := by
  intro s hstate
  refine ⟨fun hend hleft => ?_, fun hend hleft => ⟨sentBytes s.ports.upLeft, ?_, sentBytes_lt hleft⟩, fun hend => ?_,
    fun hlow hseen => ?_, fun hlow hseen => ?_, fun hbreak => ?_, rfl⟩
  · simp only [exec, execUpstreamFrameStart, upstreamStart, hstate, hend, hleft, if_true, if_false]
    rfl
  · simp only [exec, execUpstreamFrameStart, upstreamStart, hstate, hend, hleft.ne', if_true, if_false]
    rfl
  · simp only [exec, execUpstreamFrameStart, upstreamStart, hstate, hend, if_false, Bool.false_eq_true]
    rfl
  · simp only [exec, execDownstreamLost, downstreamLost, hstate, Nat.not_le.mpr hlow, or_self, if_false, loseDownstream,
      hseen, if_true, queueReport_eq]
    rfl
  · simp only [exec, execDownstreamLost, downstreamLost, hstate, Nat.not_le.mpr hlow, or_self, if_false, loseDownstream,
      hseen, Bool.false_eq_true]
    rfl
  · simp only [exec, execBreakState, enterBreak, hbreak, Bool.false_eq_true, if_false, bne_iff_ne.mpr hstate]
    rfl

/-! ### The hop field (R154, R156) -/

/-- A frame with the hop count `h` in both bytes of its hop field. -/
def withHop (h : Nat) (bs : List Byte) : List Byte := (bs.set 1 (toByte h)).set 2 (~~~ (toByte h))

theorem forwardFrame_some {position : Option Nat} {bs : List Byte} {h : Nat} (hh : forwardedHop position bs = some h) :
    forwardFrame position bs = withHop h bs := by
  simp only [forwardFrame, hh]
  rfl

theorem forwardFrame_none {position : Option Nat} {bs : List Byte} (hh : forwardedHop position bs = none) :
    forwardFrame position bs = bs := by
  simp only [forwardFrame, hh]

/-- What a frame forwarded is: itself, or itself under another hop field. -/
theorem forwardFrame_cases (position : Option Nat) (bs : List Byte) :
    forwardFrame position bs = bs ∨ ∃ h, forwardFrame position bs = withHop h bs := by
  cases hh : forwardedHop position bs with
  | none => exact .inl (forwardFrame_none hh)
  | some h => exact .inr ⟨h, forwardFrame_some hh⟩

@[simp] theorem withHop_length (h : Nat) (bs : List Byte) : (withHop h bs).length = bs.length := by simp [withHop]

theorem withHop_getElem? (h : Nat) (bs : List Byte) {i : Nat} (h1 : i ≠ 1) (h2 : i ≠ 2) : (withHop h bs)[i]? = bs[i]? := by
  rw [withHop, List.getElem?_set_ne h2.symm, List.getElem?_set_ne h1.symm]

theorem withHop_getD (h : Nat) (bs : List Byte) {i : Nat} (h1 : i ≠ 1) (h2 : i ≠ 2) :
    (withHop h bs).getD i 0#8 = bs.getD i 0#8 := by
  rw [List.getD_eq_getElem?_getD, List.getD_eq_getElem?_getD, withHop_getElem? h bs h1 h2]

theorem withHop_byteAt (h : Nat) (bs : List Byte) {i : Nat} (h1 : i ≠ 1) (h2 : i ≠ 2) :
    byteAt (withHop h bs) i = byteAt bs i := congrArg BitVec.toNat (withHop_getD h bs h1 h2)

/-- The bytes behind the hop field are those of the frame. -/
theorem withHop_drop (h : Nat) (bs : List Byte) {k : Nat} (hk : 3 ≤ k) : (withHop h bs).drop k = bs.drop k := by
  refine List.ext_getElem? fun i => ?_
  rw [List.getElem?_drop, List.getElem?_drop, withHop_getElem? h bs (by omega) (by omega)]

theorem withHop_take_one (h : Nat) (bs : List Byte) : (withHop h bs).take 1 = bs.take 1 := by
  refine List.ext_getElem? fun i => ?_
  rw [List.getElem?_take, List.getElem?_take]
  split
  next hi => exact withHop_getElem? h bs (by omega) (by omega)
  next => rfl

theorem withHop_frameMessages (h : Nat) (bs : List Byte) : frameMessages (withHop h bs) = frameMessages bs := by
  rw [frameMessages, frameMessages, withHop_length, withHop_byteAt h bs (by decide) (by decide), withHop_drop h bs (by decide)]

theorem withHop_checkedBytes (h : Nat) (bs : List Byte) : checkedBytes (withHop h bs) = checkedBytes bs := by
  rw [checkedBytes, checkedBytes, withHop_take_one, withHop_drop h bs (Nat.le_refl 3), withHop_length]

theorem withHop_u16At (h : Nat) (bs : List Byte) {i : Nat} (hi : 3 ≤ i) : u16At (withHop h bs) i = u16At bs i := by
  rw [u16At, u16At, withHop_byteAt h bs (by omega) (by omega), withHop_byteAt h bs (by omega) (by omega)]

theorem withHop_carriedCheck (h : Nat) {bs : List Byte} (hlen : 7 ≤ bs.length) :
    carriedCheck (withHop h bs) = carriedCheck bs := by
  rw [carriedCheck, carriedCheck, withHop_length, withHop_u16At h bs (by omega), withHop_u16At h bs (by omega)]

theorem withHop_hopAgrees (h : Nat) {bs : List Byte} (hlen : 3 ≤ bs.length) : hopAgrees (withHop h bs) = true := by
  have h1 : (withHop h bs).getD 1 0#8 = toByte h := by
    simp [withHop, List.getD_eq_getElem?_getD, show 1 < bs.length by omega]
  have h2 : (withHop h bs).getD 2 0#8 = ~~~ (toByte h) := by
    simp [withHop, List.getD_eq_getElem?_getD, show 2 < bs.length by omega]
  rw [hopAgrees, h1, h2, beq_self_eq_true]

theorem withHop_hopCountOf {h : Nat} (hh : h ≤ 63) {bs : List Byte} (hlen : 2 ≤ bs.length) :
    hopCountOf (withHop h bs) = h := by
  have h1 : (withHop h bs).getD 1 0#8 = toByte h := by
    simp [withHop, List.getD_eq_getElem?_getD, show 1 < bs.length by omega]
  rw [hopCountOf, byteAt, h1, toByte, BitVec.toNat_ofNat]
  omega

theorem length_of_frameMessages {bs : List Byte} {ms : List RawMessage} (h : frameMessages bs = some ms) :
    14 ≤ bs.length := by
  unfold frameMessages at h
  split at h
  next hlen => exact hlen.1
  next => exact absurd h nofun

/-- R157, 9.7: what a frame that passes its check says, with the messages given. -/
def headerOf (bs : List Byte) (ms : List RawMessage) : ParsedFrame :=
  { cycle := byteAt bs 0 % 64
    mark := if byteAt bs 0 % 64 = 0 && bitAt bs 0 6 then some (u16At bs 5, u24At bs 7) else none
    hop := hopCountOf bs
    grant := if 1 ≤ byteAt bs 3 ∧ byteAt bs 3 ≤ 48 then some (byteAt bs 3) else none
    messages := ms }

/-- R157: a frame passes its check when its length fits, its hop field agrees and its check is right. -/
theorem parseFrame_eq_some {bs : List Byte} {f : ParsedFrame} :
    parseFrame bs = some f ↔
      ∃ ms, frameMessages bs = some ms ∧ hopAgrees bs = true ∧ carriedCheck bs = crc32 (checkedBytes bs) ∧
        headerOf bs ms = f := by
  unfold parseFrame
  cases frameMessages bs with
  | none => simp
  | some ms =>
    simp only [Option.some.injEq, exists_eq_left']
    split
    next hcheck =>
      rw [Bool.and_eq_true, decide_eq_true_eq] at hcheck
      exact ⟨fun h => ⟨hcheck.1, hcheck.2, Option.some.inj h⟩, fun h => congrArg some h.2.2⟩
    next hcheck =>
      refine ⟨fun h => absurd h nofun, fun h => absurd ?_ hcheck⟩
      rw [Bool.and_eq_true, decide_eq_true_eq]
      exact ⟨h.1, h.2.1⟩

theorem headerOf_withHop {h : Nat} (hh : h ≤ 63) {bs : List Byte} (hlen : 2 ≤ bs.length) (ms : List RawMessage) :
    headerOf (withHop h bs) ms = { headerOf bs ms with hop := h } := by
  simp only [headerOf, bitAt, u24At, withHop_hopCountOf hh hlen, withHop_u16At h bs (show 3 ≤ 5 by decide),
    withHop_u16At h bs (show 3 ≤ 7 by decide), withHop_byteAt h bs (show 0 ≠ 1 by decide) (show 0 ≠ 2 by decide),
    withHop_byteAt h bs (show 3 ≠ 1 by decide) (show 3 ≠ 2 by decide),
    withHop_byteAt h bs (show 7 + 2 ≠ 1 by decide) (show 7 + 2 ≠ 2 by decide),
    withHop_getD h bs (show 0 ≠ 1 by decide) (show 0 ≠ 2 by decide)]
  rfl

theorem parseFrame_withHop {bs : List Byte} {f : ParsedFrame} (hf : parseFrame bs = some f) {h : Nat} (hh : h ≤ 63) :
    parseFrame (withHop h bs) = some { f with hop := h } := by
  obtain ⟨ms, hms, -, hcheck, rfl⟩ := parseFrame_eq_some.mp hf
  have hlen := length_of_frameMessages hms
  refine parseFrame_eq_some.mpr
    ⟨ms, by rw [withHop_frameMessages, hms], withHop_hopAgrees h (by omega), ?_, headerOf_withHop hh (by omega) ms⟩
  rw [withHop_carriedCheck h (by omega), withHop_checkedBytes, hcheck]

/-- The hop field of a frame that fails its check though the field agrees plays no part in the failure. -/
theorem parseFrame_withHop_none {bs : List Byte} (hagrees : hopAgrees bs = true) (hf : parseFrame bs = none) (h : Nat) :
    parseFrame (withHop h bs) = none := by
  rw [Option.eq_none_iff_forall_ne_some] at hf ⊢
  intro f hpass
  obtain ⟨ms, hms, -, hcheck, -⟩ := parseFrame_eq_some.mp hpass
  rw [withHop_frameMessages] at hms
  rw [withHop_carriedCheck h (by have := length_of_frameMessages hms; omega), withHop_checkedBytes] at hcheck
  exact hf _ (parseFrame_eq_some.mpr ⟨ms, hms, hagrees, hcheck, rfl⟩)

/-- Settles O34: forwarding is `withHop`, under which all that the check reads of a frame stays. -/
theorem forwardingChangesHopFieldAlone : Obligations.ForwardingChangesHopFieldAlone := by
  intro bs position
  refine ⟨?_, fun i h1 h2 => ?_, fun f hf => ?_, fun hagrees hf => ?_, fun hdis hpos => ?_, fun p hdis hpos hlen => ?_⟩
  · rcases forwardFrame_cases position bs with h | ⟨h, hh⟩
    · rw [h]
    · rw [hh, withHop_length]
  · rcases forwardFrame_cases position bs with h | ⟨h, hh⟩
    · rw [h]
    · rw [hh, withHop_getElem? h bs h1 h2]
  · obtain ⟨ms, -, hagrees, -, rfl⟩ := parseFrame_eq_some.mp hf
    rw [forwardFrame_some (if_pos hagrees), parseFrame_withHop hf (Nat.min_le_left _ _)]
    rfl
  · rw [forwardFrame_some (if_pos hagrees), parseFrame_withHop_none hagrees hf]
  · exact forwardFrame_none (by simp [forwardedHop, hdis, hpos])
  · rw [forwardFrame_some (h := min 63 p) (by simp [forwardedHop, hdis, hpos])]
    exact ⟨withHop_hopAgrees _ hlen, withHop_hopCountOf (Nat.min_le_left _ _) (by omega)⟩

end Sys2Proof.Laws
end

section
/-! SUPPORT. The upstream report frame (R163 to R165, 9.7). -/

namespace Sys2Proof.Laws

open Sys2Proof Sys2Proof.Machine

/-! ### The check (R157) -/

theorem crcBit_lt {c : Nat} (h : c < 2 ^ 32) : crcBit c < 2 ^ 32 := by
  have hhalf : c / 2 < 2 ^ 32 := (Nat.div_le_self c 2).trans_lt h
  unfold crcBit
  split
  · exact Nat.xor_lt_two_pow hhalf (by decide)
  · exact hhalf

theorem crcByte_lt {c : Nat} (h : c < 2 ^ 32) (b : Byte) : crcByte c b < 2 ^ 32 := by
  have hb : b.toNat < 2 ^ 32 := b.isLt.trans (by decide)
  exact crcBit_lt (crcBit_lt (crcBit_lt (crcBit_lt (crcBit_lt (crcBit_lt (crcBit_lt (crcBit_lt (Nat.xor_lt_two_pow h hb))))))))

/-- A check has 32 bits. -/
theorem crc32_lt (bs : List Byte) : crc32 bs < 2 ^ 32 :=
  Nat.xor_lt_two_pow
    (List.foldlRecOn (motive := fun c => c < 2 ^ 32) bs crcByte (by decide) fun _ hc b _ => crcByte_lt hc b) (by decide)

/-! ### A body with its check -/

theorem byteAt_append_right (l m : List Byte) (k : Nat) : byteAt (l ++ m) (l.length + k) = byteAt m k := by
  simp [byteAt, List.getD_eq_getElem?_getD, List.getElem?_append_right]

theorem byteAt_append_left {l : List Byte} (m : List Byte) {i : Nat} (h : i < l.length) : byteAt (l ++ m) i = byteAt l i := by
  simp [byteAt, List.getD_eq_getElem?_getD, List.getElem?_append_left h]

@[simp] theorem toBytes32_length (c : Nat) : (toBytes32 c).length = 4 := rfl

/-- The check a frame carries is the one put behind its body. -/
theorem carriedCheck_append (l : List Byte) {c : Nat} (h : c < 2 ^ 32) : carriedCheck (l ++ toBytes32 c) = c := by
  have h0 : l.length + 4 - 4 = l.length + 0 := rfl
  have h2 : l.length + 4 - 2 = l.length + 2 := rfl
  simp only [carriedCheck, u16At, List.length_append, toBytes32_length, h0, h2, Nat.add_assoc, byteAt_append_right]
  change (c / 16777216 % 256 * 256 + c / 65536 % 256) * 65536 + (c / 256 % 256 * 256 + c % 256) = c
  omega

/-! ### Slots (R164, 9.7) -/

@[simp] theorem slotBytes_length (p : Nat) (loss : Bool) (r : Report) : (slotBytes p loss r).length = 32 := by
  have h : r.body.length ≤ 28 := by
    rw [Report.body, List.length_take]
    exact Nat.min_le_left _ _
  simp only [slotBytes, List.length_append, List.length_cons, List.length_nil, List.length_replicate]
  omega

theorem code_lt (r : Report) : r.code < 256 := by
  cases r <;> exact of_decide_eq_true rfl

theorem toNat_toByte {n : Nat} (h : n < 256) : (toByte n).toNat = n := by
  rw [toByte, BitVec.toNat_ofNat]
  exact Nat.mod_eq_of_lt h

/-- 9.7: the four bytes in front of a report's body. -/
theorem slotBytes_head {p : Nat} (hp : p ≤ 48) (loss : Bool) (r : Report) :
    byteAt (slotBytes p loss r) 0 = (if loss then 0xC0 else 0x80) ∧ byteAt (slotBytes p loss r) 1 = p ∧
      byteAt (slotBytes p loss r) 2 = r.code ∧ byteAt (slotBytes p loss r) 3 ≤ 28 := by
  have h : r.body.length ≤ 28 := by
    rw [Report.body, List.length_take]
    exact Nat.min_le_left _ _
  refine ⟨?_, toNat_toByte (by omega), toNat_toByte (code_lt r), ?_⟩
  · cases loss <;> rfl
  · change (toByte r.body.length).toNat ≤ 28
    rwa [toNat_toByte (by omega)]

section

variable {body slot : List Byte} {n : Nat} (hbody : body.length = 129) (hslot : slot.length = 32) (hn : n ≤ 3)

include hbody hslot hn

theorem fillSlot_length : (fillSlot body n slot).length = 129 := by
  simp only [fillSlot, slotStart, List.length_append, List.length_take, List.length_drop, hbody, hslot]
  omega

theorem fillSlot_getElem?_in {k : Nat} (hk : k < 32) : (fillSlot body n slot)[1 + 32 * n + k]? = slot[k]? := by
  have hlen : (body.take (slotStart n)).length = 1 + 32 * n := by
    simp only [slotStart, List.length_take, hbody]
    omega
  rw [fillSlot, List.append_assoc, ← hlen, List.getElem?_append_right (by omega), Nat.add_sub_cancel_left,
    List.getElem?_append_left (by omega)]

theorem fillSlot_byteAt {k : Nat} (hk : k < 32) : byteAt (fillSlot body n slot) (1 + 32 * n + k) = byteAt slot k := by
  rw [byteAt, byteAt, List.getD_eq_getElem?_getD, List.getD_eq_getElem?_getD, fillSlot_getElem?_in hbody hslot hn hk]

theorem fillSlot_getElem?_out {i : Nat} (hi : i < 1 + 32 * n ∨ 33 + 32 * n ≤ i) : (fillSlot body n slot)[i]? = body[i]? := by
  have hlen : (body.take (slotStart n)).length = 1 + 32 * n := by
    simp only [slotStart, List.length_take, hbody]
    omega
  rw [fillSlot, List.append_assoc]
  rcases hi with hi | hi
  · rw [List.getElem?_append_left (by omega), List.getElem?_take_of_lt (by simpa [slotStart] using hi)]
  · rw [List.getElem?_append_right (by omega), List.getElem?_append_right (by omega), List.getElem?_drop, hlen, hslot, slotStart]
    congr 1
    omega

end

/-! ### Sending (R163 to R165) -/

/-- R164: the slot a report takes where its node may place one. -/
theorem placement_eq {s : State} {p : Nat} {r : Report} {rest : List Report} (hup : s.node.state ≠ .powerUp)
    (hfault : s.node.state ≠ .positionFault) (hpos : s.chain.position = some p) (hlow : 1 ≤ p) (hhigh : p ≤ 48)
    (hreports : s.node.reports = r :: rest) (body : List Byte) :
    placement body s = (chooseSlot (s.chain.grant == some p) body).map fun n => (p, r, n) := by
  simp [placement, hup, hfault, hpos, hreports, hlow, hhigh]

theorem sendUpstream_none {s : State} {body : List Byte} (h : placement body s = none) (good : Bool) (left : Nat) :
    sendUpstream good body left s =
      s.setPorts
        { s.ports with
          up := body ++ toBytes32 (if good then crc32 body else crc32 body ^^^ 0xFFFFFFFF), upLeft := left } := by
  simp only [sendUpstream, dequeuePlaced, placedBody, h]

theorem sendUpstream_some {s : State} {body : List Byte} {p : Nat} {r : Report} {n : Nat}
    (h : placement body s = some (p, r, n)) (good : Bool) (left : Nat) :
    sendUpstream good body left s =
      (s.setNode { s.node with reports := s.node.reports.drop 1, loss := false }).setPorts
        { s.ports with
          up :=
            fillSlot body n (slotBytes p s.node.loss r) ++
              toBytes32
                (if good then crc32 (fillSlot body n (slotBytes p s.node.loss r))
                 else crc32 (fillSlot body n (slotBytes p s.node.loss r)) ^^^ 0xFFFFFFFF)
          upLeft := left } := by
  simp only [sendUpstream, dequeuePlaced, placedBody, h]

/-- The frame sent, by its body and whether its check is kept. -/
def sealed (good : Bool) (body : List Byte) : List Byte :=
  body ++ toBytes32 (if good then crc32 body else crc32 body ^^^ 0xFFFFFFFF)

theorem sealed_length {good : Bool} {body : List Byte} (h : body.length = 129) : (sealed good body).length = 133 := by
  rw [sealed, List.length_append, h, toBytes32_length]

theorem sealed_take {good : Bool} {body : List Byte} (h : body.length = 129) : (sealed good body).take 129 = body := by
  rw [sealed, ← h, List.take_left]

theorem sealed_getElem? {good : Bool} {body : List Byte} {i : Nat} (h : i < body.length) : (sealed good body)[i]? = body[i]? :=
  List.getElem?_append_left h

theorem sealed_byteAt {good : Bool} {body : List Byte} {i : Nat} (h : i < body.length) :
    byteAt (sealed good body) i = byteAt body i := byteAt_append_left _ h

theorem sealed_good (body : List Byte) : carriedCheck (sealed true body) = crc32 body :=
  carriedCheck_append body (crc32_lt body)

theorem sealed_bad (body : List Byte) : carriedCheck (sealed false body) = crc32 body ^^^ 0xFFFFFFFF :=
  carriedCheck_append body (Nat.xor_lt_two_pow (crc32_lt body) (by decide))

/-- R164, 9.7: what stands in slot `n` of a frame sealed with a report in it. -/
theorem sealed_slot {good loss : Bool} {body : List Byte} {p n : Nat} (r : Report) (hbody : body.length = 129) (hn : n ≤ 3)
    (hp : p ≤ 48) :
    byteAt (sealed good (fillSlot body n (slotBytes p loss r))) (1 + 32 * n) = (if loss then 0xC0 else 0x80) ∧
      byteAt (sealed good (fillSlot body n (slotBytes p loss r))) (2 + 32 * n) = p ∧
      byteAt (sealed good (fillSlot body n (slotBytes p loss r))) (3 + 32 * n) = r.code ∧
      byteAt (sealed good (fillSlot body n (slotBytes p loss r))) (4 + 32 * n) ≤ 28 := by
  have hslot := slotBytes_length p loss r
  have hlen := fillSlot_length hbody hslot hn
  have hbyte (k : Nat) (hk : k < 32) :
      byteAt (sealed good (fillSlot body n (slotBytes p loss r))) (1 + 32 * n + k) = byteAt (slotBytes p loss r) k := by
    rw [sealed_byteAt (by omega), fillSlot_byteAt hbody hslot hn hk]
  obtain ⟨h0, h1, h2, h3⟩ := slotBytes_head hp loss r
  rw [show 2 + 32 * n = 1 + 32 * n + 1 by omega, show 3 + 32 * n = 1 + 32 * n + 2 by omega,
    show 4 + 32 * n = 1 + 32 * n + 3 by omega, hbyte 1 (by decide), hbyte 2 (by decide), hbyte 3 (by decide)]
  exact ⟨(hbyte 0 (by decide)).trans h0, h1, h2, h3⟩

/-! ### A passing frame (R164, R165) -/

/-- R164: in a body of four slots a slot is empty when its filled bit is clear. -/
theorem slotEmpty_take {bs : List Byte} (h : bs.length = 133) {n : Nat} (hn : n ≤ 3) :
    slotEmpty (bs.take 129) n = !(bs.getD (1 + 32 * n) 0#8).getLsbD 7 := by
  have hlen : (bs.take 129).length = 129 := by rw [List.length_take, h]; rfl
  have hin : decide (slotStart n + 32 ≤ (bs.take 129).length) = true := by
    rw [hlen, slotStart, decide_eq_true_eq]
    omega
  rw [slotEmpty, hin, Bool.true_and, bitAt, slotStart, List.getD_eq_getElem?_getD, List.getD_eq_getElem?_getD,
    List.getElem?_take_of_lt (by omega)]

/-- R164: the lowest of the slots 1 to 3 that meets `q`. -/
theorem find_slot {q : Nat → Bool} {n : Nat} (hlow : 1 ≤ n) (hhigh : n ≤ 3) (hq : q n = true)
    (hfirst : ∀ m, 1 ≤ m → m < n → q m = false) : [1, 2, 3].find? q = some n := by
  have hn : n = 1 ∨ n = 2 ∨ n = 3 := by omega
  rcases hn with rfl | rfl | rfl
  · simp [hq]
  · simp [hq, hfirst 1]
  · simp [hq, hfirst 1, hfirst 2]

theorem upstreamFrame_eq {s : State} (hup : s.node.state ≠ .powerUp) {bs : List Byte} (h : bs.length = 133) :
    upstreamFrame bs s =
      sendUpstream (carriedCheck bs == crc32 (bs.take 129)) (bs.take 129) s.ports.upLeft s := by
  have hgood : upstreamGood bs = (carriedCheck bs == crc32 (bs.take 129)) := by
    rw [upstreamGood, h]
    rfl
  rw [upstreamFrame, if_neg hup, hgood, upstreamBody_of_check bs (by omega), h]

/-- Settles O36: `chooseSlot` gives the slot, and the frame sent is the body with the slot filled, sealed anew. -/
theorem upstreamFramePlacesOldestReport : Obligations.UpstreamFramePlacesOldestReport := by
  intro s bs p r rest hup hfault hpos hlow hhigh hreports hlen
  have hbody : (bs.take 129).length = 129 := by rw [List.length_take, hlen]; rfl
  have hplace := placement_eq hup hfault hpos hlow hhigh hreports (bs.take 129)
  have hgrant : (s.chain.grant == some p) = decide (s.chain.grant = some p) := by rw [beq_eq_decide]
  have hempty (m : Nat) (hm : m ≤ 3) := slotEmpty_take hlen hm
  refine ⟨fun n hslot => ?_, fun hnot hfull => ?_⟩
  · have hn : n ≤ 3 := by omega
    have hchoose : chooseSlot (s.chain.grant == some p) (bs.take 129) = some n := by
      rw [chooseSlot, hgrant, hempty 0 (by decide)]
      rcases hslot with ⟨hgranted, rfl⟩ | ⟨hnot, hn1, hn3, hfree, hfirst⟩
      · rw [if_pos hgranted]
      · rw [if_neg (by simpa using hnot)]
        refine find_slot hn1 hn3 ((hempty n hn3).trans hfree) fun m hm1 hmn => (hempty m (by omega)).trans (hfirst m hm1 hmn)
    rw [hchoose, Option.map_some] at hplace
    have hfill := fillSlot_length hbody (slotBytes_length p s.node.loss r) hn
    obtain ⟨h0, h1, h2, h3⟩ :=
      sealed_slot (good := carriedCheck bs == crc32 (bs.take 129)) (loss := s.node.loss) r hbody hn hhigh
    refine ⟨upstreamFrame bs s, rfl, ?_⟩
    rw [upstreamFrame_eq hup hlen, sendUpstream_some hplace, hreports]
    refine ⟨rfl, sealed_length hfill, h0, h1, h2, h3, fun i hi hout => ?_, fun hgood => ?_, fun hbad => ?_, rfl, rfl, rfl, rfl⟩
    · refine (sealed_getElem? (by omega)).trans ((fillSlot_getElem?_out hbody (slotBytes_length _ _ _) hn hout).trans ?_)
      exact List.getElem?_take_of_lt hi
    · have hseal : (carriedCheck bs == crc32 (bs.take 129)) = true := beq_iff_eq.mpr hgood
      rw [hseal]
      exact (sealed_good _).trans (congrArg crc32 (sealed_take hfill).symm)
    · have hseal : (carriedCheck bs == crc32 (bs.take 129)) = false := beq_eq_false_iff_ne.mpr hbad
      rw [hseal]
      exact (sealed_bad _).trans (congrArg (fun l => crc32 l ^^^ 0xFFFFFFFF) (sealed_take hfill).symm)
  · have hchoose : chooseSlot (s.chain.grant == some p) (bs.take 129) = none := by
      rw [chooseSlot, hgrant, hempty 0 (by decide), if_neg (by simpa using hnot)]
      rw [List.find?_eq_none]
      intro m hm
      have hrange : 1 ≤ m ∧ m ≤ 3 := by
        simp only [List.mem_cons, List.not_mem_nil, or_false] at hm
        omega
      rw [(hempty m hrange.2).trans (hfull m hrange.1 hrange.2)]
      exact Bool.false_ne_true
    rw [hchoose, Option.map_none] at hplace
    refine ⟨upstreamFrame bs s, rfl, ?_⟩
    rw [upstreamFrame_eq hup hlen, sendUpstream_none hplace]
    exact ⟨rfl, sealed_take hbody⟩

end Sys2Proof.Laws
end

section
/-! SUPPORT. TABLE WRITE and TABLE COPY (R167). -/

namespace Sys2Proof.Laws

open Sys2Proof Sys2Proof.Machine

theorem getElem?_set_of_lt {α : Type} {l : List α} {i : Nat} (h : i < l.length) (a : α) (j : Nat) :
    (l.set i a)[j]? = if j = i then some a else l[j]? := by
  rw [List.getElem?_set]
  by_cases hj : i = j
  · subst hj
    simp [h]
  · simp [hj, Ne.symm hj]

/-- R167: an index that exists names one entry of its table, and the write replaces that one. -/
theorem entryWritten_writeEntry {b : Bank} (hb : b.shapely) {table index : Nat} {bs : List Byte}
    (hindex : index < tableEntries.getD table 0) (hlen : bs.length = entryLengths.getD table 0) :
    EntryWritten table index bs b (b.writeEntry table index bs) := by
  refine ⟨?_, ?_, ?_, ?_, ?_, ?_, ?_, ?_, ?_⟩ <;> rintro rfl
  · rfl
  · exact ⟨rfl, getElem?_set_of_lt (hb.selection ▸ hindex) _⟩
  · exact ⟨rfl, getElem?_set_of_lt (hb.rowMap ▸ hindex) _⟩
  · exact ⟨rfl, getElem?_set_of_lt (hb.boards ▸ hindex) _⟩
  · exact ⟨rfl, getElem?_set_of_lt (hb.rules ▸ hindex) _⟩
  · exact ⟨rfl, getElem?_set_of_lt (hb.templates ▸ hindex) _⟩
  · obtain ⟨x, rfl⟩ := List.length_eq_one_iff.mp hlen
    exact ⟨rfl, getElem?_set_of_lt (hb.platformZones ▸ hindex) _⟩
  · obtain ⟨x, rfl⟩ := List.length_eq_one_iff.mp hlen
    exact ⟨rfl, getElem?_set_of_lt (hb.zoneTable ▸ hindex) _⟩
  · exact ⟨rfl, getElem?_set_of_lt (hb.pages ▸ hindex) _⟩

theorem takesMessages_eq_false {s : State} (hj : s.node.state ≠ .joining) (hr : s.node.state ≠ .running) :
    takesMessages s = false := by
  simp [takesMessages, hj, hr]

/-- R167: a write to an entry that exists is refused for its length alone. -/
theorem tableWrite_of_entry {s : State} (htakes : takesMessages s = true) {table index : Nat} (htable : table ≤ 8)
    (hindex : index < tableEntries.getD table 0) (mode : AddrMode) (entry : List Byte) :
    tableWrite mode table index entry s =
      if entry.length ≠ entryLengths.getD table 0 then reportIfPosition mode (.badField 0x20 none) s
      else s.setStore { s.store with shadow := s.store.shadow.writeEntry table index entry } := by
  have hthere : ¬ (8 < table ∨ tableEntries.getD table 0 ≤ index) := by
    rintro (h | h)
    · exact Nat.not_lt.mpr htable h
    · exact Nat.not_lt.mpr h hindex
  rw [tableWrite, if_pos htakes, if_neg hthere]

/-- Settles O52: the shadow bank takes the entry, or the active bank's content, and the refusals report. -/
theorem tableWriteTouchesShadowAlone : Obligations.TableWriteTouchesShadowAlone := by
  intro s mode table index gen cycle entry
  change (_ → _ → _) ∧ (_ →
    (8 < table ∨ tableEntries.getD table 0 ≤ index → _) ∧
    (table ≤ 8 → index < tableEntries.getD table 0 → entry.length ≠ entryLengths.getD table 0 → _) ∧
    (table ≤ 8 → index < tableEntries.getD table 0 → entry.length = entryLengths.getD table 0 → _ → _) ∧ _)
  refine ⟨fun hj hr => ?_, fun hstate => ?_⟩
  · have hnot := takesMessages_eq_false hj hr
    simp [exec, execTableWrite, tableWrite, execTableCopy, tableCopy, execTableCommit, tableCommit, hnot]
  · have htakes := takesMessages_iff.mpr hstate
    refine ⟨fun hnone => ?_, fun htable hindex hlen => ?_, fun htable hindex hlen hshape => ?_, ?_⟩
    · rw [exec, execTableWrite, tableWrite, if_pos htakes, if_pos hnone, queueReport_eq]
      rfl
    · rw [exec, execTableWrite, tableWrite_of_entry htakes htable hindex, if_pos hlen, reportIfPosition_eq]
      rfl
    · refine ⟨s.store.shadow.writeEntry table index entry, ?_, shapely_writeEntry hshape _ _ _,
        entryWritten_writeEntry hshape hindex hlen⟩
      rw [exec, execTableWrite, tableWrite_of_entry htakes htable hindex, if_neg (not_not.mpr hlen)]
      rfl
    · rw [exec, execTableCopy, tableCopy, if_pos htakes]
      rfl

end Sys2Proof.Laws
end

section
/-! SUPPORT. What a cue request and a CUE POST leave (R102 to R115, R131), and the scheduler's events of a named cue. -/

namespace Sys2Proof.Laws

open Sys2Proof Sys2Proof.Machine

/-! ### The NO ZONE check (R131) -/

theorem noZoneCheck_eq (s : State) : noZoneCheck s = withoutHomeless s := dropCues_eq _ _ s

theorem withoutHomeless_self {s : State} (h : ∀ c ∈ s.cues.queue, c.state = .due → usableZones s.line c.zones ≠ []) :
    withoutHomeless s = s := (noZoneCheck_eq s).symm.trans (noZoneCheck_none s h)

/-! ### Choosing an id and a victim (R109, R113) -/

/-- R109: with at most 32 cues held the search ends at a free id. -/
theorem firstFreeId_nextCueId {s : State} (hsize : s.cues.queue.length ≤ 32) (hnext : s.cues.nextId < 256) :
    FirstFreeId s.cues.queue s.cues.nextId (nextCueId s) := by
  obtain ⟨k, -, heq, hused, -⟩ := freeId_cases (s.cues.queue.map fun c => c.id) 33 s.cues.nextId hnext
  exact ⟨k, heq, (nextCueId_fresh hsize hnext).2, fun j hj => List.mem_map.mp (hused j hj)⟩

/-- The element that comes before every other is the one picked. -/
theorem pickFirst_eq {lt : Cue → Cue → Bool} (hasymm : ∀ a b, lt a b = true → lt b a = false) {v : Cue} :
    ∀ {l : List Cue}, v ∈ l → (∀ w ∈ l, w = v ∨ lt v w = true) → pickFirst lt l = some v
  | c :: l, hv, hfirst => by
    have hl (w : Cue) (hw : w ∈ l) := hfirst w (List.mem_cons_of_mem c hw)
    unfold pickFirst
    cases hd : pickFirst lt l with
    | none =>
      rcases List.mem_cons.mp hv with rfl | hv
      · rfl
      · rw [pickFirst_eq hasymm hv hl] at hd
        cases hd
    | some d =>
      by_cases hdv : d = v
      · subst hdv
        rcases hfirst c List.mem_cons_self with rfl | hlt
        · exact ite_self _
        · exact if_pos hlt
      · have hvd := (hl d (pickFirst_mem hd)).resolve_left hdv
        have hcv : c = v := by
          refine (List.mem_cons.mp hv).resolve_right (fun hv => hdv ?_) |>.symm
          rw [pickFirst_eq hasymm hv hl] at hd
          exact (Option.some.inj hd).symm
        subst hcv
        simp only [hasymm _ _ hvd, Bool.false_eq_true, if_false]

theorem givenUpBefore_iff (a b : Cue) :
    givenUpBefore a b = true ↔ a.priority < b.priority ∨
      (a.priority = b.priority ∧ (b.release < a.release ∨ (a.release = b.release ∧ b.id < a.id))) := by
  simp [givenUpBefore]

theorem givenUpBefore_asymm (a b : Cue) (h : givenUpBefore a b = true) : givenUpBefore b a = false := by
  rw [givenUpBefore_iff] at h
  rw [← Bool.not_eq_true, givenUpBefore_iff]
  omega

/-- R113: the victim is the waiting cue that is given up before every other. -/
theorem victim_eq {s : State} {v : Cue} (hv : v ∈ s.cues.queue) (hwaits : v.waits = true)
    (hfirst : ∀ w ∈ s.cues.queue, w.waits = true → w = v ∨ v.priority < w.priority ∨
      (v.priority = w.priority ∧ (w.release < v.release ∨ (v.release = w.release ∧ w.id < v.id)))) : victim s = some v := by
  refine pickFirst_eq givenUpBefore_asymm (List.mem_filter.mpr ⟨hv, hwaits⟩) fun w hw => ?_
  obtain ⟨hmem, hw⟩ := List.mem_filter.mp hw
  exact (hfirst w hmem hw).imp id (givenUpBefore_iff v w).mpr

theorem filter_id_eq {q : List Cue} (hids : q.Pairwise fun a b => a.id < b.id) {v : Cue} (hv : v ∈ q) :
    (q.filter fun x => x.id == v.id) = [v] := by
  induction q with
  | nil => cases hv
  | cons c q ih =>
    obtain ⟨hc, hq⟩ := List.pairwise_cons.mp hids
    rcases List.mem_cons.mp hv with rfl | hv
    · rw [List.filter_cons_of_pos (by simp), List.filter_eq_nil_iff.mpr fun x hx => ?_]
      have := hc x hx
      simp only [beq_iff_eq]
      omega
    · have := hc v hv
      rw [List.filter_cons_of_neg (by simp only [beq_iff_eq]; omega), ih hq hv]

/-- R119: a drop of one cue of the queue. -/
theorem dropCues_id {s : State} (hids : s.cues.queue.Pairwise fun a b => a.id < b.id) {v : Cue} (hv : v ∈ s.cues.queue)
    (reason : DropReason) :
    dropCues (fun x => x.id == v.id) reason s =
      (s.setCues { s.cues with queue := s.cues.queue.filter fun x => x.id != v.id }).setNode
        (nodeAfterReports [v.dropReport reason] s.node) := by
  rw [dropCues_eq, filter_id_eq hids hv]
  rfl

/-! ### Admission (R109, R111, R113) -/

/-- R108, R109: the form of the cue queue, whatever its cues say: what admission leans on. -/
structure Orderly (s : State) : Prop where
  size : s.cues.queue.length ≤ 32
  ids : s.cues.queue.Pairwise fun a b => a.id < b.id
  apart : s.cues.queue.Pairwise fun a b => ¬ a.twins b
  nextId : s.cues.nextId < 256

theorem orderly_of_cuesOk {s : State} (hs : s.cuesOk) : Orderly s := { hs with }

theorem orderly_of_cues {s t : State} (h : t.cues = s.cues) (hs : Orderly s) : Orderly t :=
  ⟨h ▸ hs.size, h ▸ hs.ids, h ▸ hs.apart, h ▸ hs.nextId⟩

theorem Orderly.eq_of_id {s : State} (hs : Orderly s) {a b : Cue} (ha : a ∈ s.cues.queue) (hb : b ∈ s.cues.queue)
    (hid : a.id = b.id) : a = b :=
  List.inj_on_of_nodup_map (f := Cue.id) (List.pairwise_map.mpr (hs.ids.imp fun hlt => Nat.ne_of_lt hlt)) ha hb hid

theorem Orderly.not_twins {s : State} (hs : Orderly s) {a b : Cue} (ha : a ∈ s.cues.queue) (hb : b ∈ s.cues.queue)
    (hid : a.id ≠ b.id) : ¬ a.twins b := by
  have hsymm : Std.Symm fun x y : Cue => ¬ x.twins y := ⟨fun _ _ hxy hyx => hxy (twins_symm hyx)⟩
  exact hs.apart.forall ha hb fun hab => hid (congrArg Cue.id hab)

/-- R111: the cue of a request's nonzero key and template, when it waits, is the one coalesced into. -/
theorem coalesceTarget_eq {s : State} (hs : Orderly s) {c x : Cue} (hx : x ∈ s.cues.queue) (hkey : c.key ≠ 0)
    (hxkey : x.key = c.key) (htemplate : x.template = c.template) (hwaits : x.waits = true) :
    coalesceTarget c s = some x := by
  cases ht : coalesceTarget c s with
  | none =>
    have hnot := List.find?_eq_none.mp ht x hx
    simp [hkey, hxkey, htemplate, hwaits] at hnot
  | some y =>
    have hp := List.find?_some ht
    simp only [Bool.and_eq_true, beq_iff_eq] at hp
    obtain ⟨⟨⟨-, hykey⟩, hytemplate⟩, hywaits⟩ := hp
    have hy := List.mem_of_find?_eq_some ht
    refine congrArg some (by_contra fun hne => ?_)
    refine hs.not_twins hx hy (fun hid => hne (hs.eq_of_id hy hx hid.symm)) ⟨?_, ?_, ?_, hwaits, hywaits⟩
    · rwa [hxkey]
    · rw [hxkey, hykey]
    · rw [htemplate, hytemplate]

theorem coalesceTarget_none_of {s : State} {c : Cue}
    (h : ∀ x ∈ s.cues.queue, ¬ (c.key ≠ 0 ∧ x.key = c.key ∧ x.template = c.template ∧ x.waits = true)) :
    coalesceTarget c s = none :=
  List.find?_eq_none.mpr fun x hx hp => by
    simp only [Bool.and_eq_true, bne_iff_ne, beq_iff_eq] at hp
    obtain ⟨⟨⟨hkey, hxkey⟩, htemplate⟩, hwaits⟩ := hp
    exact h x hx ⟨hkey, hxkey, htemplate, hwaits⟩

theorem enterCue_placed {s : State} {c : Cue} (h : coalesceTarget c s = none) : enterCue c s = noZoneCheck (placeCue c s) := by
  simp only [enterCue, h]

theorem enterCue_coalesced {s : State} {c x : Cue} (h : coalesceTarget c s = some x) :
    enterCue c s = noZoneCheck (updateCue x.id (takeContent s.time.second c) s) := by
  simp only [enterCue, h]

theorem placeCue_room {s : State} {c : Cue} (h : s.cues.queue.length < 32) : placeCue c s = addCue c s := if_pos h

theorem placeCue_full {s : State} {c v : Cue} (h : s.cues.queue.length = 32) (hv : victim s = some v) :
    placeCue c s =
      if v.priority < c.priority then addCue c (dropCues (fun x => x.id == v.id) .full s)
      else queueReport (.cueDropped none c.source c.key c.template .full) s := by
  have hfull : ¬ s.cues.queue.length < Config.maxCues := by rw [h]; exact Nat.lt_irrefl 32
  simp only [placeCue, if_neg hfull, hv]

/-- R113: with the victim gone there is room and a free id. -/
theorem firstFreeId_without {s : State} {v : Cue} (hsize : s.cues.queue.length ≤ 32) (hnext : s.cues.nextId < 256)
    {u : State} (hu : u.cues = { s.cues with queue := s.cues.queue.filter fun x => x.id != v.id }) :
    FirstFreeId (s.cues.queue.filter fun x => x.id != v.id) s.cues.nextId (nextCueId u) := by
  have h := firstFreeId_nextCueId (s := u) (by rw [hu]; exact (List.length_filter_le _ _).trans hsize) (by rw [hu]; exact hnext)
  rwa [hu] at h

/-- R109, R111, R113, R131: the three ways of admission. -/
theorem admitted_enterCue {s : State} (hs : Orderly s) {c : Cue} (hstate : c.state = firstState c.release s.time.second) :
    Admitted c s (enterCue c s) := by
  have hnone (h : ∀ x ∈ s.cues.queue, ¬ (c.key ≠ 0 ∧ x.key = c.key ∧ x.template = c.template ∧ x.waits = true)) :
      enterCue c s = withoutHomeless (placeCue c s) :=
    (enterCue_placed (coalesceTarget_none_of h)).trans (noZoneCheck_eq _)
  refine ⟨fun x hx ⟨hkey, hxkey, htemplate, hwaits⟩ => ?_, fun h hroom => ?_,
    fun h hfull v hv hwaits hfirst => ⟨fun hle => ?_, fun hlt => ?_⟩⟩
  · rw [enterCue_coalesced (coalesceTarget_eq hs hx hkey hxkey htemplate hwaits), noZoneCheck_eq]
    simp only [updateCue, takeContent, hstate, beq_iff_eq]
    rfl
  · exact ⟨_, firstFreeId_nextCueId hs.size hs.nextId, by rw [hnone h, placeCue_room hroom]; rfl⟩
  · rw [hnone h, placeCue_full hfull (victim_eq hv hwaits hfirst), if_neg (Nat.not_lt.mpr hle), queueReport_eq]
    rfl
  · refine ⟨_, firstFreeId_without (u := dropCues (fun x => x.id == v.id) .full s) hs.size hs.nextId ?_, ?_⟩
    · rw [dropCues_id hs.ids hv]
      rfl
    · rw [hnone h, placeCue_full hfull (victim_eq hv hwaits hfirst), if_pos hlt, dropCues_id hs.ids hv]
      rfl

/-! ### Admission keeps the queue in order (R108, R109) -/

/-- A cue that joins an orderly queue with room, under a new id and no cue's twin. -/
theorem orderly_addCue {s : State} (hs : Orderly s) (hroom : s.cues.queue.length < 32) {c : Cue}
    (hapart : coalesceTarget c s = none) : Orderly (addCue c s) := by
  obtain ⟨-, hnew⟩ := nextCueId_fresh hs.size hs.nextId
  have hsorted := insertCue_sorted (c := { c with id := nextCueId s }) hs.ids hnew
  have htwins := coalesceTarget_none hapart
  refine ⟨?_, hsorted, hsorted.imp_of_mem fun {a b} ha hb hlt => ?_, Nat.mod_lt _ (by decide)⟩
  · change (insertCue _ s.cues.queue).length ≤ 32
    rw [(insertCue_perm _ _).length_eq]
    exact hroom
  · rcases mem_insertCue.mp ha, mem_insertCue.mp hb with ⟨hac | haq, hbc | hbq⟩
    · exact absurd hlt (by rw [hac, hbc]; exact Nat.lt_irrefl _)
    · exact hac ▸ fun htw => htwins b hbq _ (twins_symm htw)
    · exact hbc ▸ htwins a haq _
    · exact hs.not_twins haq hbq (Nat.ne_of_lt hlt)

theorem orderly_dropCues {s : State} (hs : Orderly s) (p : Cue → Bool) (reason : DropReason) :
    Orderly (dropCues p reason s) := by
  rw [dropCues_eq]
  exact ⟨(List.length_filter_le _ _).trans hs.size, hs.ids.filter _, hs.apart.filter _, hs.nextId⟩

/-- R111: the cue coalesced into keeps its id, key and template, and waits as before. -/
theorem orderly_coalesce {s : State} (hs : Orderly s) (c : Cue) {x : Cue} (hx : x ∈ s.cues.queue) (hwaits : x.waits = true) :
    Orderly (updateCue x.id (takeContent s.time.second c) s) := by
  have hkeep (d : Cue) : (if d.id = x.id then takeContent s.time.second c d else d).id = d.id := by split <;> rfl
  have htwins (a : Cue) (ha : a ∈ s.cues.queue) (b : Cue) (hb : b ∈ s.cues.queue)
      (h : (if a.id = x.id then takeContent s.time.second c a else a).twins
        (if b.id = x.id then takeContent s.time.second c b else b)) : a.twins b := by
    have hstays (d : Cue) (hd : d ∈ s.cues.queue) :
        (if d.id = x.id then takeContent s.time.second c d else d).waits = true → d.waits = true := by
      split
      next hid => exact fun _ => (hs.eq_of_id hd hx hid) ▸ hwaits
      next => exact id
    have hkey (d : Cue) : (if d.id = x.id then takeContent s.time.second c d else d).key = d.key := by split <;> rfl
    have htemplate (d : Cue) : (if d.id = x.id then takeContent s.time.second c d else d).template = d.template := by
      split <;> rfl
    obtain ⟨hzero, hk, ht, hwa, hwb⟩ := h
    rw [hkey] at hzero hk
    rw [hkey] at hk
    rw [htemplate, htemplate] at ht
    exact ⟨hzero, hk, ht, hstays a ha hwa, hstays b hb hwb⟩
  refine ⟨?_, ?_, ?_, hs.nextId⟩ <;> rw [updateCue_queue]
  · rw [List.length_map]
    exact hs.size
  · exact hs.ids.map _ fun a b hab => by rwa [hkeep, hkeep]
  · refine List.pairwise_map.mpr (hs.ids.imp_of_mem fun {a b} ha hb hlt h => ?_)
    exact hs.not_twins ha hb (Nat.ne_of_lt hlt) (htwins a ha b hb h)

theorem orderly_placeCue {s : State} (hs : Orderly s) {c : Cue} (hapart : coalesceTarget c s = none) :
    Orderly (placeCue c s) := by
  unfold placeCue
  split
  next hroom => exact orderly_addCue hs hroom hapart
  next =>
    split
    next => exact orderly_of_cues (touches_queueReport s _ .cues (by decide)) hs
    next v hv =>
      split
      next =>
        have hqueue : (dropCues (fun x => x.id == v.id) .full s).cues.queue = s.cues.queue.filter fun x => !(x.id == v.id) := by
          rw [dropCues_eq]
          rfl
        refine orderly_addCue (orderly_dropCues hs _ _) ?_ ?_
        · rw [hqueue]
          have hmem : v ∈ s.cues.queue := List.mem_of_mem_filter (pickFirst_mem hv)
          exact lt_of_lt_of_le (List.length_filter_lt_length_iff_exists.mpr ⟨v, hmem, by simp⟩) hs.size
        · rw [coalesceTarget, hqueue, List.find?_eq_none]
          exact fun x hx => List.find?_eq_none.mp hapart x (List.mem_of_mem_filter hx)
      next => exact orderly_of_cues (touches_queueReport s _ .cues (by decide)) hs

theorem orderly_enterCue {s : State} (hs : Orderly s) (c : Cue) : Orderly (enterCue c s) := by
  cases h : coalesceTarget c s with
  | none =>
    rw [enterCue_placed h]
    exact orderly_dropCues (orderly_placeCue hs h) _ _
  | some x =>
    obtain ⟨hx, hwaits⟩ := coalesceTarget_some h
    rw [enterCue_coalesced h]
    exact orderly_dropCues (orderly_coalesce hs c hx hwaits) _ _

/-! ### Building a cue (R103 to R107, R110) -/

theorem expectedMinute_eq (r : ServiceRecord) : expectedMinute r = if r.cancelled then r.sm else r.sm + r.delay.getD 0 := by
  cases h : r.delay <;> simp [expectedMinute, h]

/-- R104: one element of a template, for a record and without one. -/
theorem elementPhrases_eq (s : State) (tm : CueTemplate) (r : Option ServiceRecord) (e : Element) :
    elementPhrases s.bank.params.dayStart tm.numberBase r e = elementGives s tm r e := by
  cases r with
  | none => cases e <;> rfl
  | some r =>
    cases e
    case platform => cases h : r.platform <;> simp [elementPhrases, elementGives, h, numberPhrase]
    case oldPlatform => cases h : r.previous <;> simp [elementPhrases, elementGives, h, numberPhrase]
    case schedTime => exact (List.append_nil _).symm
    case expectedTime => simp [elementPhrases, elementGives, timePhrases, civilMinute, expectedMinute_eq]
    case delayMinutes => cases h : r.delay <;> simp [elementPhrases, elementGives, h, numberPhrase]
    all_goals simp [elementPhrases, elementGives]

theorem languageList_eq (s : State) (tm : CueTemplate) (r : Option ServiceRecord) :
    languageList s.bank.params.dayStart tm r = languageGives s tm r :=
  congrArg (fun f => (tm.elements.take tm.elementCount).flatMap f) (funext (elementPhrases_eq s tm r))

/-- R105: the expansion never needs its cut to 16 codes but where the list itself is longer. -/
theorem expandLanguages_eq (languages : BitVec 4) (list : List Nat) :
    expandLanguages languages list = spokenCodes languages list := by
  have hcut (ls : List Nat) (h : ls.length * list.length ≤ 16) :
      (ls.flatMap (inLanguage list)).take 16 = ls.flatMap (inLanguage list) :=
    List.take_of_length_le (by rwa [length_flatMap_inLanguage])
  change (if (bitsOf languages).length * list.length ≤ 16 then (bitsOf languages).flatMap (inLanguage list)
    else if 16 < list.length then (((bitsOf languages).take 1).flatMap (inLanguage list)).take 16
    else ((bitsOf languages).take (16 / list.length)).flatMap (inLanguage list)) =
    (((bitsOf languages).take (if (bitsOf languages).length * list.length ≤ 16 then (bitsOf languages).length
      else if list.length ≤ 16 then 16 / list.length else 1)).flatMap (inLanguage list)).take 16
  split
  next hall => rw [List.take_length, hcut _ hall]
  next =>
    by_cases hlong : 16 < list.length
    · rw [if_pos hlong, if_neg (Nat.not_le.mpr hlong)]
    · rw [if_neg hlong, if_pos (Nat.not_lt.mp hlong), hcut]
      calc ((bitsOf languages).take (16 / list.length)).length * list.length
          ≤ 16 / list.length * list.length := Nat.mul_le_mul_right _ (List.length_take_le _ _)
        _ ≤ 16 := Nat.div_mul_le_self 16 list.length

theorem zonesGiven_eq (s : State) (tm : CueTemplate) (r : Option ServiceRecord) :
    zonesGiven s tm r =
      if sourceMask s.bank tm r &&& s.bank.zonesInUse = 0#8 then tm.fallbackZones &&& s.bank.zonesInUse
      else sourceMask s.bank tm r &&& s.bank.zonesInUse := by
  cases hsource : tm.zoneSource <;> cases r <;> simp only [zonesGiven, sourceMask, hsource] <;> rfl

theorem resolveZones_eq (s : State) (tm : CueTemplate) (r : Option ServiceRecord) :
    resolveZones s.bank tm r = zonesGiven s tm r := by
  rw [zonesGiven_eq, resolveZones]
  by_cases h : sourceMask s.bank tm r &&& s.bank.zonesInUse = 0#8
  · rw [if_pos h, if_neg (by simp [h])]
  · rw [if_neg h, if_pos (by simpa using h)]

theorem templateRelease_eq (t : CueTemplate) (r : Option ServiceRecord) (sec : Nat) :
    templateRelease t r sec = match t.release, r with
      | some m, some r => (if r.cancelled then r.sm else r.sm + r.delay.getD 0) * 60 - (m : Int) * 60
      | _, _ => (sec : Int) := by
  cases hrelease : t.release <;> cases r <;> simp only [templateRelease, hrelease, expectedMinute_eq]

/-- R103 to R110: the cue that steps 1 to 3 of a request make. -/
theorem newCue_eq (s : State) (source : CueSource) (key n : Nat) (r : Option ServiceRecord) :
    newCue source key (some n)
      (expandLanguages (s.bank.templates.getD n emptyTemplate).languages
        (languageList s.bank.params.dayStart (s.bank.templates.getD n emptyTemplate) r))
      (resolveZones s.bank (s.bank.templates.getD n emptyTemplate) r)
      (if source = .overrideCue then 7 else (s.bank.templates.getD n emptyTemplate).priority)
      (templateRelease (s.bank.templates.getD n emptyTemplate) r s.time.second)
      (templateRelease (s.bank.templates.getD n emptyTemplate) r s.time.second +
        ((s.bank.templates.getD n emptyTemplate).lifetime : Int))
      (s.bank.templates.getD n emptyTemplate).playLimit s.time.second = requestedCue s source key n r 0 := by
  rw [expandLanguages_eq, languageList_eq, resolveZones_eq, templateRelease_eq]
  rfl

/-! ### A request (R102 to R110) -/

/-- R110: the cue of step 3 is dropped for its expiry, or admitted. -/
theorem timeCue_eq (source : CueSource) (key : Nat) (template : Option Nat) (codes : List Nat) (zones : BitVec 8)
    (priority : Nat) (release : Int) (lifetime playLimit : Nat) (s : State) (c : Cue)
    (hc : newCue source key template codes zones priority release (release + (lifetime : Int)) playLimit s.time.second = c) :
    timeCue source key template codes zones priority release lifetime playLimit s =
      if 172799 < c.expiry then s.setNode (nodeAfterReports [.cueDropped none source key template .refused] s.node)
      else if c.expiry < (s.time.second : Int) then
        s.setNode (nodeAfterReports [.cueDropped none source key template .expired] s.node)
      else enterCue c s := by
  subst hc
  rw [timeCue, dropRequest, dropRequest, queueReport_eq, queueReport_eq]
  rfl

/-- A request dropped at a step, with no cue id (R119). -/
def requestDropped (s : State) (source : CueSource) (key n : Nat) (reason : DropReason) : State :=
  s.setNode (nodeAfterReports [.cueDropped none source key (some n) reason] s.node)

theorem dropRequest_eq (s : State) (source : CueSource) (key n : Nat) (reason : DropReason) :
    dropRequest source key (some n) reason s = requestDropped s source key n reason := queueReport_eq _ s

/-- R102 to R110: a request by the step that ends it. -/
theorem requestTemplate_eq (s : State) (source : CueSource) (key n : Nat) (r : Option ServiceRecord) :
    requestTemplate source key n r s =
      if (s.bank.templates.getD n emptyTemplate).inUse = false ∨
          languageGives s (s.bank.templates.getD n emptyTemplate) r = [] then
        requestDropped s source key n .refused
      else if (requestedCue s source key n r 0).zones = 0#8 then requestDropped s source key n .noZone
      else if 172799 < (requestedCue s source key n r 0).expiry then requestDropped s source key n .refused
      else if (requestedCue s source key n r 0).expiry < (s.time.second : Int) then requestDropped s source key n .expired
      else enterCue (requestedCue s source key n r 0) s := by
  have hlist : ((!(s.bank.templates.getD n emptyTemplate).inUse ||
      (languageList s.bank.params.dayStart (s.bank.templates.getD n emptyTemplate) r).isEmpty) = true) ↔
      (s.bank.templates.getD n emptyTemplate).inUse = false ∨
        languageGives s (s.bank.templates.getD n emptyTemplate) r = [] := by
    rw [languageList_eq, Bool.or_eq_true, List.isEmpty_iff, Bool.not_eq_true']
  have hzones : ((resolveZones s.bank (s.bank.templates.getD n emptyTemplate) r == 0#8) = true) ↔
      (requestedCue s source key n r 0).zones = 0#8 := by
    rw [resolveZones_eq, beq_iff_eq]
    rfl
  simp only [requestTemplate, hlist, hzones, dropRequest_eq,
    timeCue_eq _ _ _ _ _ _ _ _ _ _ _ (newCue_eq s source key n r)]
  rfl

/-- What any request leaves, in a state whose cue queue is in order. -/
theorem requestTaken_requestCue {s : State} (hs : Orderly s) (source : CueSource) (key : Nat) (template : Option Nat)
    (r : Option ServiceRecord) : RequestTaken source key template r s (requestCue source key template r s) := by
  refine ⟨fun hout => ?_, fun n hrun htemplate => ?_⟩
  · unfold requestCue
    rcases hout with hstate | rfl
    · exact if_neg hstate
    · exact ite_self s
  · subst htemplate
    have hrequest : requestCue source key (some n) r s = requestTemplate source key n r s := if_pos hrun
    rw [hrequest, requestTemplate_eq]
    dsimp only
    split_ifs
    · rfl
    · rfl
    · rfl
    · rfl
    · exact admitted_enterCue hs rfl

theorem orderly_requestDropped {s : State} (hs : Orderly s) {source : CueSource} {key n : Nat} {reason : DropReason} :
    Orderly (requestDropped s source key n reason) := orderly_of_cues (s := s) rfl hs

theorem orderly_requestCue {s : State} (hs : Orderly s) (source : CueSource) (key : Nat) (template : Option Nat)
    (r : Option ServiceRecord) : Orderly (requestCue source key template r s) := by
  unfold requestCue
  split
  · cases template with
    | none => exact hs
    | some n =>
      simp only [requestTemplate_eq]
      split_ifs
      · exact orderly_requestDropped hs
      · exact orderly_requestDropped hs
      · exact orderly_requestDropped hs
      · exact orderly_requestDropped hs
      · exact orderly_enterCue hs _
  · exact hs

/-! ### CUE POST (R109, R110, R113, R114) -/

theorem cuePostBad_iff (b : CuePostBody) :
    cuePostBad b = true ↔
      b.codes.length < 1 ∨ 16 < b.codes.length ∨ (∃ c ∈ b.codes, 4095 < c) ∨ b.zones = 0#8 ∨ 7 < b.priority ∨
        (∃ r, b.release = some r ∧ 172799 < r) ∨ b.lifetime < 10 ∨ 1800 < b.lifetime ∨
        (∃ r, b.release = some r ∧ 172799 < r + b.lifetime) := by
  have hempty : b.codes.length < 1 ↔ b.codes = [] := by rw [Nat.lt_one_iff, List.length_eq_zero_iff]
  cases hrelease : b.release <;>
    simp only [cuePostBad, hrelease, hempty, Bool.or_eq_true, decide_eq_true_eq, List.isEmpty_iff, List.any_eq_true,
      beq_iff_eq, Bool.false_eq_true, Option.some.injEq, reduceCtorEq, false_and, exists_false, exists_eq_left'] <;>
    simp only [Config.maxCodes, Config.lastExpiry] <;>
    grind

/-- R114: an accepted CUE POST of a zone in use is timed and enters as `postedCue`. -/
theorem cuePost_enters {s : State} {b : CuePostBody} (hrun : s.node.state = .running) (hgood : cuePostBad b = false)
    (hzones : b.zones &&& s.bank.zonesInUse ≠ 0#8) (hsec : s.time.second ≤ 86399)
    (hexp : (s.time.second : Int) ≤ (postedCue s b 0).expiry) (mode : AddrMode) :
    cuePost mode b s = enterCue (postedCue s b 0) s := by
  have hlast : ¬ (172799 : Int) < (postedCue s b 0).expiry := by
    have hbad := (cuePostBad_iff b).not.mp (Bool.eq_false_iff.mp hgood)
    cases hrelease : b.release <;> simp only [postedCue, hrelease] <;>
      simp only [hrelease, Option.some.injEq, exists_eq_left'] at hbad <;> omega
  rw [cuePost, if_pos hrun, if_neg (Bool.eq_false_iff.mp hgood), if_neg (fun h => hzones (beq_iff_eq.mp h))]
  refine (timeCue_eq _ _ _ _ _ _ _ _ _ s (postedCue s b 0) rfl).trans ?_
  rw [if_neg hlast, if_neg (not_lt.mpr hexp)]

/-- A cue of no service is coalesced into none (R111). -/
theorem coalesceTarget_posted (s : State) (b : CuePostBody) (t : State) : coalesceTarget (postedCue s b 0) t = none :=
  coalesceTarget_none_of fun _ _ h => h.1 rfl

/-- R131: a queue whose DUE cues have usable zones loses none as a cue with usable zones joins it. -/
theorem noZoneCheck_addCue {s t : State} {c : Cue} (hline : t.line = s.line) (hq : ∀ x ∈ t.cues.queue, x ∈ s.cues.queue)
    (hhome : ∀ x ∈ s.cues.queue, x.state = .due → usableZones s.line x.zones ≠ [])
    (hc : usableZones s.line c.zones ≠ []) : noZoneCheck (addCue c t) = addCue c t := by
  refine noZoneCheck_none _ fun x hx hdue => ?_
  change usableZones t.line x.zones ≠ []
  rw [hline]
  rcases mem_insertCue.mp hx with rfl | hx
  · exact hc
  · exact hhome x (hq x hx) hdue

/-- Settles O47: `cuePost` refuses, drops, or enters the posted cue, which joins a queue with room. -/
theorem cuePostJoinsQueue : Obligations.CuePostJoinsQueue := by
  intro s mode b
  change (_ → _) ∧ (_ → _ → _) ∧ (_ → ¬ _ → _ → _) ∧ (_ → ¬ _ → _ → _)
  rw [← cuePostBad_iff]
  refine ⟨fun hstate => ?_, fun hrun hbad => ?_, fun hrun hgood hzones => ?_,
    fun hrun hgood hzones hsec hroom hnext hhome hown hexp => ?_⟩
  · rw [exec, execCuePost, cuePost, if_neg hstate]
  · rw [exec, execCuePost, cuePost, if_pos hrun, if_pos hbad, reportIfPosition_eq]
    rfl
  · rw [exec, execCuePost, cuePost, if_pos hrun, if_neg hgood, if_pos (beq_iff_eq.mpr hzones), dropRequest, queueReport_eq]
    rfl
  · obtain ⟨k, hk, hfree, hused⟩ := firstFreeId_nextCueId (s := s) (by omega) hnext
    refine ⟨nextCueId s, k, hk, hfree, hused, ?_⟩
    rw [exec, execCuePost, cuePost_enters hrun (Bool.eq_false_iff.mpr hgood) hzones hsec hexp,
      enterCue_placed (coalesceTarget_posted s b s), placeCue_room hroom,
      noZoneCheck_addCue rfl (fun _ hx => hx) hhome hown]
    rfl

/-- Settles O48: the victim makes room for a cue of higher priority, and no other is taken in. -/
theorem fullQueueGivesUpVictim : Obligations.FullQueueGivesUpVictim := by
  intro s mode b v hs hrun hgood hzones hsec hfull hhome hown hexp hv hwaits hfirst
  have henter : exec (.cuePost mode b) s = .next (noZoneCheck (placeCue (postedCue s b 0) s)) := by
    rw [exec, execCuePost, cuePost_enters hrun hgood hzones hsec hexp, enterCue_placed (coalesceTarget_posted s b s)]
  rw [henter, placeCue_full hfull (victim_eq hv hwaits hfirst)]
  change (b.priority ≤ v.priority → Host.Outcome.next (noZoneCheck (if v.priority < b.priority then _ else _)) = _) ∧
    (v.priority < b.priority → ∃ id, _ ∧ Host.Outcome.next (noZoneCheck (if v.priority < b.priority then _ else _)) = _)
  refine ⟨fun hle => ?_, fun hlt => ⟨nextCueId (dropCues (fun x => x.id == v.id) .full s), ?_, ?_⟩⟩
  · rw [if_neg (Nat.not_lt.mpr hle), queueReport_eq, noZoneCheck_none]
    · rfl
    · exact hhome
  · obtain ⟨k, -, hfree, -⟩ := firstFreeId_without (u := dropCues (fun x => x.id == v.id) .full s) (v := v) hs.size hs.nextId
      (by rw [dropCues_id hs.ids hv]; rfl)
    refine fun c hc hid => by_contra fun hne => hfree c (List.mem_filter.mpr ⟨hc, bne_iff_ne.mpr fun h => hne ?_⟩) hid
    exact eq_of_id_eq ((cuesOk_iff s).mp hs).1 hc hv h
  · rw [if_pos hlt, dropCues_id hs.ids hv, noZoneCheck_addCue (s := s)]
    · rfl
    · rfl
    · exact fun _ hx => List.mem_of_mem_filter hx
    · exact hhome
    · exact hown

/-! ### Release and expiry of a named cue (R116, R131) -/

/-- Settles O49: the one cue is released before the NO ZONE check, and the expiry is a drop. -/
theorem cuesReleaseAndExpire : Obligations.CuesReleaseAndExpire := by
  intro s id
  constructor
  · have hrelease : (fun c : Cue => if c.id == id then c.release? s.time.second else c) = fun c =>
        if c.id = id ∧ c.state = .waiting ∧ c.release ≤ (s.time.second : Int) then { c with state := .due } else c := by
      funext c
      by_cases hid : c.id = id <;> simp [Cue.release?, hid]
    rw [exec, execCueRelease, updateCue, hrelease, noZoneCheck_eq]
    rfl
  · rw [exec, execCueExpiry, dropCues_eq]
    rfl

end Sys2Proof.Laws
end

section
/-! SUPPORT. Override control (R144 to R152) and the line break it makes. -/

namespace Sys2Proof.Laws

open Sys2Proof Sys2Proof.Machine

/-! ### Zones that wait for no address (R142) -/

/-- No zone waits to take an address. -/
def NoPending (l : LineCtl) : Prop := ∀ n, (l.zone n).pendingAddr = none

theorem noPending_of_forall {l : LineCtl} (h : ∀ z ∈ l.zones, z.pendingAddr = none) : NoPending l := by
  intro n
  rw [LineCtl.zone, List.getD_eq_getElem?_getD]
  cases hz : l.zones[n]? with
  | none => rfl
  | some z => exact h z (List.mem_of_getElem? hz)

theorem noPending_setZone {l : LineCtl} (h : NoPending l) (n : Nat) {z : Zone} (hz : z.pendingAddr = none) :
    NoPending (l.setZone n z) := by
  intro m
  by_cases hn : n < l.zones.length
  · rw [setZone_zone l n m z hn]
    split
    · exact hz
    · exact h m
  · have hsame : l.setZone n z = l := by
      rw [LineCtl.setZone, List.set_eq_of_length_le (Nat.not_lt.mp hn)]
    rw [hsame]
    exact h m

/-- A zone freed with no address pending concerns the line alone. -/
theorem touches_freeZone_alone {s : State} {n : Nat} (h : (s.line.zone n).pendingAddr = none) : Touches [.line] s (freeZone n s) := by
  rw [freeZone_eq n s h]
  exact (touches_putZone s n _).trans (touches_withdrawStop _ n)

theorem noPending_freeZone {s : State} (h : NoPending s.line) (n : Nat) : NoPending (freeZone n s).line := by
  rw [freeZone_line]
  exact noPending_setZone h n rfl

theorem touches_foldl_freeZone (l : List Nat) {s : State} (h : NoPending s.line) :
    Touches [.line] s (l.foldl (fun st n => freeZone n st) s) := by
  induction l generalizing s with
  | nil => exact touches_refl _ s
  | cons n l ih => exact (touches_freeZone_alone (h n)).trans (ih (noPending_freeZone h n))

/-- R127: with no address pending the line break concerns the line alone. -/
theorem lineBreak_eq {s : State} (h : NoPending s.line) : lineBreak s = s.setLine (lineBreak s).line := by
  refine eq_setLine_of_touches ((touches_setLine s _).trans (touches_foldl_freeZone _ fun n => ?_))
  change (((s.line.zones.map fun z => { z with pollDue := false }).getD n (resetZone 0)) : Zone).pendingAddr = none
  by_cases hn : n < s.line.zones.length
  · rw [zone_map s.line _ hn]
    exact h n
  · rw [List.getD_eq_default _ _ (by simpa using hn)]
    rfl

/-! ### OVERRIDE SET and OVERRIDE CLEAR -/

theorem overrideBad_iff (b : OverrideBody) :
    overrideBad b = true ↔ b.level < 1 ∨ 3 < b.level ∨ 7 < b.page ∨ 7 < b.floor ∨ ∃ t, b.template = some t ∧ 31 < t := by
  cases h : b.template <;> simp [overrideBad, h, or_assoc]

theorem overrideSet_entered {s : State} (hstate : s.node.state = .joining ∨ s.node.state = .running) {b : OverrideBody}
    (hgood : ¬ overrideBad b = true) (hlevel : s.ovr.level ≤ b.level) (mode : AddrMode) :
    overrideSet mode b s = enterOverride b s := by
  rw [overrideSet, if_pos (takesMessages_iff.mpr hstate), if_neg hgood, if_pos hlevel]

theorem enterOverride_low {b : OverrideBody} (h : b.level ≤ 2) (s : State) :
    enterOverride b s = requestCue .overrideCue 0 b.template none (s.setOvr (overrideOf b)) := by
  rw [enterOverride, if_neg (by omega)]

theorem enterOverride_three {b : OverrideBody} (h : b.level = 3) (s : State) :
    enterOverride b s = requestCue .overrideCue 0 b.template none (stopLine (s.setOvr (overrideOf b))) := by
  rw [enterOverride, if_pos h]

theorem requestCue_none (source : CueSource) (key : Nat) (r : Option ServiceRecord) (s : State) :
    requestCue source key none r s = s := ite_self s

/-- Settles O50: refused, overruled, or entered with its request; a CLEAR ends in the context of rest. -/
theorem overrideSetAndClearByLevel : Obligations.OverrideSetAndClearByLevel := by
  intro s mode b level
  change _ ∧ (_ → _ ∧ (¬ _ → _) ∧ (¬ _ → _) ∧ (¬ _ → _) ∧ _)
  rw [← overrideBad_iff]
  refine ⟨fun hj hr => ?_, fun hstate => ?_⟩
  · have hnot := takesMessages_eq_false hj hr
    simp [exec, execOverrideSet, overrideSet, execOverrideClear, overrideClear, hnot]
  · have htakes := takesMessages_iff.mpr hstate
    refine ⟨fun hbad => ?_, fun hgood hlow => ?_, fun hgood hlevel htwo hnone => ?_, fun hgood hlevel htwo hcues => ?_,
      fun hbad => ?_, fun hone hthree hlow => ?_, fun hone hthree hlevel => ?_⟩
    · rw [exec, execOverrideSet, overrideSet, if_pos htakes, if_pos hbad, reportIfPosition_eq]
      rfl
    · rw [exec, execOverrideSet, overrideSet, if_pos htakes, if_neg hgood, if_neg (Nat.not_le.mpr hlow), queueReport_eq]
      rfl
    · rw [exec, execOverrideSet, overrideSet_entered hstate hgood hlevel, enterOverride_low htwo, hnone, requestCue_none,
        overrideOf, hnone]
      rfl
    · refine ⟨_, by rw [exec, execOverrideSet, overrideSet_entered hstate hgood hlevel, enterOverride_low htwo], ?_⟩
      exact requestTaken_requestCue (s := s.setOvr (overrideOf b)) (orderly_of_cues (s := s) rfl (orderly_of_cuesOk hcues)) _ _ _ _
    · rw [exec, execOverrideClear, overrideClear, if_pos htakes, if_pos hbad, reportIfPosition_eq]
      rfl
    · rw [exec, execOverrideClear, overrideClear, if_pos htakes, if_neg (by omega), if_neg (by omega), queueReport_eq]
      rfl
    · rw [exec, execOverrideClear, overrideClear, if_pos htakes, if_neg (by omega), if_pos hlevel]
      rfl

/-- R151: with no address pending the line is broken and its cues go, STOPPED. -/
theorem stopLine_eq {s : State} (h : NoPending s.line) :
    stopLine s =
      ((s.setLine (lineBreak s).line).setCues { s.cues with queue := s.cues.queue.filter fun c => !c.onLine }).setNode
        (nodeAfterReports ((s.cues.queue.filter Cue.onLine).map (Cue.dropReport .stopped)) s.node) := by
  rw [stopLine, lineBreak_eq h, dropCues_eq]
  rfl

theorem cuesOk_stopLine {s : State} (hs : s.cuesOk) : (stopLine s).cuesOk :=
  ((evolves_lineBreak s).trans (evolves_dropCues (b := false) (a := false) _ _ _)).sound hs

/-- Settles O51: the context, the break and the drops come before the request. -/
theorem overrideLevelThreeBreaksLine : Obligations.OverrideLevelThreeBreaksLine := by
  intro s mode b hstate hthree hpage hfloor htemplate hlevel h8 hpending hcues
  have hgood : ¬ overrideBad b = true := by
    rw [overrideBad_iff]
    rintro (h | h | h | h | ⟨t, ht, h⟩)
    · omega
    · omega
    · omega
    · omega
    · exact absurd (htemplate t ht) (by omega)
  have hno : NoPending (s.setOvr (overrideOf b)).line := noPending_of_forall hpending
  refine ⟨stopLine (s.setOvr (overrideOf b)), _,
    by rw [exec, execOverrideSet, overrideSet_entered hstate hgood (by omega), enterOverride_three hthree], ?_, ?_⟩
  · have hentered : (s.setOvr (overrideOf b)).cuesOk := cuesOk_of_cues (s := s) rfl hcues
    exact requestTaken_requestCue (orderly_of_cuesOk (cuesOk_stopLine hentered)) _ _ _ _
  · have hovr : overrideOf b =
        { level := 3, boards := b.boards, page := b.page, floor := b.floor, template := b.template } := by
      rw [overrideOf, hthree]
    rw [stopLine_eq hno]
    refine ⟨lineBreak_broken rfl h8, hovr, rfl, rfl, rfl, rfl, rfl, rfl, rfl, rfl, fun hnone => ?_⟩
    rw [hnone, requestCue_none]

end Sys2Proof.Laws
end

section
/-! SUPPORT. What follows a post or an amend (R9 to R18, R50 to R53): the cue requests, the place in the table and the WATCH
report. -/

namespace Sys2Proof.Laws

open Sys2Proof Sys2Proof.Machine

/-! ### Requests do not look at the table (R102) -/

section

variable (s : State) (v : List ServiceRecord)

theorem noZoneCheck_setTable : noZoneCheck (s.setTable v) = (noZoneCheck s).setTable v := by
  rw [noZoneCheck_eq, noZoneCheck_eq]
  rfl

theorem placeCue_setTable (c : Cue) : placeCue c (s.setTable v) = (placeCue c s).setTable v := by
  have hvictim : victim (s.setTable v) = victim s := rfl
  simp only [placeCue, hvictim, State.setTable_cues]
  cases victim s with
  | none =>
    simp only [queueReport_eq]
    split_ifs <;> rfl
  | some x =>
    simp only [queueReport_eq, dropCues_eq]
    split_ifs <;> rfl

theorem enterCue_setTable (c : Cue) : enterCue c (s.setTable v) = (enterCue c s).setTable v := by
  cases h : coalesceTarget c s with
  | none =>
    rw [enterCue_placed (s := s.setTable v) h, enterCue_placed h, placeCue_setTable, noZoneCheck_setTable]
  | some x =>
    rw [enterCue_coalesced (s := s.setTable v) h, enterCue_coalesced h, ← noZoneCheck_setTable]
    rfl

theorem requestCue_setTable (source : CueSource) (key : Nat) (template : Option Nat) (r : Option ServiceRecord) :
    requestCue source key template r (s.setTable v) = (requestCue source key template r s).setTable v := by
  cases template with
  | none => rw [requestCue_none, requestCue_none]
  | some n =>
    by_cases hrun : s.node.state = .running
    · have hleft : requestCue source key (some n) r (s.setTable v) = requestTemplate source key n r (s.setTable v) := if_pos hrun
      have hright : requestCue source key (some n) r s = requestTemplate source key n r s := if_pos hrun
      rw [hleft, hright, requestTemplate_eq, requestTemplate_eq]
      simp only [apply_ite (fun u : State => u.setTable v), ← enterCue_setTable]
      rfl
    · have hleft : requestCue source key (some n) r (s.setTable v) = s.setTable v := if_neg hrun
      have hright : requestCue source key (some n) r s = s := if_neg hrun
      rw [hleft, hright]

end

/-! ### The requests of one record -/

/-- R102: one request of a record, by its source and template. -/
def ask (r : ServiceRecord) (s : State) (q : CueSource × Option Nat) : State := requestCue q.1 r.key q.2 (some r) s

/-- The requests of one record, in order. -/
def askAll (r : ServiceRecord) (asks : List (CueSource × Option Nat)) (s : State) : State := asks.foldl (ask r) s

theorem askAll_append (r : ServiceRecord) (a b : List (CueSource × Option Nat)) (s : State) :
    askAll r (a ++ b) s = askAll r b (askAll r a s) := List.foldl_append

theorem askAll_setTable (r : ServiceRecord) (asks : List (CueSource × Option Nat)) (s : State) (v : List ServiceRecord) :
    askAll r asks (s.setTable v) = (askAll r asks s).setTable v := by
  induction asks generalizing s with
  | nil => rfl
  | cons q qs ih =>
    change askAll r qs (ask r (s.setTable v) q) = _
    rw [ask, requestCue_setTable]
    exact ih _

theorem touches_askAll (r : ServiceRecord) (asks : List (CueSource × Option Nat)) (s : State) :
    Touches [.cues, .node] s (askAll r asks s) := touches_foldl (fun s _ => touches_requestCue s _ _ _ _) asks s

theorem told_askAll (r : ServiceRecord) (asks : List (CueSource × Option Nat)) (s : State) : Told s (askAll r asks s) :=
  (calm_foldl (fun s _ => calm_requestCue s _ _ _ _) asks s).told

theorem askAll_nones (r : ServiceRecord) {asks : List (CueSource × Option Nat)} (h : ∀ q ∈ asks, q.2 = none) (s : State) :
    askAll r asks s = s := by
  induction asks with
  | nil => rfl
  | cons q qs ih =>
    have hq : ask r s q = s := by
      rw [ask, h q List.mem_cons_self]
      exact requestCue_none _ _ _ _
    change askAll r qs (ask r s q) = s
    rw [hq]
    exact ih fun p hp => h p (List.mem_cons_of_mem q hp)

/-- R102: each request of a record is taken whole before the next. -/
theorem requestsTaken_askAll (r : ServiceRecord) (asks : List (CueSource × Option Nat)) {s : State} (hs : Orderly s) :
    RequestsTaken r asks s (askAll r asks s) := by
  induction asks generalizing s with
  | nil => rfl
  | cons q qs ih =>
    exact ⟨ask r s q, requestTaken_requestCue hs _ _ _ _, ih (orderly_requestCue hs _ _ _ _)⟩

/-- A record whose rules are decided, under another mask and enable: its phrases and times are the same. -/
def redecided (r : ServiceRecord) (boards : BitVec 4) (enabled : Bool) (matchSet : BitVec 32) (notice : Option Nat) :
    ServiceRecord :=
  { r with boards := boards, cueEnabled := enabled, matchSet := matchSet, notice := notice }

section

variable (r : ServiceRecord) (boards : BitVec 4) (enabled : Bool) (matchSet : BitVec 32) (notice : Option Nat)

theorem languageList_redecided (ds : Nat) (tm : CueTemplate) :
    languageList ds tm (some (redecided r boards enabled matchSet notice)) = languageList ds tm (some r) := by
  refine congrArg (fun f => (tm.elements.take tm.elementCount).flatMap f) (funext fun e => ?_)
  cases e <;> rfl

theorem resolveZones_redecided (b : Bank) (tm : CueTemplate) :
    resolveZones b tm (some (redecided r boards enabled matchSet notice)) = resolveZones b tm (some r) := by
  have hsource : sourceMask b tm (some (redecided r boards enabled matchSet notice)) = sourceMask b tm (some r) := by
    cases h : tm.zoneSource <;> simp only [sourceMask, h] <;> rfl
  rw [resolveZones, resolveZones, hsource]

theorem templateRelease_redecided (tm : CueTemplate) (sec : Nat) :
    templateRelease tm (some (redecided r boards enabled matchSet notice)) sec = templateRelease tm (some r) sec := by
  cases h : tm.release <;> simp only [templateRelease, h]
  rfl

theorem requestTemplate_redecided (source : CueSource) (key n : Nat) (s : State) :
    requestTemplate source key n (some (redecided r boards enabled matchSet notice)) s =
      requestTemplate source key n (some r) s := by
  simp only [requestTemplate, languageList_redecided, resolveZones_redecided, templateRelease_redecided]

theorem requestCue_redecided (source : CueSource) (key : Nat) (template : Option Nat) (s : State) :
    requestCue source key template (some (redecided r boards enabled matchSet notice)) s =
      requestCue source key template (some r) s := by
  cases template with
  | none => rfl
  | some n =>
    exact congrArg (fun v => if s.node.state = .running then v else s) (requestTemplate_redecided r _ _ _ _ source key n s)

/-- The requests of a record are those of the record with its rules decided and its selection made. -/
theorem askAll_redecided (asks : List (CueSource × Option Nat)) (s : State) :
    askAll (redecided r boards enabled matchSet notice) asks s = askAll r asks s :=
  congrArg (fun f => asks.foldl f s) (funext fun u => funext fun q => requestCue_redecided r _ _ _ _ q.1 r.key q.2 u)

end

end Sys2Proof.Laws
end

section
/-! SUPPORT. SERVICE POST and SERVICE AMEND of a record that stays or leaves (R3, R9 to R18, R50 to R53). -/

namespace Sys2Proof.Laws

open Sys2Proof Sys2Proof.Machine

/-! ### The rule requests of an evaluation (R50 to R52) -/

theorem ruleMatches_redecided (b : Bank) (sec : Nat) (r : ServiceRecord) (m : BitVec 32) (notice : Option Nat) (n : Nat) :
    ruleMatches b sec { r with matchSet := m, notice := notice } n = ruleMatches b sec r n := rfl

theorem matchEdges_decided (b : Bank) (sec : Nat) (r : ServiceRecord) (old : BitVec 32) :
    matchEdges old (decideRules b sec r).matchSet =
      (List.range 32).filter fun n => ruleMatches b sec (decideRules b sec r) n && !old.getLsbD n :=
  List.filter_congr fun n hn => by
    change (_ && _) = (ruleMatches b sec r n && _)
    rw [decideRules, maskOf_getLsbD 32 _ n (List.mem_range.mp hn)]

/-- R51, R52: the rule requests of a record of cue enable, each for the template its rule names. -/
theorem ruleRequests_eq {r : ServiceRecord} {b : Bank} (edges : List Nat) :
    ∀ {s : State}, s.bank = b →
      ruleRequests edges r s =
        askAll r (if r.cueEnabled then edges.map fun n => (.rule n, (b.rule n).template) else []) s := by
  induction edges with
  | nil => intro s _; split <;> rfl
  | cons n ns ih =>
    intro s hb
    by_cases he : r.cueEnabled = true
    · have hstep : (if r.cueEnabled then
          match (s.bank.rule n).template with
          | none => s
          | some t => requestCue (.rule n) r.key (some t) (some r) s
        else s) = ask r s (.rule n, (b.rule n).template) := by
        rw [if_pos he, hb]
        cases h : (b.rule n).template with
        | none => exact (requestCue_none _ _ _ _).symm
        | some t => rfl
      have hbank : (ask r s (.rule n, (b.rule n).template)).bank = b :=
        (bank_of_touches (touches_requestCue s _ _ _ _) rfl).trans hb
      have hcons : ruleRequests (n :: ns) r s = ruleRequests ns r (ask r s (.rule n, (b.rule n).template)) :=
        congrArg (ruleRequests ns r) hstep
      rw [hcons, ih hbank, if_pos he, if_pos he]
      rfl
    · have hstep : ruleRequests (n :: ns) r s = ruleRequests ns r s := congrArg (ruleRequests ns r) (if_neg he)
      rw [hstep, ih hb, if_neg he, if_neg he]

theorem ruleRequests_decided {s : State} {b : Bank} {sec : Nat} (hbank : s.bank = b) (r : ServiceRecord) (u : State)
    (hu : u.bank = b) (hsec : u.time.second = sec) (old : BitVec 32) :
    ruleRequests (matchEdges old (decideRules b sec r).matchSet) (decideRules b sec r) s =
      askAll (decideRules b sec r) (ruleAsks u old (decideRules b sec r)) s := by
  rw [ruleRequests_eq _ hbank, matchEdges_decided, ruleAsks, hu, hsec]

/-! ### The place in the table (R3) -/

theorem find_insertRecord {r : ServiceRecord} {t : List ServiceRecord} (h : ∀ x ∈ t, x.key ≠ r.key) :
    (insertRecord r t).find? (fun x => x.key == r.key) = some r := by
  have hnone : (t.takeWhile fun x => before x r).find? (fun x => x.key == r.key) = none :=
    List.find?_eq_none.mpr fun x hx => by simpa using h x ((List.takeWhile_prefix _).subset hx)
  rw [insertRecord, List.find?_append, hnone, List.find?_cons_of_pos (by simp)]
  rfl

/-- A record that keeps its key and its place in the order replaces itself where it stands. -/
theorem replaceRecord_insertRecord {r q : ServiceRecord} {t : List ServiceRecord} (h : ∀ x ∈ t, x.key ≠ r.key)
    (hkey : q.key = r.key) (hplace : ∀ x, before x q = before x r) :
    replaceRecord q (insertRecord r t) = insertRecord q t := by
  have hothers (l : List ServiceRecord) (hl : ∀ x ∈ l, x ∈ t) :
      (l.map fun x => if x.key == q.key then q else x) = l := by
    refine (List.map_congr_left fun x hx => ?_).trans (List.map_id l)
    rw [if_neg (by simpa [hkey] using h x (hl x hx))]
    rfl
  rw [replaceRecord, insertRecord, insertRecord, List.map_append, List.map_cons, funext hplace, hkey, if_pos (by simp),
    ← hkey, hothers _ fun x hx => (List.takeWhile_prefix _).subset hx, hothers _ fun x hx => (List.dropWhile_suffix _).subset hx]

theorem removeKey_absent (key : Nat) (t : List ServiceRecord) : ∀ x ∈ removeKey key t, x.key ≠ key :=
  fun x hx => by simpa using (List.mem_filter.mp hx).2

/-! ### What a message leaves (R18) -/

theorem onlyServiceParts_of {s t : State} (h : Touches [.table, .cues, .node] s t) (k : Told s t) : onlyServiceParts s t := by
  have hnode : t.node = { s.node with reports := t.node.reports, loss := t.node.loss } := by
    obtain ⟨rs, hrs⟩ := k
    rw [hrs]
    exact nodeAfterReports_rest rs s.node
  have hstate : t = { s with table := t.table, cues := t.cues, node := t.node } := by
    refine eq_of_touches_nil fun b _ => ?_
    have hsame := h b
    cases b
    case table => rfl
    case cues => rfl
    case node => rfl
    all_goals exact hsame (by decide)
  rw [onlyServiceParts, ← hnode]
  exact hstate

/-- The state after a message that leaves `r`: its requests, the table, and the WATCH report. -/
def asked (ev : WatchEvent) (asks : List (CueSource × Option Nat)) (r : ServiceRecord) (t : List ServiceRecord) (s : State) :
    State := watchReport ev r ((askAll r asks s).setTable t)

section

variable (ev : WatchEvent) (asks : List (CueSource × Option Nat)) (r : ServiceRecord) (t : List ServiceRecord) (s : State)

theorem asked_table : (asked ev asks r t s).table = t := by rw [asked, watchReport_eq]; rfl

theorem asked_cues : (asked ev asks r t s).cues = (askAll r asks s).cues := by rw [asked, watchReport_eq]; rfl

theorem onlyServiceParts_asked : onlyServiceParts s (asked ev asks r t s) := by
  refine onlyServiceParts_of ?_ ?_
  · exact ((touches_askAll r asks s).mono (by decide)).trans
      (((touches_setTable _ _).mono (by decide)).trans ((touches_watchReport _ _ _).mono (by decide)))
  · have htold : Told (askAll r asks s) ((askAll r asks s).setTable t) := .of_eq rfl
    exact (told_askAll r asks s).trans (htold.trans (calm_watchReport _ _ _).told)

theorem askedAndWatched_asked (hs : Orderly s) : AskedAndWatched ev asks r s (asked ev asks r t s) := by
  obtain ⟨rs, hrs⟩ := told_askAll r asks s
  have hwatch : (askAll r asks s).node.watch = s.node.watch := by rw [hrs, nodeAfterReports_watch]
  refine ⟨askAll r asks s, requestsTaken_askAll r asks hs, asked_cues ev asks r t s, ?_⟩
  rw [asked, watchReport_eq, ← hwatch]
  rfl

end

theorem ruleAsks_of {s u : State} (hbank : u.bank = s.bank) (hsec : u.time.second = s.time.second) (old : BitVec 32)
    (r : ServiceRecord) : ruleAsks u old r = ruleAsks s old r := by
  rw [ruleAsks, ruleAsks, hbank, hsec]

theorem ruleAsks_nones {s : State} (h : ∀ n, (s.bank.rule n).template = none) (old : BitVec 32) (r : ServiceRecord) :
    ∀ q ∈ ruleAsks s old r, q.2 = none := by
  intro q hq
  unfold ruleAsks at hq
  split at hq
  · obtain ⟨n, -, rfl⟩ := List.mem_map.mp hq
    exact h n
  · cases hq

/-- R18, R53: a record inserted is decided in its place, its rule requests are made and its WATCH report follows. -/
theorem afterApply_insert (ev : WatchEvent) (s : State) {r : ServiceRecord} {t : List ServiceRecord}
    (h : ∀ x ∈ t, x.key ≠ r.key) :
    afterApply ev r.key (s.setTable (insertRecord r t)) =
      asked ev (ruleAsks s r.matchSet (decideRules s.bank s.time.second r)) (decideRules s.bank s.time.second r)
        (insertRecord (decideRules s.bank s.time.second r) t) s := by
  have hfind : (s.setTable (insertRecord r t)).findRecord r.key = some r := find_insertRecord h
  have heval : fullEvaluation r (s.setTable (insertRecord r t)) =
      (askAll (decideRules s.bank s.time.second r) (ruleAsks s r.matchSet (decideRules s.bank s.time.second r)) s).setTable
        (insertRecord (decideRules s.bank s.time.second r) t) := by
    have hstored : storeEvaluated r (s.setTable (insertRecord r t)) =
        s.setTable (insertRecord (decideRules s.bank s.time.second r) t) :=
      congrArg s.setTable (replaceRecord_insertRecord (q := decideRules s.bank s.time.second r) h rfl fun _ => rfl)
    rw [fullEvaluation, hstored, ← askAll_setTable]
    exact ruleRequests_decided (s := s.setTable (insertRecord (decideRules s.bank s.time.second r) t)) (b := s.bank)
      (sec := s.time.second) rfl r s rfl rfl r.matchSet
  have hagain : ((askAll (decideRules s.bank s.time.second r)
      (ruleAsks s r.matchSet (decideRules s.bank s.time.second r)) s).setTable
        (insertRecord (decideRules s.bank s.time.second r) t)).findRecord r.key = some (decideRules s.bank s.time.second r) :=
    find_insertRecord (r := decideRules s.bank s.time.second r) h
  simp only [afterApply, hfind, heval, hagain]
  rfl

/-! ### The built-in requests (R13 to R17) -/

/-- R13 to R17: what a field change asks for, where the record held cue enable. -/
def changeAsks (b : Bank) (enabled : Bool) (ch : FieldChange) : List (CueSource × Option Nat) :=
  if enabled then
    (if ch.cancelCue then [(.cancel, b.params.cancelTemplate)] else []) ++
      ch.platformCue.toList.map fun source => (source, builtInTemplate b source)
  else []

theorem builtInRequests_eq (enabled : Bool) (ch : FieldChange) (s : State) :
    builtInRequests enabled ch s = askAll ch.record (changeAsks s.bank enabled ch) s := by
  cases enabled with
  | false =>
    cases hp : ch.platformCue <;> simp [builtInRequests, builtInRequest, changeAsks, hp, askAll]
  | true =>
    have hcancel : (if ch.cancelCue then builtInRequest true .cancel ch.record s else s) =
        askAll ch.record (if ch.cancelCue then [(.cancel, s.bank.params.cancelTemplate)] else []) s := by
      split <;> rfl
    have hbank : (askAll ch.record (if ch.cancelCue then [(.cancel, s.bank.params.cancelTemplate)] else []) s).bank = s.bank :=
      bank_of_touches (touches_askAll _ _ s) rfl
    unfold changeAsks
    rw [if_pos rfl, askAll_append]
    simp only [builtInRequests, hcancel]
    cases hp : ch.platformCue with
    | none => rfl
    | some source => exact congrArg (fun b => requestCue source ch.record.key (builtInTemplate b source) _ _) hbank

/-- R9, R14 to R18: a change whose selection is not empty puts the record in its place, asks and watches. -/
theorem settleChange_kept (ev : WatchEvent) (enabled : Bool) (ch : FieldChange) {sel : BitVec 4 × Bool} (hsel : sel.1 ≠ 0#4)
    (s : State) {r : ServiceRecord}
    (hr : r = decideRules s.bank s.time.second { ch.record with boards := sel.1, cueEnabled := sel.2 }) :
    settleChange ev enabled ch sel s =
      asked ev (changeAsks s.bank enabled ch ++ ruleAsks s ch.record.matchSet r) r
        (insertRecord r (removeKey ch.record.key s.table)) s := by
  subst hr
  have hbuilt := touches_askAll ch.record (changeAsks s.bank enabled ch) s
  have hbank : (askAll ch.record (changeAsks s.bank enabled ch) s).bank = s.bank := bank_of_touches hbuilt rfl
  have htime : (askAll ch.record (changeAsks s.bank enabled ch) s).time = s.time := time_of_touches hbuilt rfl
  rw [settleChange, if_neg (by simpa using hsel), builtInRequests_eq, askAll_setTable]
  refine (afterApply_insert ev (askAll ch.record (changeAsks s.bank enabled ch) s)
    (r := { ch.record with boards := sel.1, cueEnabled := sel.2 }) (removeKey_absent _ _)).trans ?_
  have hsame := askAll_redecided ch.record sel.1 sel.2
    (decideRules s.bank s.time.second { ch.record with boards := sel.1, cueEnabled := sel.2 }).matchSet
    (decideRules s.bank s.time.second { ch.record with boards := sel.1, cueEnabled := sel.2 }).notice
    (changeAsks s.bank enabled ch) s
  rw [hbank, htime, ruleAsks_of hbank (congrArg TimeBase.second htime), asked, asked, askAll_append, ← hsame]
  rfl

/-- R14: a change that leaves the selection empty takes the record out, after its built-in requests. -/
theorem settleChange_left (ev : WatchEvent) (enabled : Bool) (ch : FieldChange) {sel : BitVec 4 × Bool} (hsel : sel.1 = 0#4)
    (s : State) :
    settleChange ev enabled ch sel s =
      leaveSelection ch.record
        ((askAll ch.record (changeAsks s.bank enabled ch) s).setTable (removeKey ch.record.key s.table)) := by
  rw [settleChange, if_pos (by simpa using hsel), builtInRequests_eq, askAll_setTable]
  rfl

end Sys2Proof.Laws
end

section
/-! SUPPORT. The field changes of a post and an amend (R12 to R17), and what the messages leave. -/

namespace Sys2Proof.Laws

open Sys2Proof Sys2Proof.Machine

/-! ### A present platform (R14 to R16) -/

/-- R14 to R16: the built-in source a present platform asks for. -/
def platformAsk (p : Option Nat) (r : ServiceRecord) : Option CueSource :=
  if p = r.platform ∨ p = none then none
  else if r.platform = none then some .assign
  else if 0 < r.attention ∧ r.previous = p then none
  else some .change

theorem applyPlatform_eq (period : Nat) (p : Option Nat) (r : ServiceRecord) :
    applyPlatform period p r =
      ({ r with platform := p, attention := (attentionAfter period p r).1, previous := (attentionAfter period p r).2 },
        platformAsk p r) := by
  cases r with
  | mk key sm delay platform previous attention =>
    cases platform with
    | none => cases p <;> simp [applyPlatform, attentionAfter, platformAsk]
    | some old =>
      cases p with
      | none => simp [applyPlatform, attentionAfter, platformAsk]
      | some new =>
        by_cases hsame : old = new
        · simp [applyPlatform, attentionAfter, platformAsk, hsame]
        · have hother : ¬ new = old := Ne.symm hsame
          by_cases hback : 0 < attention ∧ previous = some new <;>
            simp [applyPlatform, attentionAfter, platformAsk, hsame, hother, hback]

/-- R12, R13: the fields after a message with a platform. -/
theorem applyFields_some (period : Nat) (delay : Option (Option Int)) (p : Option Nat) (cancelled boarding : Option Bool)
    (r : ServiceRecord) :
    applyFields period delay (some p) cancelled boarding r =
      { record :=
          { r with
            delay := delay.getD r.delay, cancelled := cancelled.getD r.cancelled, boarding := boarding.getD r.boarding
            platform := p, attention := (attentionAfter period p r).1, previous := (attentionAfter period p r).2 }
        platformCue := platformAsk p r, cancelCue := cancelled.getD false && !r.cancelled
        platformChanged := decide (r.platform ≠ p) } := by
  simp only [applyFields, applyPlatform_eq]
  rfl

/-- R13 to R17: the built-in requests of a message on `old`, whatever else it restates. -/
theorem changeAsks_eq (s : State) (old : ServiceRecord) {ch : FieldChange} {cancels : Bool} {p : Option Nat}
    (hcancel : ch.cancelCue = (cancels && !old.cancelled)) (hp : ch.platformCue = platformAsk p old) :
    changeAsks s.bank old.cueEnabled ch = builtInAsks s old cancels p := by
  have hplatform : (ch.platformCue.toList.map fun source => (source, builtInTemplate s.bank source)) =
      if p = old.platform ∨ p = none then []
      else if old.platform = none then [(.assign, s.bank.params.assignTemplate)]
      else if 0 < old.attention ∧ old.previous = p then []
      else [(.change, s.bank.params.changeTemplate)] := by
    rw [hp, platformAsk]
    split_ifs <;> rfl
  rw [changeAsks, builtInAsks, hcancel, hplatform]

/-! ### SERVICE POST (R9, R10) -/

theorem servicePost_new {s : State} {b : PostBody} (hrun : s.node.state = .running) (hgood : postBad b = false)
    (habsent : ∀ r ∈ s.table, r.key ≠ b.key)
    (hsel : (selectRecord s.bank.selection (normPlatform b.platform) b.opClass).1 ≠ 0#4) (mode : AddrMode) :
    servicePost mode b s = postNew (postRecord b (selectRecord s.bank.selection (normPlatform b.platform) b.opClass)) s := by
  have hnone := findRecord_eq_none habsent
  simp only [servicePost, if_pos hrun, hgood, Bool.false_eq_true, if_false, hnone]
  exact if_neg (by simpa using hsel)

theorem createRecord_eq {s : State} {r : ServiceRecord} (habsent : ∀ x ∈ s.table, x.key ≠ r.key) :
    createRecord r s =
      asked .posted (ruleAsks s r.matchSet (decideRules s.bank s.time.second r)) (decideRules s.bank s.time.second r)
        (insertRecord (decideRules s.bank s.time.second r) s.table) s := afterApply_insert .posted s habsent

/-- Settles O38: a new record is created, a held one is settled, and both end in `asked`. -/
theorem postCreatesRecordInPlace : Obligations.PostCreatesRecordInPlace := by
  constructor
  · intro s mode b hrun hgood habsent hroom hsel
    refine ⟨servicePost mode b s, rfl, ?_⟩
    rw [servicePost_new hrun hgood habsent hsel, postNew, if_pos (show s.table.length < Config.maxRecords from hroom),
      createRecord_eq (r := postRecord b _) habsent]
    refine ⟨onlyServiceParts_asked _ _ _ _ _, asked_table _ _ _ _ _, fun hnones => ?_, fun hs => ?_⟩
    · rw [asked_cues, askAll_nones _ (ruleAsks_nones hnones _ _)]
    · exact askedAndWatched_asked _ _ _ _ _ (orderly_of_cuesOk hs)
  · intro s mode b old hrun hgood hfind hsel
    have hkey := key_of_findRecord hfind
    refine ⟨servicePost mode b s, rfl, ?_⟩
    have hpost : servicePost mode b s =
        postHeld b old (selectRecord s.bank.selection (normPlatform b.platform) b.opClass) s := by
      simp only [servicePost, if_pos hrun, hgood, Bool.false_eq_true, if_false, hfind]
      exact if_neg (by simpa using hsel)
    rw [hpost, postHeld, applyFields_some, settleChange_kept _ _ _ hsel s rfl,
      changeAsks_eq s old (cancels := b.cancelled) (p := normPlatform b.platform) rfl rfl, hkey]
    refine ⟨onlyServiceParts_asked _ _ _ _ _, asked_table _ _ _ _ _, fun hs => ?_⟩
    exact askedAndWatched_asked _ _ _ _ _ (orderly_of_cuesOk hs)

/-! ### SERVICE AMEND (R12 to R17) -/

theorem serviceAmend_held {s : State} {b : AmendBody} {old : ServiceRecord} (hrun : s.node.state = .running)
    (hfind : s.findRecord b.key = some old) (mode : AddrMode) :
    serviceAmend mode b s =
      settleChange .amended old.cueEnabled (amendChange s.bank.params.attentionPeriod b old)
        (amendSelection s.bank.selection (amendChange s.bank.params.attentionPeriod b old)) s := by
  simp only [serviceAmend, if_pos hrun, hfind]

theorem clampDelay_some (d : Int) : clampDelay (some d) = some (if d < -15 then -15 else if 999 < d then 999 else d) := by
  change some (max (-15) (min 999 d)) = _
  split_ifs <;> simp only [Option.some.injEq] <;> omega

/-- Settles O41: without a platform the selection stays, and the record goes to its new place. -/
theorem amendReplacesPresentFields : Obligations.AmendReplacesPresentFields := by
  intro s mode key delay cancelled boarding old hrun hfind hboards
  have hkey := key_of_findRecord hfind
  subst hkey
  refine ⟨_, rfl, ?_⟩
  have hdelay : (delay.map clampDelay).getD old.delay =
      match delay with
      | none => old.delay
      | some none => none
      | some (some d) => some (if d < -15 then -15 else if 999 < d then 999 else d) := by
    rcases delay with _ | _ | d
    · rfl
    · rfl
    · exact clampDelay_some d
  have hkept := settleChange_kept .amended old.cueEnabled
    (applyFields s.bank.params.attentionPeriod (delay.map clampDelay) none cancelled boarding old)
    (sel := (old.boards, old.cueEnabled)) hboards s rfl
  rw [changeAsks_eq s old (ch := applyFields _ _ none cancelled boarding old) (cancels := cancelled.getD false)
    (p := old.platform) rfl (if_pos (Or.inl rfl)).symm] at hkept
  have hamend := (serviceAmend_held (b := { key := old.key, delay, platform := none, cancelled, boarding }) hrun hfind mode).trans hkept
  simp only [applyFields, hdelay] at hamend
  rw [hamend]
  refine ⟨onlyServiceParts_asked _ _ _ _ _, asked_table _ _ _ _ _, fun hs => ?_⟩
  exact askedAndWatched_asked _ _ _ _ _ (orderly_of_cuesOk hs)

/-- The record an amend of the platform alone leaves before its evaluation. -/
def withPlatform (period : Nat) (p : Option Nat) (r : ServiceRecord) : ServiceRecord :=
  { r with platform := p, attention := (attentionAfter period p r).1, previous := (attentionAfter period p r).2 }

section

variable {s : State} {old : ServiceRecord} {p : Nat} (hrun : s.node.state = .running)
  (hfind : s.findRecord old.key = some old) (hother : normPlatform p ≠ old.platform) (mode : AddrMode)

include hrun hfind hother

/-- R14: the platform differs, so selection is evaluated anew. -/
theorem serviceAmend_platform :
    serviceAmend mode { key := old.key, delay := none, platform := some p, cancelled := none, boarding := none } s =
      settleChange .amended old.cueEnabled
        { record := withPlatform s.bank.params.attentionPeriod (normPlatform p) old
          platformCue := platformAsk (normPlatform p) old, cancelCue := false, platformChanged := true }
        (selectRecord s.bank.selection (normPlatform p) old.opClass) s := by
  have hchange : amendChange s.bank.params.attentionPeriod
      { key := old.key, delay := none, platform := some p, cancelled := none, boarding := none } old =
      { record := withPlatform s.bank.params.attentionPeriod (normPlatform p) old
        platformCue := platformAsk (normPlatform p) old, cancelCue := false, platformChanged := true } := by
    refine (applyFields_some _ none (normPlatform p) none none old).trans ?_
    rw [decide_eq_true (Ne.symm hother)]
    rfl
  rw [serviceAmend_held hrun hfind, hchange]
  rfl

theorem amendPlatform_left (hsel : (selectRecord s.bank.selection (normPlatform p) old.opClass).1 = 0#4) :
    serviceAmend mode { key := old.key, delay := none, platform := some p, cancelled := none, boarding := none } s =
      leaveSelection (withPlatform s.bank.params.attentionPeriod (normPlatform p) old)
        ((askAll (withPlatform s.bank.params.attentionPeriod (normPlatform p) old)
          (builtInAsks s old false (normPlatform p)) s).setTable (removeKey old.key s.table)) := by
  rw [serviceAmend_platform hrun hfind hother, settleChange_left _ _ _ hsel, changeAsks_eq s old (cancels := false) rfl rfl]
  rfl

theorem amendPlatform_kept (hsel : (selectRecord s.bank.selection (normPlatform p) old.opClass).1 ≠ 0#4)
    {r : ServiceRecord}
    (hr : r = decideRules s.bank s.time.second
      { withPlatform s.bank.params.attentionPeriod (normPlatform p) old with
        boards := (selectRecord s.bank.selection (normPlatform p) old.opClass).1
        cueEnabled := (selectRecord s.bank.selection (normPlatform p) old.opClass).2 }) :
    serviceAmend mode { key := old.key, delay := none, platform := some p, cancelled := none, boarding := none } s =
      asked .amended (builtInAsks s old false (normPlatform p) ++ ruleAsks s old.matchSet r) r
        (insertRecord r (removeKey old.key s.table)) s := by
  rw [serviceAmend_platform hrun hfind hother, settleChange_kept _ _ _ hsel s hr,
    changeAsks_eq s old (cancels := false) rfl rfl]
  rfl

end

/-- R14 to R16, by the cases of the old and the new platform. -/
theorem attentionAfter_other {period : Nat} {p : Option Nat} {old : ServiceRecord} (h : p ≠ old.platform) :
    let after := attentionAfter period p old
    (p = none → after.1 = 0 ∧ after.2 = none) ∧
    (old.platform = none → after.1 = old.attention ∧ after.2 = old.previous) ∧
    (p ≠ none → old.platform ≠ none →
      (0 < old.attention ∧ old.previous = p → after.1 = 0 ∧ after.2 = none) ∧
      (¬(0 < old.attention ∧ old.previous = p) →
        after.1 = period ∧ after.2 = if 0 < period then old.platform else none)) := by
  intro after
  have hafter : after = attentionAfter period p old := rfl
  rw [attentionAfter, if_neg h] at hafter
  refine ⟨fun hp => ?_, fun hold => ?_, fun hp hold => ⟨fun hback => ?_, fun hback => ?_⟩⟩
  · rw [hafter, if_pos hp]
    exact ⟨rfl, rfl⟩
  · rw [hafter, if_neg (fun hp => h (hp.trans hold.symm)), if_pos hold]
    exact ⟨rfl, rfl⟩
  · rw [hafter, if_neg hp, if_neg hold, if_pos hback]
    exact ⟨rfl, rfl⟩
  · rw [hafter, if_neg hp, if_neg hold, if_neg hback]
    exact ⟨rfl, rfl⟩

theorem findRecord_asked {ev : WatchEvent} {asks : List (CueSource × Option Nat)} {key : Nat} {t : List ServiceRecord}
    {r : ServiceRecord} (s : State) (hkey : r.key = key) :
    (asked ev asks r (insertRecord r (removeKey key t)) s).findRecord key = some r := by
  subst hkey
  exact (congrArg (List.find? _) (asked_table _ _ _ _ _)).trans (find_insertRecord (removeKey_absent _ _))

/-- R17: without cue enable and rule templates, an amend asks for no cue. -/
theorem askAll_disabled {s : State} {old r : ServiceRecord} {asks : List (CueSource × Option Nat)} {p : Option Nat}
    (hdisabled : old.cueEnabled = false) (hasks : ∀ q ∈ asks, q.2 = none) :
    askAll r (builtInAsks s old false p ++ asks) s = s := by
  rw [builtInAsks, hdisabled, if_neg (by decide), List.nil_append, askAll_nones _ hasks]

/-- The state after an amend of the platform that selection rejects. -/
def askedAndLeft (asks : List (CueSource × Option Nat)) (r : ServiceRecord) (t : List ServiceRecord) (s : State) : State :=
  leaveSelection r ((askAll r asks s).setTable t)

section

variable (asks : List (CueSource × Option Nat)) (r : ServiceRecord) (t : List ServiceRecord) (s : State)

theorem askedAndLeft_table : (askedAndLeft asks r t s).table = t := by rw [askedAndLeft, leaveSelection_eq]; rfl

theorem askedAndLeft_cues : (askedAndLeft asks r t s).cues = (askAll r asks s).cues := by
  rw [askedAndLeft, leaveSelection_eq]; rfl

theorem onlyServiceParts_askedAndLeft : onlyServiceParts s (askedAndLeft asks r t s) := by
  refine onlyServiceParts_of ?_ ?_
  · exact ((touches_askAll r asks s).mono (by decide)).trans
      (((touches_setTable _ _).mono (by decide)).trans ((touches_leaveSelection _ _).mono (by decide)))
  · have htold : Told (askAll r asks s) ((askAll r asks s).setTable t) := .of_eq rfl
    exact (told_askAll r asks s).trans (htold.trans (calm_leaveSelection _ _).told)

theorem askedAndLeft_node :
    (askedAndLeft asks r t s).node =
      nodeAfterReports
        (.leftSelection r.key :: if r.key ∈ s.node.watch then [.watch .leftSelection r.summary] else [])
        (askAll r asks s).node := by
  obtain ⟨rs, hrs⟩ := told_askAll r asks s
  have hwatch : (askAll r asks s).node.watch = s.node.watch := by rw [hrs, nodeAfterReports_watch]
  rw [askedAndLeft, leaveSelection_eq]
  change nodeAfterReports (if r.key ∈ (askAll r asks s).node.watch then _ else _) _ = _
  rw [hwatch]
  split_ifs <;> rfl

end

/-- Settles O40: the amend is a change of the platform, which selection keeps or rejects. -/
theorem amendChangesPlatform : Obligations.AmendChangesPlatform := by
  intro s mode key p old hrun hfind hother period sel
  have hkey := key_of_findRecord hfind
  subst hkey
  refine ⟨_, rfl, ?_⟩
  by_cases hsel : sel.1 = 0#4
  · have hleft := amendPlatform_left hrun hfind hother mode hsel
    rw [hleft.trans (show _ = askedAndLeft _ _ _ _ from rfl)]
    refine ⟨onlyServiceParts_askedAndLeft _ _ _ _, fun _ => askedAndLeft_table _ _ _ _, fun h => absurd hsel h,
      fun hdisabled _ => ?_, fun hs => ⟨fun _ => ?_, fun h => absurd hsel h⟩⟩
    · rw [askedAndLeft_cues, ← List.append_nil (builtInAsks _ _ _ _), askAll_disabled hdisabled (by simp)]
    · exact ⟨_, requestsTaken_askAll _ _ (orderly_of_cuesOk hs), askedAndLeft_cues _ _ _ _, askedAndLeft_node _ _ _ _⟩
  · rw [amendPlatform_kept hrun hfind hother mode hsel rfl]
    refine ⟨onlyServiceParts_asked _ _ _ _ _, fun h => absurd h hsel, fun _ => ?_, fun hdisabled hnones => ?_, fun hs => ?_⟩
    · refine ⟨_, findRecord_asked s rfl, ?_⟩
      exact ⟨rfl, rfl, rfl, rfl, rfl, rfl, rfl, rfl, rfl, rfl, attentionAfter_other hother⟩
    · rw [asked_cues, askAll_disabled hdisabled (ruleAsks_nones hnones _ _)]
    · refine ⟨fun h => absurd h hsel, fun _ => ⟨findRecord_asked s rfl, askedAndWatched_asked _ _ _ _ _ (orderly_of_cuesOk hs)⟩⟩

end Sys2Proof.Laws
end

section
/-! SUPPORT. A post on a full table whose cue queue holds an id twice (R11, R111). -/

namespace Sys2Proof.Laws

open Sys2Proof Sys2Proof.Machine

/-- A bank that selects every post, and whose rule 0 asks for a cue 10 minutes ahead of the record. -/
def evictionBank : Bank :=
  { emptyBank with
    selection :=
      [{ emptySelection with inUse := true, alsoNone := true, cuesAllowed := true, classMask := 1#16, boards := 1#4 }]
    rules := [{ emptyRule with inUse := true, field := .always, sense := .ignore, template := some 0 }]
    templates :=
      [{ emptyTemplate with
          inUse := true, elementCount := 1, elements := [.fixed 1], languages := 1#4, fixedZones := 1#8
          release := some 10, lifetime := 600 }]
    zoneTable := [1] }

def evictionPost : PostBody :=
  { key := 1, sm := 1000, delay := none, platform := 0, opClass := 0, cancelled := false, boarding := false
    destination := 0, vias := [] }

/-- The record that is evicted. -/
def evictionLast : ServiceRecord := { postRecord evictionPost (1#4, true) with key := 2, sm := 2000 }

/-- A cue of id 0. -/
def evictionCue (key : Nat) (state : CueState) : Cue :=
  { newCue (.rule 0) key (some 0) [1] 1#8 0 59400 60000 0 0 with state := state }

/-- A full table, and a queue with a WAITING cue of the post's key and a PLAYING cue of the last record's key, both of
id 0. -/
def evictionState : State :=
  { State.reset with
    node := { State.reset.node with state := .running }
    store := { State.reset.store with active := evictionBank }
    table := List.replicate 96 evictionLast
    cues := { queue := [evictionCue 1 .waiting, evictionCue 2 .playing], nextId := 1 } }

/-- The post's rule cue is coalesced into the WAITING cue, and into the PLAYING one that has its id: a cue of the evicted
key is WAITING again. -/
theorem eviction_leaves_waiting_cue :
    ((servicePost .all evictionPost evictionState).cues.queue.any fun c => c.key == 2 && c.waits) = true := by rfl

/-- Refutes O39: the statement does not ask that the cues have different ids, and a coalescing takes place by id. -/
theorem not_postOnFullTableEvictsLast : ¬ Obligations.PostOnFullTableEvictsLast := by
  intro h
  have hcase := h evictionState .all evictionPost evictionLast rfl (by decide) (by decide) rfl rfl (by decide)
  obtain ⟨t, ht, -, -, hcues, -⟩ := hcase.2 (by decide)
  have htaken : t = servicePost .all evictionPost evictionState := by
    injection ht with ht
    exact ht.symm
  obtain ⟨c, hc, hwaits⟩ := List.any_eq_true.mp eviction_leaves_waiting_cue
  obtain ⟨hkey, hwaits⟩ := Bool.and_eq_true_iff.mp hwaits
  have hnot := hcues c (htaken ▸ hc) (eq_of_beq hkey)
  exact absurd hwaits (by simp [hnot])

end Sys2Proof.Laws
end

section
/-! SUPPORT. Zones stopped, and the line between transactions (R126, R133, R138). -/

namespace Sys2Proof.Laws

open Sys2Proof Sys2Proof.Machine

/-! ### Zones that are stopped (R138, R139) -/

/-- A zone after the attempt to stop it: a zone that holds no cue stays. -/
def stoppedZone (z : Zone) : Zone := if z.holding.isSome then z.halted else z

theorem stoppedZone_holding (z : Zone) : (stoppedZone z).holding = z.holding := by
  unfold stoppedZone
  split <;> rfl

theorem haltZone_line (n : Nat) (s : State) :
    (haltZone n s).line =
      { s.line.setZone n (stoppedZone (s.line.zone n)) with
        jobs := s.line.jobs ++ ((s.line.zone n).holding.map fun i => LineJob.stop n i).toList } := by
  cases h : (s.line.zone n).holding with
  | none =>
    have hsame : s.line.setZone n (s.line.zone n) = s.line := by
      rw [LineCtl.setZone]
      congr
      refine List.ext_getElem? fun m => ?_
      by_cases hm : n = m
      · subst hm
        by_cases hlen : n < s.line.zones.length
        · simp [LineCtl.zone, hlen]
        · simp [hlen]
      · rw [List.getElem?_set_ne hm]
    simp [haltZone, stoppedZone, h, hsame]
  | some i => simp [haltZone_eq n i s h, stoppedZone, h]

theorem haltZone_length (n : Nat) (s : State) : (haltZone n s).line.zones.length = s.line.zones.length := by
  rw [haltZone_line]
  exact setZone_length _ _ _

theorem haltZone_zone (n m : Nat) (s : State) (h : n < s.line.zones.length) :
    (haltZone n s).line.zone m = if m = n then stoppedZone (s.line.zone n) else s.line.zone m := by
  rw [haltZone_line]
  exact setZone_zone s.line n m _ h

theorem foldl_haltZone_zone (m : Nat) (l : List Nat) (s : State) (hnodup : l.Nodup)
    (hl : ∀ n ∈ l, n < s.line.zones.length) :
    (l.foldl (fun st n => haltZone n st) s).line.zone m =
      if m ∈ l then stoppedZone (s.line.zone m) else s.line.zone m :=
  foldl_zone (I := fun _ => True) (g := fun _ z => stoppedZone z) (fun _ _ _ => trivial) (fun s n => haltZone_length n s)
    (fun s n m _ h => haltZone_zone n m s h) m l s trivial hnodup hl

theorem touches_foldl_haltZone (l : List Nat) (s : State) : Touches [.line] s (l.foldl (fun st n => haltZone n st) s) :=
  touches_foldl (fun u n => touches_haltZone u n) l s

theorem haltZone_holding (n m : Nat) (s : State) : ((haltZone n s).line.zone m).holding = (s.line.zone m).holding := by
  by_cases h : n < s.line.zones.length
  · rw [haltZone_zone n m s h]
    split
    next hm => rw [stoppedZone_holding, hm]
    next => rfl
  · have hsame : (s.line.setZone n (stoppedZone (s.line.zone n))).zones = s.line.zones :=
      List.set_eq_of_length_le (Nat.not_lt.mp h)
    rw [haltZone_line]
    change (((s.line.setZone n (stoppedZone (s.line.zone n))).zones.getD m (resetZone 0)) : Zone).holding = _
    rw [hsame]
    rfl

/-- What a run of stops leaves of the line, but for the zones. -/
theorem foldl_haltZone_line (l : List Nat) (s : State) :
    let t := l.foldl (fun st n => haltZone n st) s
    t.line.status = s.line.status ∧ t.line.timer = s.line.timer ∧ t.line.seq = s.line.seq ∧ t.line.sent = s.line.sent ∧
      t.line.zones.length = s.line.zones.length ∧
      t.line.jobs = s.line.jobs ++ l.filterMap fun n => (s.line.zone n).holding.map fun i => LineJob.stop n i := by
  induction l generalizing s with
  | nil => simp
  | cons a l ih =>
    obtain ⟨hstatus, htimer, hseq, hsent, hlen, hjobs⟩ := ih (haltZone a s)
    simp only [haltZone_holding] at hjobs
    rw [haltZone_line] at hstatus htimer hseq hsent hjobs
    refine ⟨hstatus, htimer, hseq, hsent, hlen.trans (haltZone_length a s), ?_⟩
    rw [List.foldl_cons, hjobs, List.append_assoc]
    congr 1
    cases h : (s.line.zone a).holding <;> simp [h]

/-- The zones a run of stops for the cues of a list reaches. -/
def playsFor (ids : List Nat) (z : Zone) : Bool := z.state == .playing && z.holding.any fun i => ids.contains i

theorem playsFor_iff {ids : List Nat} {z : Zone} :
    playsFor ids z = true ↔ z.state = .playing ∧ ∃ i ∈ ids, z.holding = some i := by
  cases h : z.holding <;> simp [playsFor, h]

theorem haltCues_zone {s : State} (h8 : s.line.zones.length = 8) (ids : List Nat) {n : Nat} (hn : n < 8) :
    (haltCues ids s).line.zone n = if playsFor ids (s.line.zone n) then (s.line.zone n).halted else s.line.zone n := by
  have hfold := foldl_haltZone_zone n ((List.range 8).filter fun m => playsFor ids (s.line.zone m)) s
    (nodup_range8_filter _) fun m hm => h8 ▸ (mem_range8_filter.mp hm).1
  refine Eq.trans hfold ?_
  by_cases hplays : playsFor ids (s.line.zone n) = true
  · obtain ⟨-, i, -, hi⟩ := playsFor_iff.mp hplays
    rw [if_pos (mem_range8_filter.mpr ⟨hn, hplays⟩), if_pos hplays, stoppedZone, hi]
    rfl
  · rw [if_neg (fun h => hplays (mem_range8_filter.mp h).2), if_neg hplays]

/-- What the stops for some cues leave of the line, but for the zones. -/
theorem haltCues_line (ids : List Nat) (s : State) :
    (haltCues ids s).line.status = s.line.status ∧ (haltCues ids s).line.seq = s.line.seq ∧
      (haltCues ids s).line.jobs = s.line.jobs ++
        ((List.range 8).filter fun n => playsFor ids (s.line.zone n)).filterMap fun n =>
          (s.line.zone n).holding.map fun i => LineJob.stop n i := by
  obtain ⟨hstatus, -, hseq, -, -, hjobs⟩ := foldl_haltZone_line ((List.range 8).filter fun m => playsFor ids (s.line.zone m)) s
  exact ⟨hstatus, hseq, hjobs⟩

/-- R130: each zone stopped has its STOP pending. -/
theorem mem_haltCues_jobs {ids : List Nat} {s : State} {n i : Nat} (hn : n < 8)
    (hplays : playsFor ids (s.line.zone n) = true) (hi : (s.line.zone n).holding = some i) :
    LineJob.stop n i ∈ (haltCues ids s).line.jobs := by
  obtain ⟨-, -, hjobs⟩ := haltCues_line ids s
  rw [hjobs]
  exact List.mem_append_right _ (List.mem_filterMap.mpr ⟨n, mem_range8_filter.mpr ⟨hn, hplays⟩, by rw [hi]; rfl⟩)

/-! ### POLL TIMER EXPIRY and PLAY LIMIT REACHED (R129, R138) -/

theorem pollInFlight_iff {l : LineCtl} {n : Nat} : l.pollInFlight n = true ↔ ∃ a, l.status = .transaction (.poll n a) := by
  unfold LineCtl.pollInFlight
  split
  next m a h => simp [h]
  next h => simpa using h n

theorem reachPlayLimit_eq {s : State} {id : Nat} {c : Cue} (hfind : s.findCue id = some c) (hstate : c.state = .playing)
    (hcount : c.playCount < c.playLimit * 64) :
    reachPlayLimit id s = haltCues [id] (updateCue id (fun c => { c with playCount := c.playLimit * 64 }) s) := by
  rw [reachPlayLimit, if_pos (by simp [hfind, hstate, hcount])]

/-- Settles O60: one zone's poll falls due, and one cue's zones are stopped. -/
theorem pollFallsDueAndPlayLimitStops : Obligations.PollFallsDueAndPlayLimitStops := by
  refine ⟨fun s n hn h8 hstate htimer hfree => ?_, fun s id c hfind hstate hcount h8 => ?_⟩
  · have hflight : ¬ s.line.pollInFlight n = true := fun h => by
      obtain ⟨a, ha⟩ := pollInFlight_iff.mp h
      exact hfree a ha
    exact congrArg Host.Outcome.next (if_pos ⟨hn, hstate, htimer, hflight⟩)
  · refine ⟨_, congrArg Host.Outcome.next (reachPlayLimit_eq hfind hstate hcount), ?_⟩
    have htouches := touches_haltCues (updateCue id (fun c => { c with playCount := c.playLimit * 64 }) s) [id]
    obtain ⟨hstatus, -, hjobs⟩ := haltCues_line [id] (updateCue id (fun c => { c with playCount := c.playLimit * 64 }) s)
    refine ⟨?_, fun n hn => ?_, fun j hj => ?_, hstatus, htouches .node (by decide), htouches .table (by decide)⟩
    · exact (congrArg Scheduler.queue (htouches .cues (by decide))).trans (updateCue_queue _ _ _)
    · have hzone := haltCues_zone (s := updateCue id (fun c => { c with playCount := c.playLimit * 64 }) s) h8 [id] hn
      refine ⟨fun hplaying hheld => ?_, fun hnot => ?_⟩
      · have hplays : playsFor [id] (s.line.zone n) = true := playsFor_iff.mpr ⟨hplaying, id, by simp, hheld⟩
        exact ⟨hzone.trans (if_pos hplays), mem_haltCues_jobs hn hplays hheld⟩
      · refine hzone.trans (if_neg fun hplays => hnot ?_)
        obtain ⟨hplaying, i, hi, hheld⟩ := playsFor_iff.mp hplays
        exact ⟨hplaying, List.mem_singleton.mp hi ▸ hheld⟩
    · rw [hjobs]
      exact List.mem_append_left _ hj

/-! ### The commands that await no reply (R126, R127, R133) -/

theorem mem_offeredZones {l : LineCtl} {id n : Nat} :
    n ∈ offeredZones l id ↔ n < 8 ∧ (l.zone n).state = .offered ∧ (l.zone n).holding = some id := by
  simp [offeredZones]

/-- R133: a zone of the sequence whose START has been sent. -/
def startedZone (z : Zone) : Zone := { z with state := .playing, timer := some 32, taken := false }

/-- R133: the zones that begin to play. -/
def startZones (zs : List Nat) (s : State) : State :=
  zs.foldl
    (fun st n => putZone n { st.line.zone n with state := .playing, timer := some Config.pollCycles, taken := false } st) s

theorem touches_startZones (zs : List Nat) (s : State) : Touches [.line] s (startZones zs s) :=
  touches_foldl (fun _ _ => touches_putZone _ _ _) zs s

theorem startZones_length (zs : List Nat) (s : State) : (startZones zs s).line.zones.length = s.line.zones.length :=
  foldl_zones_length (fun _ _ => setZone_length _ _ _) zs s

theorem startZones_zone (m : Nat) {zs : List Nat} {s : State} (hnodup : zs.Nodup)
    (hzs : ∀ n ∈ zs, n < s.line.zones.length) :
    (startZones zs s).line.zone m = if m ∈ zs then startedZone (s.line.zone m) else s.line.zone m :=
  foldl_zone (I := fun _ => True) (g := fun _ z => startedZone z) (fun _ _ _ => trivial) (fun _ _ => setZone_length _ _ _)
    (fun s n m _ h => setZone_zone s.line n m _ h) m zs s trivial hnodup hzs

theorem startZones_status (zs : List Nat) (s : State) :
    (startZones zs s).line.status = s.line.status ∧ (startZones zs s).line.seq = s.line.seq :=
  List.foldlRecOn (motive := fun (u : State) => u.line.status = s.line.status ∧ u.line.seq = s.line.seq) zs _ ⟨rfl, rfl⟩
    fun _ hu _ _ => hu

/-- R133: the state in which the cue whose START has been sent plays, before its zones do. -/
def cueStarted (id : Nat) (s : State) : State :=
  updateCue id (fun c => { c with state := .playing, playCount := 0, completed := 0#8, lost := 0#8 })
    (lineIdle (s.setLine { s.line with seq := none }))

theorem startSent_eq {s : State} {id : Nat} (h : s.line.status = .transaction (.start id)) :
    startSent s =
      ((offeredZones s.line id).filter fun n => (s.line.zone n).pendingAddr == some 0).foldl (fun st n => haltZone n st)
        (startZones (offeredZones s.line id) (cueStarted id s)) := by
  simp only [startSent, h]
  rfl

/-- Settles O56: the zones of the sequence play, and those to lose their address are stopped. -/
theorem sentCommandsFreeTheLine : Obligations.SentCommandsFreeTheLine := by
  intro s
  refine ⟨fun id hstatus h8 => ?_, fun a id hstatus => ?_, fun hstatus => ?_, fun left hstatus => ?_⟩
  · refine ⟨_, congrArg Host.Outcome.next (startSent_eq hstatus), ?_⟩
    obtain ⟨zs, hzs⟩ : ∃ zs, zs = offeredZones s.line id := ⟨_, rfl⟩
    rw [← hzs]
    obtain ⟨ps, hps⟩ : ∃ ps, ps = zs.filter fun n => (s.line.zone n).pendingAddr == some 0 := ⟨_, rfl⟩
    rw [← hps]
    have hzsNodup : zs.Nodup := hzs ▸ nodup_range8_filter _
    have hmem {n : Nat} : n ∈ zs ↔ n < 8 ∧ (s.line.zone n).state = .offered ∧ (s.line.zone n).holding = some id := by
      rw [hzs, mem_offeredZones]
    have hmemStop {n : Nat} : n ∈ ps ↔ n ∈ zs ∧ (s.line.zone n).pendingAddr = some 0 := by simp [hps]
    have hstart := touches_startZones zs (cueStarted id s)
    have hhalt := touches_foldl_haltZone ps (startZones zs (cueStarted id s))
    obtain ⟨hst, -, hseq, -, -, hjobs⟩ := foldl_haltZone_line ps (startZones zs (cueStarted id s))
    have hlen : (startZones zs (cueStarted id s)).line.zones.length = 8 := (startZones_length _ _).trans h8
    have hzone (n : Nat) : (startZones zs (cueStarted id s)).line.zone n =
        if n ∈ zs then startedZone (s.line.zone n) else s.line.zone n :=
      startZones_zone n hzsNodup fun m hm => h8.symm ▸ (hmem.mp hm).1
    have hfinal (n : Nat) := foldl_haltZone_zone n ps (startZones zs (cueStarted id s)) (hps ▸ hzsNodup.filter _)
      fun m hm => hlen.symm ▸ (hmem.mp (hmemStop.mp hm).1).1
    refine ⟨hst.trans ?_, hseq.trans ?_, ?_, fun n hn => ⟨fun hoff hheld hpend => ?_, fun hoff hheld hpend => ?_, fun hnot => ?_⟩,
      ?_, ?_⟩
    · exact (startZones_status _ _).1
    · exact (startZones_status _ _).2
    · rw [hhalt .cues (by decide), hstart .cues (by decide)]
      exact updateCue_queue _ _ _
    · have hin : n ∈ zs := hmem.mpr ⟨hn, hoff, hheld⟩
      rw [hfinal, if_neg fun h => hpend (hmemStop.mp h).2, hzone, if_pos hin]
      rfl
    · have hin : n ∈ zs := hmem.mpr ⟨hn, hoff, hheld⟩
      have hholds : ((startZones zs (cueStarted id s)).line.zone n).holding = some id := by
        rw [hzone, if_pos hin]
        exact hheld
      refine ⟨?_, ?_⟩
      · rw [hfinal, if_pos (hmemStop.mpr ⟨hin, hpend⟩), stoppedZone, hholds, hzone, if_pos hin]
        rfl
      · rw [hjobs]
        exact List.mem_append_right _ (List.mem_filterMap.mpr ⟨n, hmemStop.mpr ⟨hin, hpend⟩, by rw [hholds]; rfl⟩)
    · have hout : n ∉ zs := fun h => hnot (hmem.mp h).2
      rw [hfinal, if_neg fun h => hout (hmemStop.mp h).1, hzone, if_neg hout]
    · exact (hhalt .node (by decide)).trans (hstart .node (by decide))
    · exact (hhalt .table (by decide)).trans (hstart .table (by decide))
  · simp only [exec, execCancelSent, cancelSent, hstatus]
    rfl
  · exact congrArg Host.Outcome.next (if_pos hstatus)
  · simp only [exec, execLineQuietEnd, lineQuietEnd, hstatus]
    rfl

end Sys2Proof.Laws
end

section
/-! SUPPORT. The messages of the cue line and the arbiter (R123 to R126, R130, R131, R139). -/

namespace Sys2Proof.Laws

open Sys2Proof Sys2Proof.Machine

/-! ### Characters (R123) -/

/-- A running exclusive or is the parity of the bits set. -/
theorem foldl_xor_eq (f : Nat → Bool) (l : List Nat) (a : Bool) :
    l.foldl (fun p i => xor p (f i)) a = xor a (decide ((l.map f).count true % 2 = 1)) := by
  induction l generalizing a with
  | nil => simp
  | cons i l ih =>
    rw [List.foldl_cons, ih, List.map_cons]
    cases f i
    · simp
    · rcases Nat.mod_two_eq_zero_or_one ((l.map f).count true) with h | h <;> cases a <;> simp [h, Nat.add_mod]

theorem mkChar_even (mark : Bool) (n : Nat) :
    (((List.range 8).map fun i => (mkChar mark n).data.getLsbD i) ++ [mark, (mkChar mark n).parity]).count true % 2 = 0 := by
  have hparity : (mkChar mark n).parity =
      xor (decide (((List.range 8).map fun i => (toByte n).getLsbD i).count true % 2 = 1)) mark := by
    change xor (oddOnes (toByte n)) mark = _
    rw [oddOnes, foldl_xor_eq, Bool.false_xor]
  rw [hparity, List.count_append]
  change (((List.range 8).map fun i => (toByte n).getLsbD i).count true + _) % 2 = 0
  rcases Nat.mod_two_eq_zero_or_one (((List.range 8).map fun i => (toByte n).getLsbD i).count true) with h | h <;>
    cases mark <;> simp [h, Nat.add_mod]

theorem mem_lineMessage {address code : Nat} {body : List Nat} {c : LineChar} (h : c ∈ lineMessage address code body) :
    ∃ mark n, c = mkChar mark n := by
  rcases List.mem_cons.mp h with h | h
  · exact ⟨true, address, h⟩
  · obtain ⟨n, -, rfl⟩ := List.mem_map.mp h
    exact ⟨false, n, rfl⟩

theorem lineMessage_marks (address code : Nat) (body : List Nat) :
    (lineMessage address code body).map (fun c => c.mark) = true :: List.replicate (body.length + 3) false := by
  simp only [lineMessage, List.map_cons, List.map_map]
  congr 1
  refine List.eq_replicate_iff.mpr ⟨by simp, fun b hb => ?_⟩
  obtain ⟨n, -, rfl⟩ := List.mem_map.mp hb
  rfl

theorem lineMessage_length (address code : Nat) (body : List Nat) : (lineMessage address code body).length = body.length + 4 := by
  simp [lineMessage]

/-! ### The classes of work (R130) -/

/-- A command that consults the arbiter on an idle line is the arbiter's work. -/
theorem exec_consultsArbiter {i : Instr} {s : State} (h : consultsArbiter i s) (hidle : s.line.status = .idle)
    (hup : s.node.state ≠ .powerUp) : exec i s = .next (arbiterWork s) := by
  have hwork : arbitrate s = arbiterWork s := if_pos (by simp [lineReady, hidle, hup])
  rcases h with rfl | ⟨id, c, hold, rfl, hfind, hdue, hhold, hpast⟩
  · exact congrArg Host.Outcome.next hwork
  · refine congrArg Host.Outcome.next (Eq.trans (if_pos ?_) hwork)
    simp [hfind, hdue, hhold, hpast]

/-- R130: a PLAYING zone's due poll comes first. -/
theorem duePoll_playing {l : LineCtl} {n : Nat} (hn : n < 8) (hdue : (l.zone n).pollDue = true)
    (hstate : (l.zone n).state = .playing)
    (hfirst : ∀ m, m < n → ¬((l.zone m).pollDue = true ∧ (l.zone m).state = .playing)) : duePoll l = some n := by
  have hfind : (List.range 8).find? (fun m => (l.zone m).pollDue && (l.zone m).state == .playing) = some n :=
    List.find?_range_eq_some.mpr ⟨by simp [hdue, hstate], by simpa using hn,
      fun m hm => by simpa [or_iff_not_imp_left] using hfirst m hm⟩
  simp only [duePoll, hfind]

/-- R130: with no PLAYING zone's poll due, a FAULT zone's is sent. -/
theorem duePoll_of_not_playing {l : LineCtl}
    (hplaying : ∀ m, m < 8 → ¬((l.zone m).pollDue = true ∧ (l.zone m).state = .playing)) :
    duePoll l = (List.range 8).find? fun m => (l.zone m).pollDue && (l.zone m).state == .fault := by
  have hfind : (List.range 8).find? (fun m => (l.zone m).pollDue && (l.zone m).state == .playing) = none :=
    List.find?_range_eq_none.mpr fun m hm => by simpa [or_iff_not_imp_left] using hplaying m hm
  simp only [duePoll, hfind]

theorem duePoll_fault {l : LineCtl} {n : Nat} (hn : n < 8) (hdue : (l.zone n).pollDue = true)
    (hstate : (l.zone n).state = .fault)
    (hplaying : ∀ m, m < 8 → ¬((l.zone m).pollDue = true ∧ (l.zone m).state = .playing))
    (hfirst : ∀ m, m < n → ¬((l.zone m).pollDue = true ∧ (l.zone m).state = .fault)) : duePoll l = some n := by
  rw [duePoll_of_not_playing hplaying]
  exact List.find?_range_eq_some.mpr ⟨by simp [hdue, hstate], by simpa using hn,
    fun m hm => by simpa [or_iff_not_imp_left] using hfirst m hm⟩

theorem duePoll_none {l : LineCtl}
    (h : ∀ m, m < 8 → (l.zone m).pollDue = true → (l.zone m).state ≠ .playing ∧ (l.zone m).state ≠ .fault) :
    duePoll l = none := by
  rw [duePoll_of_not_playing fun m hm hboth => (h m hm hboth.1).1 hboth.2]
  exact List.find?_range_eq_none.mpr fun m hm => by simpa [or_iff_not_imp_left] using fun hdue => (h m hm hdue).2

/-- R130: classes 1 and 2 are over when no job waits and no sequence is taken whole. -/
theorem arbiterWork_poll {s : State} {n : Nat} (hjobs : s.line.jobs = [])
    (hseq : ∀ id, s.line.seq ≠ some { cueId := id, left := [] }) (hdue : duePoll s.line = some n) :
    arbiterWork s = sendPoll n s := by
  rcases hs : s.line.seq with _ | ⟨id, _ | ⟨m, rest⟩⟩
  · simp only [arbiterWork, hjobs, hs, hdue]
  · exact absurd hs (hseq id)
  · simp only [arbiterWork, hjobs, hs, hdue]

/-- The cue a transaction's message tells of. -/
def messageCue (s : State) : Transaction → Option Cue
  | .offer _ _ i => s.findCue i
  | _ => none

/-- R125: the message a transaction sends. -/
def sentMessage (t : Transaction) (s : State) : List LineChar :=
  t.message (((messageCue s t).map fun c => c.playLimit).getD 0) (((messageCue s t).map fun c => c.codes).getD [])

theorem sendTransaction_eq (t : Transaction) (s : State) :
    sendTransaction t s =
      s.setLine
        { s.line with
          status := .transaction t, sent := sentMessage t s
          timer := (sentMessage t s).length * Config.charTicks + if t.awaitsReply then Config.windowTicks else 0 } := rfl

theorem charTicks_eq : Config.charTicks = 5000 := by decide

/-- R126: a message whose reply is awaited. -/
theorem sendTransaction_awaiting {t : Transaction} {s : State} {a code : Nat} {body : List Nat} (hawaits : t.awaitsReply = true)
    (hmsg : sentMessage t s = lineMessage a code body) :
    sendTransaction t s =
      s.setLine
        { s.line with
          status := .transaction t, sent := lineMessage a code body, timer := (body.length + 4) * 5000 + 480000 } := by
  rw [sendTransaction_eq, hmsg, lineMessage_length, if_pos hawaits, charTicks_eq, Config.windowTicks]

/-- R126: a message that has no reply. -/
theorem sendTransaction_alone {t : Transaction} {s : State} {a code : Nat} {body : List Nat} (hawaits : t.awaitsReply = false)
    (hmsg : sentMessage t s = lineMessage a code body) :
    sendTransaction t s =
      s.setLine
        { s.line with status := .transaction t, sent := lineMessage a code body, timer := (body.length + 4) * 5000 } := by
  rw [sendTransaction_eq, hmsg, lineMessage_length, if_neg (by simp [hawaits]), charTicks_eq, Nat.add_zero]

theorem sendOffer_eq {s : State} {n a id : Nat} {c : Cue} (hfind : s.findCue id = some c) :
    sendTransaction (.offer n a id) s =
      s.setLine
        { s.line with
          status := .transaction (.offer n a id)
          sent := lineMessage a 0x11 (id :: c.playLimit :: c.codes.length :: c.codes.flatMap fun p => [p / 256, p % 256])
          timer := (7 + 2 * c.codes.length) * 5000 + 480000 } := by
  have hlen : (c.codes.flatMap fun p => [p / 256, p % 256]).length = 2 * c.codes.length := by
    simp [List.length_flatMap, Nat.mul_comm]
  have hcount : (id :: c.playLimit :: c.codes.length :: c.codes.flatMap fun p => [p / 256, p % 256]).length + 4 =
      7 + 2 * c.codes.length := by
    rw [List.length_cons, List.length_cons, List.length_cons, hlen]
    omega
  have hmsg : sentMessage (.offer n a id) s =
      lineMessage a 0x11 (id :: c.playLimit :: c.codes.length :: c.codes.flatMap fun p => [p / 256, p % 256]) := by
    simp only [sentMessage, messageCue, hfind]
    rfl
  rw [sendTransaction_awaiting rfl hmsg, hcount]

/-- Settles O54: the parity of a character, and the arbiter's choice class by class. -/
theorem arbiterTakesFirstClass : Obligations.ArbiterTakesFirstClass := by
  refine ⟨fun address code body => ⟨lineMessage_marks address code body, fun c hc => ?_⟩, fun i s hi hidle hup => ?_⟩
  · obtain ⟨mark, n, rfl⟩ := mem_lineMessage hc
    exact ⟨_, rfl, mkChar_even mark n⟩
  · rw [exec_consultsArbiter hi hidle hup]
    refine ⟨fun n id rest hjobs => ?_, fun a id rest hjobs => ?_, fun id hjobs hseq => ?_, fun n hjobs hseq hn hdue hfirst => ?_,
      fun n id rest c hjobs hseq hfind hnone => ?_⟩
    · have hwork : arbiterWork s =
          sendTransaction (.stop n (s.line.zone n).addr id) (s.setLine { s.line with jobs := rest }) := by
        simp only [arbiterWork, hjobs]
        rfl
      rw [hwork, sendTransaction_awaiting rfl rfl]
      rfl
    · have hwork : arbiterWork s = sendTransaction (.cancel a id) (s.setLine { s.line with jobs := rest }) := by
        simp only [arbiterWork, hjobs]
        rfl
      rw [hwork, sendTransaction_alone rfl rfl]
      rfl
    · have hwork : arbiterWork s = sendTransaction (.start id) s := by simp only [arbiterWork, hjobs, hseq]
      rw [hwork, sendTransaction_alone rfl rfl]
      rfl
    · have hpoll : duePoll s.line = some n := by
        rcases hfirst with ⟨hstate, hfirst⟩ | ⟨hstate, hplaying, hfirst⟩
        · exact duePoll_playing hn hdue hstate hfirst
        · exact duePoll_fault hn hdue hstate hplaying hfirst
      rw [arbiterWork_poll hjobs hseq hpoll, sendPoll, sendTransaction_awaiting rfl rfl]
      rfl
    · have hwork : arbiterWork s =
          sendTransaction (.offer n (s.line.zone n).addr id)
            (s.setLine { s.line with seq := some { cueId := id, left := rest } }) := by
        simp only [arbiterWork, hjobs, hseq, duePoll_none hnone]
      rw [hwork]
      exact congrArg Host.Outcome.next
        (sendOffer_eq (s := s.setLine { s.line with seq := some { cueId := id, left := rest } }) hfind)

end Sys2Proof.Laws
end

section
/-! SUPPORT. The cue the arbiter chooses (R131, R132, R139, R149). -/

namespace Sys2Proof.Laws

open Sys2Proof Sys2Proof.Machine

theorem chosenBefore_iff (a b : Cue) :
    chosenBefore a b = true ↔ b.priority < a.priority ∨
      (a.priority = b.priority ∧ (a.release < b.release ∨ (a.release = b.release ∧ a.id < b.id))) := by
  simp [chosenBefore]

theorem chosenBefore_asymm (a b : Cue) (h : chosenBefore a b = true) : chosenBefore b a = false := by
  rw [chosenBefore_iff] at h
  rw [← Bool.not_eq_true, chosenBefore_iff]
  omega

/-- R131: the eligible cue of highest rank is the one taken. -/
theorem bestCue_eq {s : State} {c : Cue} (hc : c ∈ s.cues.queue) (helig : eligible s c = true)
    (hbest : ∀ d ∈ s.cues.queue, eligible s d = true → d = c ∨ d.priority < c.priority ∨
      (d.priority = c.priority ∧ (c.release < d.release ∨ (c.release = d.release ∧ c.id < d.id)))) : bestCue s = some c := by
  refine pickFirst_eq chosenBefore_asymm (List.mem_filter.mpr ⟨hc, helig⟩) fun d hd => ?_
  obtain ⟨hmem, hd⟩ := List.mem_filter.mp hd
  refine (hbest d hmem hd).imp id fun h => (chosenBefore_iff c d).mpr (h.imp id ?_)
  rintro ⟨hpriority, hrest⟩
  exact ⟨hpriority.symm, hrest⟩

/-- R128, R131, R149: what an eligible cue meets. -/
theorem of_eligible {s : State} {c : Cue} (h : eligible s c = true) :
    c.state = .due ∧ (s.ovr.level ≠ 0 → s.ovr.floor ≤ c.priority) ∧
      (blockedZones s.line c.zones = [] ∨ canPreempt s c = true) := by
  simp only [eligible, Bool.and_eq_true, Bool.or_eq_true, beq_iff_eq, decide_eq_true_eq, List.isEmpty_iff] at h
  obtain ⟨⟨⟨⟨hdue, -⟩, -⟩, hfloor⟩, hblocked⟩ := h
  exact ⟨hdue, fun hlevel => hfloor.resolve_left hlevel, hblocked⟩

/-- R139: what a preempting cue meets: each blocked zone plays under a cue of lower priority. -/
theorem of_canPreempt {s : State} {c : Cue} (h : canPreempt s c = true) :
    s.bank.params.preemptLevel ≤ c.priority ∧
      ∀ n ∈ blockedZones s.line c.zones, ∃ v ∈ s.cues.queue,
        (s.line.zone n).holding = some v.id ∧ v.priority < c.priority := by
  simp only [canPreempt, Bool.and_eq_true, decide_eq_true_eq, List.all_eq_true] at h
  obtain ⟨⟨hlevel, -⟩, hlower⟩ := h
  refine ⟨hlevel, fun n hn => ?_⟩
  have hn' := hlower n hn
  cases hheld : (s.line.zone n).holding with
  | none => simp [lowerPlaying, hheld] at hn'
  | some i =>
    cases hfind : s.findCue i with
    | none => simp [lowerPlaying, hheld, hfind] at hn'
    | some v =>
      obtain ⟨hv, rfl⟩ := mem_of_findCue hfind
      simp only [lowerPlaying, hheld, hfind, Option.any_some, Bool.and_eq_true, decide_eq_true_eq] at hn'
      exact ⟨v, hv, rfl, hn'.2⟩

theorem mem_blockedZones {l : LineCtl} {mask : BitVec 8} {n : Nat} :
    n ∈ blockedZones l mask ↔ n ∈ usableZones l mask ∧ availableZone l n = false := by
  simp [blockedZones]

theorem nodup_usableZones (l : LineCtl) (mask : BitVec 8) : (usableZones l mask).Nodup :=
  (List.nodup_range.filter _).filter _

/-! ### The offer sequence begins (R132) -/

/-- R132: a zone of a sequence that begins for cue `id`. -/
def offeredZone (id : Nat) (z : Zone) : Zone := { z with state := .offered, holding := some id, taken := false }

def offerZones (id : Nat) (zs : List Nat) (s : State) : State :=
  zs.foldl (fun st n => putZone n { st.line.zone n with state := .offered, holding := some id, taken := false } st) s

theorem touches_offerZones (id : Nat) (zs : List Nat) (s : State) : Touches [.line] s (offerZones id zs s) :=
  touches_foldl (fun _ _ => touches_putZone _ _ _) zs s

theorem offerZones_zone (id m : Nat) {zs : List Nat} {s : State} (hnodup : zs.Nodup)
    (hzs : ∀ n ∈ zs, n < s.line.zones.length) :
    (offerZones id zs s).line.zone m = if m ∈ zs then offeredZone id (s.line.zone m) else s.line.zone m :=
  foldl_zone (I := fun _ => True) (g := fun _ z => offeredZone id z) (fun _ _ _ => trivial) (fun _ _ => setZone_length _ _ _)
    (fun s n m _ h => setZone_zone s.line n m _ h) m zs s trivial hnodup hzs

theorem offerZones_line (id : Nat) (zs : List Nat) (s : State) :
    (offerZones id zs s).line.status = s.line.status ∧ (offerZones id zs s).line.jobs = s.line.jobs :=
  List.foldlRecOn (motive := fun (u : State) => u.line.status = s.line.status ∧ u.line.jobs = s.line.jobs) zs _ ⟨rfl, rfl⟩
    fun _ hu _ _ => hu

theorem beginSequence_eq (c : Cue) (s : State) :
    beginSequence c s =
      State.setLine
        (offerZones c.id (usableZones s.line c.zones) (updateCue c.id (fun x => { x with state := .offered }) s))
        { (offerZones c.id (usableZones s.line c.zones) (updateCue c.id (fun x => { x with state := .offered }) s)).line with
          seq := some { cueId := c.id, left := usableZones s.line c.zones } } := rfl

/-! ### Preemption (R139) -/

/-- R139: the cues that a preemption for `c` stops. -/
def preemptedIds (c : Cue) (s : State) : List Nat := (blockedZones s.line c.zones).filterMap fun n => (s.line.zone n).holding

/-- R139: the state with those cues marked. -/
def markPreempted (c : Cue) (s : State) : State :=
  s.setCues
    { s.cues with
      queue := s.cues.queue.map fun v => if (preemptedIds c s).contains v.id then { v with preempted := true } else v }

theorem preemptFor_eq (c : Cue) (s : State) : preemptFor c s = haltCues (preemptedIds c s) (markPreempted c s) := rfl

theorem preemptFor_cues (c : Cue) (s : State) :
    (preemptFor c s).cues.queue =
      s.cues.queue.map fun v => if (preemptedIds c s).contains v.id then { v with preempted := true } else v :=
  congrArg Scheduler.queue (touches_haltCues (markPreempted c s) (preemptedIds c s) .cues (by decide))

/-- Settles O55: the best cue has its zones offered, or else the cues that block them are stopped. -/
theorem arbiterChoosesHighestCue : Obligations.ArbiterChoosesHighestCue := by
  intro s c hcues hline hidle hup hjobs hseq hpolls hc helig hbest
  obtain ⟨hdue, hfloor, hblocked⟩ := of_eligible helig
  have hpoll : duePoll s.line = none := duePoll_none fun m hm hm' => absurd hm' (by simp [hpolls m hm])
  have hwork : exec .lineArbitration s = .next (chooseCue s) := by
    rw [exec_consultsArbiter (.inl rfl) hidle hup]
    simp only [arbiterWork, hjobs, hseq, hpoll]
  have htouches := touches_chooseCue s
  refine ⟨hfloor, chooseCue s, hwork, htouches .node (by decide), htouches .table (by decide), htouches .store (by decide),
    fun hall => ?_, fun hsome => ?_⟩
  · have hnone : blockedZones s.line c.zones = [] :=
      List.filter_eq_nil_iff.mpr fun n hn => by simp [hall n hn]
    have hchoose : chooseCue s = beginSequence c s := by
      simp only [chooseCue, bestCue_eq hc helig hbest, hnone, List.isEmpty_nil, if_true]
    rw [hchoose, beginSequence_eq]
    obtain ⟨hstatus, hkept⟩ :=
      offerZones_line c.id (usableZones s.line c.zones) (updateCue c.id (fun x => { x with state := .offered }) s)
    refine ⟨rfl, hstatus.trans hidle, hkept.trans hjobs, fun n hn => ?_, ?_⟩
    · exact offerZones_zone c.id n (s := updateCue c.id (fun x => { x with state := .offered }) s) (nodup_usableZones _ _)
        fun m hm => hline.eight.symm ▸ ((mem_usableZones _ _ _).mp hm).1
    · exact (congrArg Scheduler.queue (touches_offerZones _ _ _ .cues (by decide))).trans (updateCue_queue _ _ _)
  · obtain ⟨k, hk, hkBusy⟩ := hsome
    have hkBlocked : k ∈ blockedZones s.line c.zones := mem_blockedZones.mpr ⟨hk, hkBusy⟩
    obtain ⟨hlevel, hlower⟩ := of_canPreempt (hblocked.resolve_left (List.ne_nil_of_mem hkBlocked))
    have hchoose : chooseCue s = preemptFor c s := by
      have hnot : (blockedZones s.line c.zones).isEmpty = false := by
        simpa using List.ne_nil_of_mem hkBlocked
      simp only [chooseCue, bestCue_eq hc helig hbest, hnot, Bool.false_eq_true, if_false]
    rw [hchoose]
    refine ⟨hlevel, ?_, fun n hn hbusy => ?_, fun d hd hid => ?_⟩
    · exact (haltCues_line (preemptedIds c s) (markPreempted c s)).2.1.trans hseq
    · have hnBlocked := mem_blockedZones.mpr ⟨hn, hbusy⟩
      obtain ⟨v, hv, hheld, hpriority⟩ := hlower n hnBlocked
      have hid : v.id ∈ preemptedIds c s := List.mem_filterMap.mpr ⟨n, hnBlocked, hheld⟩
      refine ⟨v, hv, hheld, hpriority, ?_, fun m hm hplaying hholds => ?_⟩
      · rw [preemptFor_cues]
        exact List.mem_map.mpr ⟨v, hv, if_pos (by simpa using hid)⟩
      · have hplays : playsFor (preemptedIds c s) (s.line.zone m) = true := playsFor_iff.mpr ⟨hplaying, v.id, hid, hholds⟩
        have hzone := haltCues_zone (s := markPreempted c s) hline.eight (preemptedIds c s) hm
        refine ⟨?_, mem_haltCues_jobs (s := markPreempted c s) hm hplays hholds⟩
        rw [preemptFor_eq, hzone]
        exact congrArg Zone.state (if_pos hplays)
    · rw [preemptFor_cues] at hd
      obtain ⟨v, hv, rfl⟩ := List.mem_map.mp hd
      have hsame (w : Cue) (hw : w ∈ s.cues.queue) (hwid : w.id = c.id) : w = c :=
        (orderly_of_cuesOk hcues).eq_of_id hw hc hwid
      split_ifs at hid ⊢
      · exact (congrArg Cue.state (hsame v hv hid)).trans hdue
      · exact (congrArg Cue.state (hsame v hv hid)).trans hdue

end Sys2Proof.Laws
end

section
/-! SUPPORT. Cues that leave the line: returned to DUE, or released with their last zone (R112, R134, R137, R140). -/

namespace Sys2Proof.Laws

open Sys2Proof Sys2Proof.Machine

/-! ### The return to DUE (R112) -/

section

variable {s : State} {id : Nat} {c : Cue}

theorem findCue_eq (hs : Orderly s) (hc : c ∈ s.cues.queue) (hid : c.id = id) : s.findCue id = some c := by
  have hsome : (s.findCue id).isSome := List.find?_isSome.mpr ⟨c, hc, by simpa using hid⟩
  obtain ⟨d, hd⟩ := Option.isSome_iff_exists.mp hsome
  obtain ⟨hmem, hdid⟩ := mem_of_findCue hd
  rw [hd, hs.eq_of_id hmem hc (hdid.trans hid.symm)]

/-- The change of one cue, of which the queue holds one of its id. -/
theorem updateCue_map (hs : Orderly s) (hc : c ∈ s.cues.queue) (hid : c.id = id) (f : Cue → Cue) {q : List Cue}
    (hq : q ⊆ s.cues.queue) : (q.map fun d => if d.id = id then f d else d) = q.map fun d => if d.id = id then f c else d :=
  List.map_congr_left fun d hd => by
    split
    next hdid => rw [hs.eq_of_id (hq hd) hc (hdid.trans hid.symm)]
    next => rfl

/-- The mate of a returning cue is the one waiting cue of its key and template. -/
theorem returnMate_eq (hs : Orderly s) {hold : Option Int} {o : Cue} (hid : c.id = id) (ho : o ∈ s.cues.queue)
    (hoid : o.id ≠ id) (hzero : c.key ≠ 0) (hkey : o.key = c.key) (htemplate : o.template = c.template)
    (hwaits : o.waits = true) : returnMate (dueAgain hold c) (updateCue id (dueAgain hold) s) = some o := by
  have hmem := (mem_updateCue_other (s := s) (i := id) (f := dueAgain hold) (fun _ => rfl) hoid).mpr ho
  have hsome : (returnMate (dueAgain hold c) (updateCue id (dueAgain hold) s)).isSome :=
    List.find?_isSome.mpr ⟨o, hmem, by simp [dueAgain, hid, hoid, hzero, hkey, htemplate, hwaits]⟩
  obtain ⟨d, hd⟩ := Option.isSome_iff_exists.mp hsome
  obtain ⟨hdmem, hdid, -, hdkey, hdtemplate, hdwaits⟩ := returnMate_some hd
  have hdid : d.id ≠ id := fun h => hdid (h.trans hid.symm)
  have hdold := (mem_updateCue_other (s := s) (i := id) (f := dueAgain hold) (fun _ => rfl) hdid).mp hdmem
  have hsame : d = o := by
    by_contra hne
    have hidne : d.id ≠ o.id := fun h => hne (hs.eq_of_id hdold ho h)
    exact hs.not_twins hdold ho hidne
      ⟨fun h => hzero (hdkey.symm.trans h), hdkey.trans hkey.symm, hdtemplate.trans htemplate.symm, hdwaits, hwaits⟩
  rw [hd, hsame]

theorem returnMate_eq_none {hold : Option Int} (hid : c.id = id)
    (h : ∀ o ∈ s.cues.queue, ¬(o.id ≠ id ∧ c.key ≠ 0 ∧ o.key = c.key ∧ o.template = c.template ∧ o.waits = true)) :
    returnMate (dueAgain hold c) (updateCue id (dueAgain hold) s) = none := by
  cases hmate : returnMate (dueAgain hold c) (updateCue id (dueAgain hold) s) with
  | none => rfl
  | some o =>
    obtain ⟨ho, hoid, hrest⟩ := returnMate_some hmate
    have hoid : o.id ≠ id := fun h => hoid (h.trans hid.symm)
    exact absurd ⟨hoid, hrest⟩ (h o ((mem_updateCue_other (f := dueAgain hold) (fun _ => rfl) hoid).mp ho))

/-- R112: a returning cue and its mate made one, `both`. -/
def joinedQueue (id : Nat) (o both : Cue) (q : List Cue) : List Cue :=
  (q.filter fun d => d.id != o.id).map fun d => if d.id = id then both else d

theorem joined_eq (hs : Orderly s) (hc : c ∈ s.cues.queue) (hid : c.id = id) (hold : Option Int) (sec : Nat) (o : Cue) :
    updateCue id (takeContent sec o) (removeCue o.id (updateCue id (dueAgain hold) s)) =
      s.setCues
        { s.cues with queue := joinedQueue id o (takeContent sec o (dueAgain hold c)) s.cues.queue } := by
  refine congrArg (fun q => s.setCues { s.cues with queue := q }) ((return_queue id hold sec o s).trans ?_)
  exact updateCue_map hs hc hid (fun d => takeContent sec o (dueAgain hold d)) List.filter_sublist.subset

/-- Of the joined queue the cue made one is the only one of its id. -/
theorem filter_joinedQueue (hs : Orderly s) (hc : c ∈ s.cues.queue) (hid : c.id = id) {o both : Cue} (hoid : o.id ≠ id)
    (hboth : both.id = id) :
    ((joinedQueue id o both s.cues.queue).filter fun d => d.id == id) = [both] ∧
      ((joinedQueue id o both s.cues.queue).filter fun d => !(d.id == id)) =
        (s.cues.queue.filter fun d => d.id != o.id).filter fun d => d.id != id := by
  have hmem : c ∈ s.cues.queue.filter fun d => d.id != o.id :=
    List.mem_filter.mpr ⟨hc, by simpa [hid] using hoid.symm⟩
  have hkeep (d : Cue) : (if d.id = id then both else d).id = d.id := by
    split
    next h => rw [hboth, h]
    next => rfl
  have hone := filter_id_eq (hs.ids.filter fun d => d.id != o.id) hmem
  constructor
  · have hsame : (fun d : Cue => d.id == id) ∘ (fun d : Cue => if d.id = id then both else d) = fun d => d.id == c.id := by
      funext d
      rw [Function.comp_apply, hkeep, hid]
    rw [joinedQueue, List.filter_map, hsame, hone, List.map_singleton, if_pos hid]
  · have hsame : (fun d : Cue => !(d.id == id)) ∘ (fun d : Cue => if d.id = id then both else d) = fun d => d.id != id := by
      funext d
      rw [Function.comp_apply, hkeep]
      rfl
    rw [joinedQueue, List.filter_map, hsame]
    refine (List.map_congr_left fun d hd => ?_).trans (List.map_id _)
    rw [if_neg (by simpa using (List.mem_filter.mp hd).2)]
    rfl

/-- R112, R131, R140: a return keeps the cue alone in DUE, or joins it with its mate. -/
theorem returnedToDue_returnCue (hs : Orderly s) (id : Nat) (hold : Option Int) :
    ReturnedToDue id hold s (returnCue id hold s) := by
  intro c hc hid
  have hfind : (updateCue id (dueAgain hold) s).findCue id = some (dueAgain hold c) := by
    rw [findCue_updateCue (f := dueAgain hold) fun _ => rfl, findCue_eq hs hc hid]
    rfl
  refine ⟨fun hnone => ?_, fun o ho ⟨hoid, hzero, hkey, htemplate, hwaits⟩ => ?_⟩
  · have hmate := returnMate_eq_none (hold := hold) hid hnone
    have hqueue : (updateCue id (dueAgain hold) s) =
        s.setCues { s.cues with queue := s.cues.queue.map fun d => if d.id = id then dueAgain hold c else d } :=
      congrArg (fun q => s.setCues { s.cues with queue := q })
        ((updateCue_queue _ _ _).trans (updateCue_map hs hc hid (dueAgain hold) (List.Subset.refl _)))
    rw [returnCue_eq, noZoneCheck_eq]
    simp only [coalesceReturned, hfind, hmate]
    rw [hqueue]
    rfl
  · have hmate := returnMate_eq hs (hold := hold) hid ho hoid hzero hkey htemplate hwaits
    have hjoined := joined_eq hs hc hid hold s.time.second o
    obtain ⟨honly, hothers⟩ :=
      filter_joinedQueue hs hc hid (both := takeContent s.time.second o (dueAgain hold c)) hoid hid
    have hreturn : returnCue id hold s =
        withoutHomeless
          (if o.expiry < (s.time.second : Int) then
            dropCues (fun x => x.id == id) .expired
              (s.setCues
                { s.cues with
                  queue := joinedQueue id o (takeContent s.time.second o (dueAgain hold c)) s.cues.queue })
          else
            s.setCues
              { s.cues with
                queue := joinedQueue id o (takeContent s.time.second o (dueAgain hold c)) s.cues.queue }) := by
      rw [← hjoined, returnCue_eq, noZoneCheck_eq]
      simp only [coalesceReturned, hfind, hmate]
      rfl
    refine ⟨fun hlive => ?_, fun hpast => ?_⟩
    · rw [hreturn, if_neg (not_lt.mpr hlive)]
      rfl
    · rw [hreturn, if_pos hpast, dropCues_eq]
      simp only [State.setCues_cues, State.setCues_node, honly, hothers]
      rfl

end

/-! ### The release of a zone (R137, R140) -/

/-- R137: a cue with zone `n` counted. -/
def countedZone (n : Nat) (completed : Bool) (c : Cue) : Cue :=
  if completed then { c with completed := c.completed ||| BitVec.twoPow 8 n }
  else { c with lost := c.lost ||| BitVec.twoPow 8 n }

theorem zonesHolding_isEmpty {l : LineCtl} {id : Nat} :
    (zonesHolding l id).isEmpty = true ↔ ∀ m, m < 8 → (l.zone m).holding ≠ some id := by
  simp [zonesHolding]

theorem releaseFrom_eq (id n : Nat) (completed : Bool) (s : State) :
    releaseFrom id n completed s =
      if (zonesHolding s.line id).isEmpty then endPlay id (updateCue id (countedZone n completed) s)
      else updateCue id (countedZone n completed) s := rfl

/-- One cue changed twice. -/
theorem updateCue_updateCue {i : Nat} {f g : Cue → Cue} (hid : ∀ c, (g c).id = c.id) (s : State) :
    updateCue i f (updateCue i g s) = updateCue i (fun c => f (g c)) s := by
  refine congrArg (fun q => s.setCues { s.cues with queue := q }) ((List.map_map).trans (List.map_congr_left fun c _ => ?_))
  by_cases h : c.id = i
  · simp [h, hid]
  · simp [h]

theorem countedZone_id (n : Nat) (completed : Bool) (c : Cue) : (countedZone n completed c).id = c.id := by
  cases completed <;> rfl

/-- The cues of other ids, after one cue is changed. -/
theorem filter_updateCue {id : Nat} {f : Cue → Cue} (hid : ∀ c, (f c).id = c.id) (s : State) :
    ((updateCue id f s).cues.queue.filter fun d => d.id != id) = s.cues.queue.filter fun d => d.id != id := by
  have hsame : ((fun d : Cue => d.id != id) ∘ fun d => if d.id = id then f d else d) = fun d => d.id != id := by
    funext d
    rw [Function.comp_apply]
    split <;> simp [hid]
  rw [updateCue_queue, List.filter_map, hsame]
  refine (List.map_congr_left fun d hd => ?_).trans (List.map_id _)
  rw [if_neg (by simpa using (List.mem_filter.mp hd).2)]
  rfl

theorem filter_updateCue_self {s : State} (hs : Orderly s) {id : Nat} {c : Cue} (hc : c ∈ s.cues.queue) (hcid : c.id = id)
    {f : Cue → Cue} (hid : ∀ c, (f c).id = c.id) :
    ((updateCue id f s).cues.queue.filter fun d => d.id == id) = [f c] := by
  have hsame : ((fun d : Cue => d.id == id) ∘ fun d => if d.id = id then f d else d) = fun d => d.id == c.id := by
    funext d
    rw [Function.comp_apply, hcid]
    split <;> simp [hid]
  rw [updateCue_queue, List.filter_map, hsame, filter_id_eq hs.ids hc, List.map_singleton, if_pos hcid]

/-- R137 to R140: a zone is counted, and with the last zone of its cue its play ends. -/
theorem releasedFrom_releaseFrom {s : State} (hs : Orderly s) (id n : Nat) (completed : Bool) :
    ReleasedFrom id n completed s (releaseFrom id n completed s) := by
  intro c hc hid done lost left
  have hkeep := countedZone_id n completed
  have hcounted : countedZone n completed c = { c with completed := done, lost := lost } := by cases completed <;> rfl
  have hfind : (updateCue id (countedZone n completed) s).findCue id = some { c with completed := done, lost := lost } := by
    rw [findCue_updateCue hkeep, findCue_eq hs hc hid, ← hcounted]
    rfl
  have hothers := filter_updateCue (id := id) hkeep s
  have honly := filter_updateCue_self hs hc hid hkeep
  refine ⟨fun hheld => ?_, fun hfree => ⟨fun hstays => ?_, fun hpre hpast => ?_, fun hpre hlive => ?_⟩⟩
  · have hnot : ¬ (zonesHolding s.line id).isEmpty = true := fun h => by
      obtain ⟨m, hm, hheld⟩ := hheld
      exact zonesHolding_isEmpty.mp h m hm hheld
    have hmap : (s.cues.queue.map fun d => if d.id = id then countedZone n completed d else d) =
        s.cues.queue.map fun d => if d.id = id then { d with completed := done, lost := lost } else d :=
      List.map_congr_left fun d hd => by
        split
        next hdid => rw [hs.eq_of_id hd hc (hdid.trans hid.symm), hcounted]
        next => rfl
    rw [releaseFrom_eq, if_neg hnot]
    exact congrArg (fun q => s.setCues { s.cues with queue := q }) ((updateCue_queue _ _ _).trans hmap)
  · rw [releaseFrom_eq, if_pos (zonesHolding_isEmpty.mpr hfree)]
    subst hid
    simp only [endPlay, hfind, hstays, Bool.false_eq_true, if_false, queueReport_eq, removeCue, hothers]
    rfl
  · rw [releaseFrom_eq, if_pos (zonesHolding_isEmpty.mpr hfree)]
    subst hid
    have hnot : ¬ ((updateCue c.id (countedZone n completed) s).time.second : Int) ≤ c.expiry := not_le.mpr hpast
    simp only [endPlay, hfind, hpre, if_true, if_neg hnot, dropCues_eq, honly, hcounted]
    exact congrArg (fun q => (s.setCues { s.cues with queue := q }).setNode _) hothers
  · rw [releaseFrom_eq, if_pos (zonesHolding_isEmpty.mpr hfree)]
    have hreturn : endPlay id (updateCue id (countedZone n completed) s) = returnCue id none s := by
      have hlive' : ((updateCue id (countedZone n completed) s).time.second : Int) ≤ c.expiry := hlive
      have hagain : (fun d : Cue => dueAgain none (countedZone n completed d)) = dueAgain none := by
        funext d
        cases completed <;> rfl
      simp only [endPlay, hfind, hpre, if_true, if_pos hlive']
      rw [returnCue_eq, returnCue_eq, updateCue_updateCue hkeep, hagain]
    rw [hreturn]
    exact returnedToDue_returnCue hs id none

end Sys2Proof.Laws
end

section
/-! SUPPORT. Replies and misses (R124 to R126, R132 to R138). -/

namespace Sys2Proof.Laws

open Sys2Proof Sys2Proof.Machine

/-! ### One zone freed or taken to FAULT, with no address pending -/

theorem lineCtl_eq {l l' : LineCtl} (hzones : l.zones = l'.zones) (hstatus : l.status = l'.status) (htimer : l.timer = l'.timer)
    (hjobs : l.jobs = l'.jobs) (hseq : l.seq = l'.seq) (hsent : l.sent = l'.sent) : l = l' := by
  cases l
  cases l'
  simp_all

theorem filter_sparesStop (n : Nat) (js : List LineJob) :
    js.filter (sparesStop n) = js.filter fun j => match j with
      | .stop m _ => m != n
      | .cancel _ _ => true :=
  List.filter_congr fun j _ => by cases j <;> rfl

/-- R137: a zone freed with no address pending. -/
theorem freeZone_alone {s : State} {n : Nat} (h : (s.line.zone n).pendingAddr = none) :
    freeZone n s = s.setLine (lineWithFreed s.line n (s.line.zone n).miss) := by
  rw [eq_setLine_of_touches (touches_freeZone_alone h), freeZone_line, filter_sparesStop]
  have hfreed : (s.line.zone n).freed =
      { s.line.zone n with state := .free, holding := none, timer := none, taken := false, pollDue := false } := by
    simp only [Zone.freed, h, Option.getD_none]
  rw [hfreed]
  rfl

/-- R135: a zone taken to FAULT with no address pending. -/
theorem faultZone_alone {s : State} {n : Nat} (h : (s.line.zone n).pendingAddr = none) :
    faultZone n s =
      (s.setLine (lineWithFault s.line n)).setNode (nodeAfterReports [.zoneFault n (s.line.zone n).addr] s.node) := by
  have hfaulted : (s.line.zone n).faulted =
      { s.line.zone n with
        state := .fault, holding := none, miss := 3, timer := some 320, taken := false, pollDue := false } := by
    simp only [Zone.faulted, h, Option.getD_none]
    rfl
  unfold faultZone
  rw [h, Option.isSome_none, if_neg (by decide), withdrawStop_eq, filter_sparesStop, hfaulted, queueReport_eq]
  rfl

theorem zone_setZone_same {l : LineCtl} {n : Nat} (h : n < l.zones.length) (z : Zone) : (l.setZone n z).zone n = z := by
  rw [setZone_zone l n n z h, if_pos rfl]

/-- R135, R137: a zone freed at once takes its new miss count with it. -/
theorem freeZone_setMiss {s : State} {n : Nat} (hn : n < s.line.zones.length) (h : (s.line.zone n).pendingAddr = none)
    (k : Nat) : freeZone n (setMiss n k s) = s.setLine (lineWithFreed s.line n k) := by
  have hzone : (setMiss n k s).line.zone n = { s.line.zone n with miss := k } := zone_setZone_same hn _
  rw [freeZone_alone (by rw [hzone]; exact h), lineWithFreed, hzone]
  change s.setLine { s.line with
      zones := (s.line.zones.set n { s.line.zone n with miss := k }).set n _, jobs := _ } = _
  rw [List.set_set]
  rfl

section

variable {s : State} {n id : Nat} (hn : n < s.line.zones.length) (hheld : (s.line.zone n).holding = some id)
  (hpend : (s.line.zone n).pendingAddr = none)

include hn hheld hpend

/-- R137, R138: a zone freed and released. -/
theorem freeAndRelease_setMiss (k : Nat) (completed : Bool) :
    freeAndRelease n completed (setMiss n k s) = releaseFrom id n completed (s.setLine (lineWithFreed s.line n k)) := by
  have hzone : ((setMiss n k s).line.zone n).holding = some id := by
    rw [show (setMiss n k s).line.zone n = _ from zone_setZone_same hn _]
    exact hheld
  simp only [freeAndRelease, hzone, freeZone_setMiss hn hpend]

omit hn in
/-- R135, R137: a zone taken to FAULT and released as lost. -/
theorem faultAndRelease_alone :
    faultAndRelease n s =
      withoutHomeless
        (releaseFrom id n false
          ((s.setLine (lineWithFault s.line n)).setNode (nodeAfterReports [.zoneFault n (s.line.zone n).addr] s.node))) := by
  simp only [faultAndRelease, hheld, faultZone_alone hpend, noZoneCheck_eq]

end

/-! ### The replies that end play or recover a zone (R136 to R138) -/

section

variable {s : State} {n a id : Nat} {chars : List LineChar}

theorem onReply_stop {k : ReplyKind} (hstatus : s.line.status = .transaction (.stop n a id)) (hk : k = .stopped)
    (hread : readMessage chars = some (a, k.code, [id])) : onReply k chars s = onStopped n (lineIdle s) := by
  subst hk
  simp only [onReply, hstatus, validReply, hread, decide_true, if_true]

theorem onReply_poll_playing (hstatus : s.line.status = .transaction (.poll n a))
    (hread : readMessage chars = some (a, 0x24, [])) : onReply .playing chars s = onPlaying n (lineIdle s) := by
  simp only [onReply, hstatus, validReply, hread, ReplyKind.code, decide_true, if_true]

theorem onReply_poll_finished (hstatus : s.line.status = .transaction (.poll n a))
    (hread : readMessage chars = some (a, 0x25, [])) : onReply .finished chars s = onEnded n (lineIdle s) := by
  simp only [onReply, hstatus, validReply, hread, ReplyKind.code, decide_true, if_true]

theorem onReply_poll_idle (hstatus : s.line.status = .transaction (.poll n a))
    (hread : readMessage chars = some (a, 0x26, [])) : onReply .idle chars s = onEnded n (lineIdle s) := by
  simp only [onReply, hstatus, validReply, hread, ReplyKind.code, decide_true, if_true]

theorem onEnded_held (h : (s.line.zone n).state = .playing ∨ (s.line.zone n).state = .stopping) :
    onEnded n s = onStopped n s := by
  rcases h with h | h <;> simp only [onEnded, h] <;> rfl

theorem onPlaying_playing (h : (s.line.zone n).state = .playing) :
    onPlaying n s = putZone n { s.line.zone n with miss := 0, timer := some 32 } s := by
  simp only [onPlaying, h]
  rfl

theorem onPlaying_stopping (h : (s.line.zone n).state = .stopping) : onPlaying n s = setMiss n 0 s := by
  simp only [onPlaying, h]

theorem onPlaying_fault (h : (s.line.zone n).state = .fault) : onPlaying n s = recoverZone n s := by
  simp only [onPlaying, h]

theorem onEnded_fault (h : (s.line.zone n).state = .fault) : onEnded n s = recoverZone n s := by
  simp only [onEnded, h]

end

/-- R136: a FAULT zone recovers with no address pending. -/
theorem recoverZone_alone {s : State} {n : Nat} (h : (s.line.zone n).pendingAddr = none) :
    recoverZone n s =
      { s with
        line :=
          { s.line with
            zones := s.line.zones.set n
              { s.line.zone n with state := .free, holding := none, miss := 0, timer := none, taken := false, pollDue := false } }
        node := nodeAfterReports [.zoneRecovered n (s.line.zone n).addr] s.node } := by
  have hfreed : ({ (s.line.zone n).freed with miss := 0 } : Zone) =
      { s.line.zone n with state := .free, holding := none, miss := 0, timer := none, taken := false, pollDue := false } := by
    simp only [Zone.freed, h, Option.getD_none]
  rw [recoverZone, queueReport_eq, hfreed]
  rfl

/-- Settles O58: a reply that ends play frees and releases the zone; a poll's other replies keep it or recover it. -/
theorem repliesEndPlayOrRecover : Obligations.RepliesEndPlayOrRecover := by
  intro s n a chars h8 hn hpend z
  have hlen : n < s.line.zones.length := h8 ▸ hn
  refine ⟨fun i id c hcase hheld hcues _ _ => ?_, fun hstatus hread => ⟨fun hstate => ?_, fun hstate => ?_⟩,
    fun i hcase hstatus hstate => ?_⟩
  · have hstopped : exec i s = .next (onStopped n (lineIdle s)) := by
      rcases hcase with ⟨rfl, hstatus, hread, -⟩ | ⟨rfl, hstatus, hread, hstate⟩ | ⟨rfl, hstatus, hread, hstate⟩
      · exact congrArg Host.Outcome.next (onReply_stop hstatus rfl hread)
      · exact congrArg Host.Outcome.next ((onReply_poll_finished hstatus hread).trans (onEnded_held (s := lineIdle s) hstate))
      · exact congrArg Host.Outcome.next ((onReply_poll_idle hstatus hread).trans (onEnded_held (s := lineIdle s) hstate))
    refine ⟨_, hstopped, ?_⟩
    rw [onStopped, freeAndRelease_setMiss (s := lineIdle s) hlen hheld hpend]
    refine releasedFrom_releaseFrom (s := State.setLine (lineIdle s) (lineWithFreed (lineIdle s).line n 0)) ?_ id n true
    exact orderly_of_cues (s := s) rfl (orderly_of_cuesOk hcues)
  · exact congrArg Host.Outcome.next
      ((onReply_poll_playing hstatus hread).trans (onPlaying_playing (s := lineIdle s) hstate))
  · exact congrArg Host.Outcome.next
      ((onReply_poll_playing hstatus hread).trans (onPlaying_stopping (s := lineIdle s) hstate))
  · have hrecover : exec i s = .next (recoverZone n (lineIdle s)) := by
      rcases hcase with ⟨rfl, hread⟩ | ⟨rfl, hread⟩ | ⟨rfl, hread⟩
      · exact congrArg Host.Outcome.next
          ((onReply_poll_playing hstatus hread).trans (onPlaying_fault (s := lineIdle s) hstate))
      · exact congrArg Host.Outcome.next
          ((onReply_poll_finished hstatus hread).trans (onEnded_fault (s := lineIdle s) hstate))
      · exact congrArg Host.Outcome.next ((onReply_poll_idle hstatus hread).trans (onEnded_fault (s := lineIdle s) hstate))
    rw [hrecover, recoverZone_alone (s := lineIdle s) hpend]
    rfl

end Sys2Proof.Laws
end

section
/-! SUPPORT. The failed offer sequence and the reply window that closes (R126, R134, R135). -/

namespace Sys2Proof.Laws

open Sys2Proof Sys2Proof.Machine

/-! ### A sequence fails (R134) -/

/-- R134: the line after the sequence of cue `id` fails, with no address pending. -/
def failedLine (id : Nat) (l : LineCtl) : LineCtl :=
  { l with
    seq := none
    jobs := (l.jobs ++ cancelJobs l id).filter fun j => (offeredZones l id).all fun n => sparesStop n j
    zones := (List.range 8).map fun m => if m ∈ offeredZones l id then (l.zone m).freed else l.zone m }

theorem failedLine_zone (id : Nat) (l : LineCtl) {m : Nat} (hm : m < 8) :
    (failedLine id l).zone m = if m ∈ offeredZones l id then (l.zone m).freed else l.zone m := by
  simp [failedLine, LineCtl.zone, List.getD_eq_getElem?_getD, hm]

theorem noPending_of_eight {l : LineCtl} (h8 : l.zones.length = 8) (h : ∀ m, m < 8 → (l.zone m).pendingAddr = none) :
    NoPending l := by
  intro m
  by_cases hm : m < 8
  · exact h m hm
  · rw [LineCtl.zone, List.getD_eq_default _ _ (by omega)]
    rfl

/-- R134: a sequence fails on the line, and then its cue returns. -/
theorem failSequence_eq {s : State} (h8 : s.line.zones.length = 8) (hno : NoPending s.line) (id : Nat) :
    failSequence id s =
      returnCue id (some ((s.time.second : Int) + 1)) (s.setLine (failedLine id s.line)) := by
  obtain ⟨u, hu⟩ : ∃ u, u = s.setLine { s.line with jobs := s.line.jobs ++ cancelJobs s.line id, seq := none } := ⟨_, rfl⟩
  have hzone (m : Nat) : u.line.zone m = s.line.zone m := by rw [hu]; rfl
  have hlen : u.line.zones.length = 8 := by rw [hu]; exact h8
  obtain ⟨t, ht⟩ : ∃ t, t = (offeredZones s.line id).foldl (fun st n => freeZone n st) u := ⟨_, rfl⟩
  have hline := foldl_freeZone_line (offeredZones s.line id) u
  rw [← ht] at hline
  obtain ⟨hstatus, htimer, hseq, hsent, htlen, hjobs⟩ := hline
  have hzones : t.line.zones = (failedLine id s.line).zones := by
    refine zones_ext (htlen.trans hlen) (by simp [failedLine]) fun m hm => ?_
    have hfold := foldl_freeZone_zone m (offeredZones s.line id) u (nodup_range8_filter _) fun n hn =>
      hlen.symm ▸ (mem_offeredZones.mp hn).1
    rw [← ht, hzone] at hfold
    exact hfold.trans (failedLine_zone id s.line hm).symm
  have hfailed : t = s.setLine (failedLine id s.line) := by
    have htouches := touches_foldl_freeZone (offeredZones s.line id) (s := u) fun m => by rw [hzone]; exact hno m
    rw [← ht] at htouches
    rw [eq_setLine_of_touches htouches]
    subst hu
    exact congrArg s.setLine (lineCtl_eq hzones hstatus htimer hjobs hseq hsent)
  rw [← hfailed, ht, hu]
  rfl

/-! ### What a return leaves of its cue (R134) -/

/-- Every cue of id `id` waits, under the hold given, its play count at 0. -/
def Waiting (id : Nat) (hold : Option Int) (q : List Cue) : Prop :=
  ∀ c ∈ q, c.id = id → c.waits = true ∧ c.retryHold = hold ∧ c.playCount = 0

theorem Waiting.sublist {id : Nat} {hold : Option Int} {q r : List Cue} (h : Waiting id hold q) (hr : r.Sublist q) :
    Waiting id hold r := fun c hc => h c (hr.subset hc)

theorem waiting_dropCues {id : Nat} {hold : Option Int} {s : State} (h : Waiting id hold s.cues.queue) (p : Cue → Bool)
    (reason : DropReason) : Waiting id hold (dropCues p reason s).cues.queue := by
  rw [dropCues_eq]
  exact h.sublist List.filter_sublist

theorem firstState_waits (sec : Nat) (new old : Cue) : (takeContent sec new old).waits = true := by
  have hstate : (takeContent sec new old).state = firstState new.release sec := rfl
  unfold Cue.waits
  rw [hstate, firstState]
  split <;> rfl

theorem waiting_updateCue {id i : Nat} {hold : Option Int} {s : State} {f : Cue → Cue} (hid : ∀ c, (f c).id = c.id)
    (hf : ∀ c ∈ s.cues.queue, c.id = i → i = id → (f c).waits = true ∧ (f c).retryHold = hold ∧ (f c).playCount = 0)
    (h : ∀ c ∈ s.cues.queue, c.id ≠ i → c.id = id → c.waits = true ∧ c.retryHold = hold ∧ c.playCount = 0) :
    Waiting id hold (updateCue i f s).cues.queue := by
  intro c hc hcid
  rw [updateCue_queue] at hc
  obtain ⟨d, hd, rfl⟩ := List.mem_map.mp hc
  split at hcid
  next hdi =>
    rw [if_pos hdi]
    exact hf d hd hdi (hdi.symm.trans ((hid d).symm.trans hcid))
  next hdi =>
    rw [if_neg hdi]
    exact h d hd hdi hcid

theorem waiting_returnCue (id : Nat) (hold : Option Int) (s : State) : Waiting id hold (returnCue id hold s).cues.queue := by
  have hdue : Waiting id hold (updateCue id (dueAgain hold) s).cues.queue :=
    waiting_updateCue (fun _ => rfl) (fun _ _ _ _ => ⟨rfl, rfl, rfl⟩) fun _ _ hne hid => absurd hid hne
  have hjoined (o : Cue) : Waiting id hold
      (updateCue id (takeContent s.time.second o) (removeCue o.id (updateCue id (dueAgain hold) s))).cues.queue := by
    have hrest : Waiting id hold (removeCue o.id (updateCue id (dueAgain hold) s)).cues.queue :=
      hdue.sublist List.filter_sublist
    refine waiting_updateCue (fun _ => rfl) (fun c hc hci _ => ?_) fun _ _ hne hid => absurd hid hne
    obtain ⟨-, hhold, hcount⟩ := hrest c hc hci
    exact ⟨firstState_waits _ _ _, hhold, hcount⟩
  rw [returnCue_eq]
  refine waiting_dropCues ?_ _ _
  unfold coalesceReturned
  split
  next => exact hdue
  next =>
    split
    next => exact hdue
    next o _ =>
      dsimp only
      split
      next => exact waiting_dropCues (hjoined o) _ _
      next => exact hjoined o

/-! ### TAKEN and BUSY (R132, R134) -/

section

variable {s : State} {n a id : Nat} {chars : List LineChar}

theorem onReply_invalid {k : ReplyKind} {t : Transaction} (hstatus : s.line.status = .transaction t)
    (hbad : validReply k t chars = false) : onReply k chars s = s := by
  simp only [onReply, hstatus, hbad, Bool.false_eq_true, if_false]

theorem onReply_offer_taken (hstatus : s.line.status = .transaction (.offer n a id))
    (hread : readMessage chars = some (a, 0x21, [id])) : onReply .taken chars s = onTaken n (lineIdle s) := by
  simp only [onReply, hstatus, validReply, hread, ReplyKind.code, decide_true, if_true]

theorem onReply_offer_busy (hstatus : s.line.status = .transaction (.offer n a id))
    (hread : readMessage chars = some (a, 0x22, [id])) :
    onReply .busy chars s = failSequence id (setMiss n 0 (lineIdle s)) := by
  simp only [onReply, hstatus, validReply, hread, ReplyKind.code, decide_true, if_true]
  rfl

end

theorem setMiss_zone {s : State} {n : Nat} (hn : n < s.line.zones.length) (k m : Nat) :
    (setMiss n k s).line.zone m = if m = n then { s.line.zone n with miss := k } else s.line.zone m :=
  setZone_zone s.line n m _ hn

theorem setMiss_length (n k : Nat) (s : State) : (setMiss n k s).line.zones.length = s.line.zones.length :=
  setZone_length _ _ _

/-- A miss count plays no part in the sequence. -/
theorem offeredZones_setMiss {s : State} {n : Nat} (hn : n < s.line.zones.length) (k id : Nat) :
    offeredZones (setMiss n k s).line id = offeredZones s.line id := by
  refine List.filter_congr fun m _ => ?_
  rw [setMiss_zone hn]
  split
  next h => rw [h]
  next => rfl

theorem mem_failedLine_cancel {l : LineCtl} {id m : Nat} (hm : m ∈ offeredZones l id) (htaken : (l.zone m).taken = true) :
    LineJob.cancel (l.zone m).addr id ∈ (failedLine id l).jobs := by
  refine List.mem_filter.mpr ⟨List.mem_append_right _ ?_, by simp [sparesStop]⟩
  exact List.mem_map.mpr ⟨m, List.mem_filter.mpr ⟨hm, htaken⟩, rfl⟩

/-- Settles O57: a TAKEN marks its zone; a BUSY fails the sequence, whose cue returns. -/
theorem offerRepliesTakenAndBusy : Obligations.OfferRepliesTakenAndBusy := by
  intro s n a id chars hstatus h8 hn
  have hlen : n < s.line.zones.length := h8 ▸ hn
  refine ⟨fun hread => ?_, fun hnot => ?_, fun hnot => ?_, fun hread hpend => ?_⟩
  · exact congrArg Host.Outcome.next (onReply_offer_taken hstatus hread)
  · exact congrArg Host.Outcome.next (onReply_invalid hstatus (decide_eq_false hnot))
  · exact congrArg Host.Outcome.next (onReply_invalid hstatus (decide_eq_false hnot))
  · obtain ⟨u, hu⟩ : ∃ u, u = setMiss n 0 (lineIdle s) := ⟨_, rfl⟩
    have hzone (m : Nat) : u.line.zone m = if m = n then { s.line.zone n with miss := 0 } else s.line.zone m := by
      rw [hu]
      exact setMiss_zone (s := lineIdle s) hlen 0 m
    have hno : NoPending u.line := fun m => by
      rw [hzone]
      split
      · exact noPending_of_forall hpend n
      · exact noPending_of_forall hpend m
    have hu8 : u.line.zones.length = 8 := by
      rw [hu, setMiss_length]
      exact h8
    have hoffered (m : Nat) : m ∈ offeredZones u.line id ↔
        m < 8 ∧ (s.line.zone m).state = .offered ∧ (s.line.zone m).holding = some id := by
      rw [hu, offeredZones_setMiss (s := lineIdle s) hlen]
      exact mem_offeredZones
    have hbusy : exec (.busy chars) s = .next
        (returnCue id (some ((s.time.second : Int) + 1)) (u.setLine (failedLine id u.line))) := by
      refine congrArg Host.Outcome.next ((onReply_offer_busy hstatus hread).trans ?_)
      rw [← hu, failSequence_eq hu8 hno, hu]
      rfl
    obtain ⟨t, ht⟩ : ∃ t, t = returnCue id (some ((s.time.second : Int) + 1)) (u.setLine (failedLine id u.line)) := ⟨_, rfl⟩
    rw [← ht] at hbusy
    have hline : t.line = failedLine id u.line := by
      rw [ht]
      exact touches_returnCue _ _ _ .line (by decide)
    have htzone (m : Nat) (hm : m < 8) : t.line.zone m =
        if m ∈ offeredZones u.line id then (u.line.zone m).freed else u.line.zone m := by
      rw [hline]
      exact failedLine_zone id u.line hm
    have hfreed (m : Nat) : (u.line.zone m).freed.addr = (u.line.zone m).addr := by
      simp [Zone.freed, hno m]
    refine ⟨t, hbusy, by rw [hline, hu]; rfl, by rw [hline]; rfl, fun m hm hoff hheld => ?_, fun m hm hne hnot => ?_,
      fun m hm hoff hheld htaken => ?_, ?_, fun c hcues hc hcid haddr hoff hheld hbit hmates => ?_⟩
    · rw [htzone m hm, if_pos ((hoffered m).mpr ⟨hm, hoff, hheld⟩), hfreed, hzone]
      refine ⟨rfl, rfl, ?_, ?_⟩
      · split
        next h => rw [h]
        next => rfl
      · rw [Zone.freed]
        split <;> rfl
    · rw [htzone m hm, if_neg (fun h => hnot ((hoffered m).mp h).2), hzone, if_neg hne]
    · have hin := (hoffered m).mpr ⟨hm, hoff, hheld⟩
      have haddr : (u.line.zone m).addr = (s.line.zone m).addr := by
        rw [hzone]
        split
        next h => rw [h]
        next => rfl
      have htaken' : (u.line.zone m).taken = true := by
        rw [hzone]
        split
        next h => exact h ▸ htaken
        next => exact htaken
      rw [hline, ← haddr]
      exact mem_failedLine_cancel hin htaken'
    · rw [ht]
      exact waiting_returnCue _ _ _
    · have horderly : Orderly (u.setLine (failedLine id u.line)) :=
        orderly_of_cues (s := s) (by rw [hu]; rfl) (orderly_of_cuesOk hcues)
      have hqueue : (u.setLine (failedLine id u.line)).cues.queue = s.cues.queue := by rw [hu]; rfl
      obtain ⟨halone, -⟩ := returnedToDue_returnCue horderly id (some ((s.time.second : Int) + 1)) c (hqueue ▸ hc) hcid
      have hreturned := halone fun o ho ⟨hoid, hzero, hkey, htemplate, hwaits⟩ =>
        hmates o (hqueue ▸ ho) hoid ⟨fun h => hzero (hkey.symm.trans h), hkey, htemplate, hwaits⟩
      refine ⟨dueAgain (some ((s.time.second : Int) + 1)) c, ?_, hcid, rfl, rfl, rfl⟩
      rw [ht, hreturned]
      refine List.mem_filter.mpr ⟨List.mem_map.mpr ⟨c, hqueue ▸ hc, if_pos hcid⟩, ?_⟩
      have husable : n ∈ usableZones (failedLine id u.line) c.zones := by
        refine (mem_usableZones _ _ _).mpr ⟨hn, hbit, ?_⟩
        rw [← hline, htzone n hn, if_pos ((hoffered n).mpr ⟨hn, hoff, hheld⟩), Zone.usable, hfreed, hzone, if_pos rfl]
        simpa [Zone.freed] using haddr
      have hhome : (usableZones (failedLine id u.line) c.zones).isEmpty = false := by
        simpa using List.ne_nil_of_mem husable
      simpa [dueAgain] using hhome

/-! ### The reply window closes (R126, R135 to R138) -/

/-- R126: the line left quiet after a window that closed. -/
def quietLine (l : LineCtl) : LineCtl := { l with status := .quiet 480000, timer := 10000 }

theorem quietTicks_eq : Config.quietChars * Config.charTicks = 10000 := by decide

theorem quietMaxTicks_eq : Config.quietMaxTicks = 480000 := by decide

section

variable {s : State} {n a id : Nat}

theorem closeWindow_eq {t : Transaction} (hstatus : s.line.status = .transaction t) (hawaits : t.awaitsReply = true) :
    closeWindow s = missTransaction t (s.setLine (quietLine s.line)) := by
  simp only [closeWindow, hstatus, hawaits, if_true, quietTicks_eq, quietMaxTicks_eq]
  rfl

/-- R126: characters after the close begin the quiet anew. -/
theorem onReply_quiet {k : ReplyKind} {chars : List LineChar} {left : Nat} (hstatus : s.line.status = .quiet left)
    (hchars : chars ≠ []) : onReply k chars s = s.setLine { s.line with timer := min 10000 left } := by
  have hsome : chars.isEmpty = false := by simpa using hchars
  simp only [onReply, hstatus, hsome, Bool.false_eq_true, if_false, lateCharacters, quietTicks_eq]

theorem missPoll_playing (hstate : (s.line.zone n).state = .playing) (hmiss : (s.line.zone n).miss < 2) :
    missPoll n s = putZone n { s.line.zone n with miss := (s.line.zone n).miss + 1, timer := some 32 } s := by
  have h : missPoll n s =
      if 3 ≤ (s.line.zone n).miss + 1 then faultAndRelease n s
      else putZone n { s.line.zone n with miss := (s.line.zone n).miss + 1, timer := some 32 } s := by
    simp only [missPoll, hstate]
    rfl
  rw [h, if_neg (by omega)]

theorem missPoll_stopping (hstate : (s.line.zone n).state = .stopping) (hmiss : (s.line.zone n).miss < 2) :
    missPoll n s = setMiss n ((s.line.zone n).miss + 1) s := by
  have h : missPoll n s =
      if 3 ≤ (s.line.zone n).miss + 1 then faultAndRelease n s else setMiss n ((s.line.zone n).miss + 1) s := by
    simp only [missPoll, hstate]
  rw [h, if_neg (by omega)]

theorem missPoll_fault (hstate : (s.line.zone n).state = .fault) :
    missPoll n s = putZone n { s.line.zone n with miss := 3, timer := some 320 } s := by
  simp only [missPoll, hstate]
  rfl

/-- R135, R137: the third miss of a poll. -/
theorem missPoll_third (hstate : (s.line.zone n).state = .playing ∨ (s.line.zone n).state = .stopping)
    (hmiss : (s.line.zone n).miss = 2) : missPoll n s = faultAndRelease n s := by
  have hthree : 3 ≤ (s.line.zone n).miss + 1 := by omega
  rcases hstate with hstate | hstate <;> simp only [missPoll, hstate, if_pos hthree]

end

/-- A cue with zone `n` counted as lost, while others hold it (R137). -/
theorem releaseFrom_lost {s : State} {id n m : Nat} (hn : n < 8) (hm : m < 8) (hheld : (s.line.zone m).holding = some id)
    {c : Cue} (hc : c ∈ (releaseFrom id n false s).cues.queue) (hid : c.id = id) : c.lost.getLsbD n = true := by
  have hnot : ¬ (zonesHolding s.line id).isEmpty = true := fun h => zonesHolding_isEmpty.mp h m hm hheld
  rw [releaseFrom_eq, if_neg hnot, updateCue_queue] at hc
  obtain ⟨d, -, rfl⟩ := List.mem_map.mp hc
  have hdid : d.id = id := by
    split at hid
    · exact (countedZone_id n false d).symm.trans hid
    · exact hid
  rw [if_pos hdid]
  simp [countedZone, hn]

theorem withoutHomeless_twice (s : State) : withoutHomeless (withoutHomeless s) = withoutHomeless s := by
  refine withoutHomeless_self fun c hc hdue => ?_
  have hhome := (List.mem_filter.mp hc).2
  have hdue' : (c.state == .due) = true := by simp [hdue]
  intro hnone
  have hline : (withoutHomeless s).line = s.line := rfl
  rw [hline] at hnone
  simp [hdue', hnone] at hhome

end Sys2Proof.Laws
end

section
/-! SUPPORT. The misses a closed window counts (R126, R134 to R138). -/

namespace Sys2Proof.Laws

open Sys2Proof Sys2Proof.Machine

/-- The zones of the sequence of cue `id`. -/
def offeredTo (l : LineCtl) (id m : Nat) : Bool := (l.zone m).state == .offered && (l.zone m).holding == some id

theorem mem_offeredZones_iff {l : LineCtl} {id m : Nat} : m ∈ offeredZones l id ↔ m < 8 ∧ offeredTo l id m = true :=
  mem_range8_filter

/-- R134: the line after the miss of the OFFER to zone `n` of line `l`, where `f` shows what becomes of that zone. -/
def missedLine (l f : LineCtl) (n id : Nat) : LineCtl :=
  { quietLine f with
    seq := none
    jobs := l.jobs ++ ((List.range 8).filter fun m => offeredTo l id m && (l.zone m).taken).map fun m =>
      .cancel (l.zone m).addr id
    zones := (List.range 8).map fun m =>
      if m ≠ n ∧ offeredTo l id m = true then (lineWithFreed l m (l.zone m).miss).zone m else f.zone m }

theorem lineWithFreed_zone_same {l : LineCtl} {m : Nat} (hm : m < l.zones.length) (k : Nat) :
    (lineWithFreed l m k).zone m =
      { l.zone m with state := .free, holding := none, miss := k, timer := none, taken := false, pollDue := false } :=
  zone_setZone_same hm _

theorem lineWithFreed_zone_other (l : LineCtl) {n m : Nat} (k : Nat) (h : m ≠ n) : (lineWithFreed l n k).zone m = l.zone m :=
  setZone_zone_other l _ h

theorem freed_of_pending_none {z : Zone} (h : z.pendingAddr = none) :
    z.freed = { z with state := .free, holding := none, timer := none, taken := false, pollDue := false } := by
  simp only [Zone.freed, h, Option.getD_none]

section

variable {l u f : LineCtl} {n id : Nat}
  (h8 : l.zones.length = 8) (hno : NoPending l) (hoff : (l.zone n).state = .offered)
  (hstops : ∀ m i, LineJob.stop m i ∈ l.jobs → (l.zone m).state = .stopping)
  (hother : ∀ m, m ≠ n → u.zone m = l.zone m)

include hoff hstops hother in
/-- No STOP is pending for a zone of a sequence. -/
theorem spares_stops (j : LineJob) (hj : j ∈ l.jobs) : ((offeredZones u id).all fun k => sparesStop k j) = true := by
  refine List.all_eq_true.mpr fun k hk => ?_
  cases j with
  | cancel a i => rfl
  | stop m i =>
    refine bne_iff_ne.mpr fun hmk => ?_
    have hstop := hstops m i hj
    obtain ⟨-, hkoff, -⟩ := mem_offeredZones.mp hk
    rw [hmk] at hstop
    by_cases hkn : k = n
    · rw [hkn, hoff] at hstop
      cases hstop
    · rw [hother k hkn, hstop] at hkoff
      cases hkoff

include hother in
/-- R134: the zone whose OFFER missed has not taken the cue, so the CANCELs are those of the others. -/
theorem cancelJobs_eq (hltaken : (l.zone n).taken = false) (hutaken : (u.zone n).taken = false) :
    cancelJobs u id = ((List.range 8).filter fun m => offeredTo l id m && (l.zone m).taken).map fun m =>
      .cancel (l.zone m).addr id := by
  have hfilter : (offeredZones u id).filter (fun m => (u.zone m).taken) =
      (List.range 8).filter fun m => offeredTo l id m && (l.zone m).taken := by
    rw [offeredZones, List.filter_filter]
    refine List.filter_congr fun m _ => ?_
    by_cases hm : m = n
    · subst hm
      simp [hltaken, hutaken]
    · rw [hother m hm, Bool.and_comm]
      rfl
  rw [cancelJobs, hfilter]
  refine List.map_congr_left fun m hm => ?_
  have hmn : m ≠ n := by
    rintro rfl
    simp [hltaken] at hm
  rw [hother m hmn]

include h8 hno hoff hstops hother in
theorem failedLine_missed (hjobs : u.jobs = l.jobs) (hstatus : u.status = .quiet 480000) (htimer : u.timer = 10000)
    (hsent : u.sent = f.sent) (hltaken : (l.zone n).taken = false) (hutaken : (u.zone n).taken = false)
    (hthis : (if n ∈ offeredZones u id then (u.zone n).freed else u.zone n) = f.zone n)
    (hfother : ∀ m, m ≠ n → f.zone m = l.zone m) : failedLine id u = missedLine l f n id := by
  refine lineCtl_eq ?_ hstatus htimer ?_ rfl hsent
  · unfold failedLine missedLine
    dsimp only
    refine List.map_congr_left fun m hm => ?_
    have hm : m < 8 := List.mem_range.mp hm
    by_cases hmn : m = n
    · subst hmn
      rw [hthis, if_neg (fun h => h.1 rfl)]
    · have hmem : m ∈ offeredZones u id ↔ m ≠ n ∧ offeredTo l id m = true := by
        rw [mem_offeredZones_iff, offeredTo, hother m hmn]
        exact ⟨fun h => ⟨hmn, h.2⟩, fun h => ⟨hm, h.2⟩⟩
      rw [hother m hmn]
      by_cases hin : m ∈ offeredZones u id
      · rw [if_pos hin, if_pos (hmem.mp hin), lineWithFreed_zone_same (h8 ▸ hm), freed_of_pending_none (hno m)]
      · rw [if_neg hin, if_neg (fun h => hin (hmem.mpr h)), hfother m hmn]
  · change (u.jobs ++ cancelJobs u id).filter _ = _
    rw [hjobs, cancelJobs_eq hother hltaken hutaken]
    refine List.filter_eq_self.mpr fun j hj => ?_
    rcases List.mem_append.mp hj with hj | hj
    · exact spares_stops hoff hstops hother j hj
    · obtain ⟨m, -, rfl⟩ := List.mem_map.mp hj
      simp [sparesStop]

end

/-! ### The misses of an OFFER, a STOP and a POLL -/

section

variable {s : State} {n id : Nat} (h8 : s.line.zones.length = 8) (hn : n < 8) (hno : NoPending s.line)
  (hoff : (s.line.zone n).state = .offered) (hheld : (s.line.zone n).holding = some id)
  (htaken : (s.line.zone n).taken = false)
  (hstops : ∀ m i, LineJob.stop m i ∈ s.line.jobs → (s.line.zone m).state = .stopping)

include h8 hn hno hoff htaken hstops

include hheld in
/-- R134: the miss of an OFFER, short of the third. -/
theorem missOffer_early (hmiss : (s.line.zone n).miss < 2) :
    missOffer n id (s.setLine (quietLine s.line)) =
      returnCue id (some ((s.time.second : Int) + 1))
        (s.setLine (missedLine s.line (lineWithFreed s.line n ((s.line.zone n).miss + 1)) n id)) := by
  have hlen : n < s.line.zones.length := h8 ▸ hn
  obtain ⟨u, hu⟩ : ∃ u, u = setMiss n ((s.line.zone n).miss + 1) (s.setLine (quietLine s.line)) := ⟨_, rfl⟩
  have hzone (m : Nat) : u.line.zone m =
      if m = n then { s.line.zone n with miss := (s.line.zone n).miss + 1 } else s.line.zone m := by
    rw [hu]
    exact setMiss_zone (s := s.setLine (quietLine s.line)) hlen _ m
  have hthis : u.line.zone n = { s.line.zone n with miss := (s.line.zone n).miss + 1 } := by rw [hzone, if_pos rfl]
  have hother (m : Nat) (hm : m ≠ n) : u.line.zone m = s.line.zone m := by rw [hzone, if_neg hm]
  have hin : n ∈ offeredZones u.line id := mem_offeredZones.mpr ⟨hn, by rw [hthis]; exact hoff, by rw [hthis]; exact hheld⟩
  have hmissed : missOffer n id (s.setLine (quietLine s.line)) = failSequence id u := by
    rw [hu]
    exact if_neg (show ¬ 3 ≤ (s.line.zone n).miss + 1 by omega)
  have hfailed : failedLine id u.line =
      missedLine s.line (lineWithFreed s.line n ((s.line.zone n).miss + 1)) n id := by
    refine failedLine_missed h8 hno hoff hstops hother (by rw [hu]; rfl) (by rw [hu]; rfl) (by rw [hu]; rfl) (by rw [hu]; rfl)
      htaken (by rw [hthis]; exact htaken) ?_ fun m hm => lineWithFreed_zone_other _ _ hm
    rw [if_pos hin, hthis, lineWithFreed_zone_same hlen, freed_of_pending_none (by exact hno n)]
  have hu8 : u.line.zones.length = 8 := by
    rw [hu, setMiss_length]
    exact h8
  have huno : NoPending u.line := fun m => by
    rw [hzone]
    split
    · exact hno n
    · exact hno m
  rw [hmissed, failSequence_eq hu8 huno, hfailed, hu]
  rfl

/-- R134, R135: the third miss of an OFFER takes its zone to FAULT. -/
theorem missOffer_third (hmiss : 2 ≤ (s.line.zone n).miss) :
    missOffer n id (s.setLine (quietLine s.line)) =
      withoutHomeless
        (returnCue id (some ((s.time.second : Int) + 1))
          ((s.setLine (missedLine s.line (lineWithFault s.line n) n id)).setNode
            (nodeAfterReports [.zoneFault n (s.line.zone n).addr] s.node))) := by
  have hlen : n < s.line.zones.length := h8 ▸ hn
  obtain ⟨u, hu⟩ : ∃ u, u = faultZone n (s.setLine (quietLine s.line)) := ⟨_, rfl⟩
  have hueq : u = (s.setLine (quietLine (lineWithFault s.line n))).setNode
      (nodeAfterReports [.zoneFault n (s.line.zone n).addr] s.node) := by
    rw [hu, faultZone_alone (s := s.setLine (quietLine s.line)) (hno n)]
    rfl
  have hthis : (u.line.zone n).state = .fault ∧ u.line.zone n = (lineWithFault s.line n).zone n := by
    have hzone : u.line.zone n = (lineWithFault s.line n).zone n := by rw [hueq]; rfl
    refine ⟨?_, hzone⟩
    rw [hzone]
    exact congrArg Zone.state (zone_setZone_same hlen _)
  have hfaultOther (m : Nat) (hm : m ≠ n) : (lineWithFault s.line n).zone m = s.line.zone m := setZone_zone_other s.line _ hm
  have hother (m : Nat) (hm : m ≠ n) : u.line.zone m = s.line.zone m := by
    rw [hueq]
    exact hfaultOther m hm
  have hfaultZone : (lineWithFault s.line n).zone n = _ := zone_setZone_same hlen _
  have hjobs : u.line.jobs = s.line.jobs := by
    rw [hueq]
    refine List.filter_eq_self.mpr fun j hj => ?_
    cases j with
    | cancel a i => rfl
    | stop m i =>
      refine bne_iff_ne.mpr fun hmn => ?_
      have hstop := hstops m i hj
      rw [hmn, hoff] at hstop
      cases hstop
  have hout : n ∉ offeredZones u.line id := fun h => by
    obtain ⟨-, hstate, -⟩ := mem_offeredZones.mp h
    rw [hthis.1] at hstate
    cases hstate
  have hfailed : failedLine id u.line = missedLine s.line (lineWithFault s.line n) n id := by
    refine failedLine_missed h8 hno hoff hstops hother hjobs (by rw [hueq]; rfl) (by rw [hueq]; rfl) (by rw [hueq]; rfl)
      htaken ?_ ?_ hfaultOther
    · rw [hthis.2, hfaultZone]
    · rw [if_neg hout, hthis.2]
  have hu8 : u.line.zones.length = 8 := by
    rw [hueq]
    exact (setZone_length _ _ _).trans h8
  have huno : NoPending u.line := fun m => by
    by_cases hm : m = n
    · rw [hm, hthis.2, hfaultZone]
      exact hno n
    · rw [hother m hm]
      exact hno m
  have hmissed : missOffer n id (s.setLine (quietLine s.line)) = noZoneCheck (failSequence id u) := by
    rw [hu]
    exact if_pos (show 3 ≤ (s.line.zone n).miss + 1 by omega)
  rw [hmissed, noZoneCheck_eq, failSequence_eq hu8 huno, hfailed, hueq]
  rfl

end

section

variable {s : State} {n a id : Nat} (h8 : s.line.zones.length = 8) (hn : n < 8) (hpend : (s.line.zone n).pendingAddr = none)

/-- R135: the state in which zone `n` has gone to FAULT with its window closed. -/
def faultedState (n : Nat) (s : State) : State :=
  { s with
    line := quietLine (lineWithFault s.line n), node := nodeAfterReports [.zoneFault n (s.line.zone n).addr] s.node }

include hpend in
/-- R135, R137: a zone that goes to FAULT as its window closes is released as lost. -/
theorem faultAndRelease_closed (hheld : (s.line.zone n).holding = some id) :
    faultAndRelease n (s.setLine (quietLine s.line)) = withoutHomeless (releaseFrom id n false (faultedState n s)) :=
  faultAndRelease_alone (s := s.setLine (quietLine s.line)) hheld hpend

include h8 hn hpend in
/-- R138: a zone sent STOP that did not answer is released as lost. -/
theorem freeAndRelease_closed (hheld : (s.line.zone n).holding = some id) (k : Nat) :
    freeAndRelease n false (setMiss n k (s.setLine (quietLine s.line))) =
      releaseFrom id n false (s.setLine (quietLine (lineWithFreed s.line n k))) :=
  freeAndRelease_setMiss (s := s.setLine (quietLine s.line)) (h8 ▸ hn) hheld hpend k false

/-- A return ends with the NO ZONE check, and so needs no other. -/
theorem withoutHomeless_returnCue (id : Nat) (hold : Option Int) (u : State) :
    withoutHomeless (returnCue id hold u) = returnCue id hold u := by
  rw [returnCue_eq, noZoneCheck_eq, withoutHomeless_twice]

theorem orderly_faultedState {s : State} (hs : s.cuesOk) (n : Nat) : Orderly (faultedState n s) :=
  orderly_of_cues (s := s) rfl (orderly_of_cuesOk hs)

/-- R172: with room in its queue the ZONE FAULT is kept through the release. -/
theorem zoneFault_kept (hroom : s.node.reports.length < 16) :
    Report.zoneFault n (s.line.zone n).addr ∈
      (withoutHomeless (releaseFrom id n false (faultedState n s))).node.reports := by
  have hqueued : Report.zoneFault n (s.line.zone n).addr ∈ (faultedState n s).node.reports := by
    change _ ∈ (nodeAfterReports [.zoneFault n (s.line.zone n).addr] s.node).reports
    rw [nodeAfterReports_cons, if_pos hroom]
    simp
  obtain ⟨rs, hrs⟩ := ((calm_releaseFrom (faultedState n s) id n false).trans (calm_noZoneCheck _)).told
  rw [← noZoneCheck_eq, hrs]
  exact nodeAfterReports_keeps rs _ _ hqueued

end

/-- Settles O59: the window's close makes the line quiet, and then the miss is the zone's. -/
theorem windowCloseCountsMiss : Obligations.WindowCloseCountsMiss := by
  intro s n a id h8 hn z quiet faulted
  have hlen : n < s.line.zones.length := h8 ▸ hn
  refine ⟨fun i chars left hstatus hchars hi => ?_, fun hstatus => ⟨fun hstate hmiss => ?_, fun hstate hmiss => ?_,
    fun hstate => ?_, fun hstate hmiss hheld hpend => ?_⟩, fun hstatus hstate hheld hpend hcues => ?_,
    ?_⟩
  · have hquiet (k : ReplyKind) : Host.Outcome.next (φ := Fault) (ρ := Refusal) (onReply k chars s) =
        .next { s with line := { s.line with timer := min 10000 left } } :=
      congrArg Host.Outcome.next (onReply_quiet hstatus hchars)
    simp only [List.mem_cons, List.not_mem_nil, or_false] at hi
    rcases hi with rfl | rfl | rfl | rfl | rfl | rfl
    · exact hquiet .taken
    · exact hquiet .busy
    · exact hquiet .stopped
    · exact hquiet .playing
    · exact hquiet .finished
    · exact hquiet .idle
  · exact congrArg Host.Outcome.next
      ((closeWindow_eq hstatus rfl).trans (missPoll_playing (s := s.setLine (quietLine s.line)) hstate hmiss))
  · exact congrArg Host.Outcome.next
      ((closeWindow_eq hstatus rfl).trans (missPoll_stopping (s := s.setLine (quietLine s.line)) hstate hmiss))
  · exact congrArg Host.Outcome.next
      ((closeWindow_eq hstatus rfl).trans (missPoll_fault (s := s.setLine (quietLine s.line)) hstate))
  · have hclosed : closeWindow s = withoutHomeless (releaseFrom id n false (faultedState n s)) :=
      (closeWindow_eq hstatus rfl).trans
        ((missPoll_third (s := s.setLine (quietLine s.line)) hstate hmiss).trans (faultAndRelease_closed hpend hheld))
    refine ⟨_, congrArg Host.Outcome.next hclosed, ?_, fun hroom => zoneFault_kept hroom, fun hsome c hc hcid => ?_,
      fun hcues => ⟨_, releasedFrom_releaseFrom (orderly_faultedState hcues n) id n false, rfl⟩⟩
    · exact touches_releaseFrom (faultedState n s) id n false .line (by decide)
    · obtain ⟨m, hm, hmn, hmheld⟩ := hsome
      refine releaseFrom_lost (s := faultedState n s) hn hm ?_ (List.mem_of_mem_filter hc) hcid
      exact (congrArg Zone.holding (setZone_zone_other s.line _ hmn)).trans hmheld
  · refine ⟨_, congrArg Host.Outcome.next (closeWindow_eq hstatus rfl), fun hmiss => ?_, fun hmiss => ?_⟩
    · have hmissed : missTransaction (.stop n a id) (s.setLine (quietLine s.line)) =
          freeAndRelease n false (setMiss n (z.miss + 1) (s.setLine (quietLine s.line))) :=
        if_neg (show ¬ 3 ≤ z.miss + 1 by omega)
      rw [hmissed, freeAndRelease_closed h8 hn hpend hheld]
      exact releasedFrom_releaseFrom (s := s.setLine (quietLine (lineWithFreed s.line n (z.miss + 1))))
        (orderly_of_cues (s := s) rfl (orderly_of_cuesOk hcues)) id n false
    · have hmissed : missTransaction (.stop n a id) (s.setLine (quietLine s.line)) =
          faultAndRelease n (s.setLine (quietLine s.line)) := if_pos (show 3 ≤ z.miss + 1 by omega)
      rw [hmissed, faultAndRelease_closed hpend hheld]
      exact ⟨_, releasedFrom_releaseFrom (orderly_faultedState hcues n) id n false, rfl⟩
  · intro hstatus hstate hheld htaken hpend hstops hcues mine failed
    have hno : NoPending s.line := noPending_of_eight h8 hpend
    refine ⟨_, congrArg Host.Outcome.next (closeWindow_eq hstatus rfl), fun hmiss => ?_, fun hmiss => ?_⟩
    · rw [show missTransaction (.offer n a id) _ = _ from missOffer_early h8 hn hno hstate hheld htaken hstops hmiss]
      exact returnedToDue_returnCue
        (s := s.setLine (missedLine s.line (lineWithFreed s.line n ((s.line.zone n).miss + 1)) n id))
        (orderly_of_cues (s := s) rfl (orderly_of_cuesOk hcues)) id _
    · rw [show missTransaction (.offer n a id) _ = _ from missOffer_third h8 hn hno hstate htaken hstops hmiss]
      rw [withoutHomeless_returnCue]
      exact returnedToDue_returnCue
        (s := (s.setLine (missedLine s.line (lineWithFault s.line n) n id)).setNode
          (nodeAfterReports [.zoneFault n (s.line.zone n).addr] s.node))
        (orderly_of_cues (s := s) rfl (orderly_of_cuesOk hcues)) id _

end Sys2Proof.Laws
end

section
/-! SUPPORT. The rows and their composition (R58 to R78, R148). -/

namespace Sys2Proof.Laws

open Sys2Proof Sys2Proof.Machine

/-! ### What a row shows (R58, R73, R74) -/

section

variable {s : State} {n : Nat}

theorem composeRow_unused (h : (s.bank.row n).inUse = false) : composeRow s n = .blank := by
  simp [composeRow, showsPage, normalContent, h]

theorem composeRow_clock (huse : (s.bank.row n).inUse = true) (hclock : (s.bank.row n).role = .clock) :
    composeRow s n = clockRow s := by
  simp [composeRow, showsPage, normalContent, normalRow, huse, hclock]

theorem composeRow_page (huse : (s.bank.row n).inUse = true) (hclock : (s.bank.row n).role ≠ .clock)
    (hunder : underOverride s (s.bank.row n).board = true) : composeRow s n = pageRow s n (s.bank.row n) := by
  simp [composeRow, showsPage, huse, hclock, hunder]

theorem composeRow_normal (hunder : underOverride s (s.bank.row n).board = false) : composeRow s n = normalContent s n := by
  simp [composeRow, showsPage, hunder]

theorem composeRow_normalRow (huse : (s.bank.row n).inUse = true)
    (hunder : underOverride s (s.bank.row n).board = false) : composeRow s n = normalRow s (s.bank.row n) := by
  rw [composeRow_normal hunder, normalContent, if_pos huse]

/-- R73: the normal content of a row is what it shows without an override. -/
theorem composeRow_noOverride (s : State) (n : Nat) : composeRow (s.setOvr noOverride) n = normalContent s n :=
  composeRow_normal rfl

end

/-! ### The clock (R72) -/

section

variable {s : State}

theorem clockDigits_dashes (h : s.time.synchronised = false) : clockDigits s = [10, 10, 10, 10, 10, 10] := by
  simp [clockDigits, h]

theorem clockDigits_minutes (hsync : s.time.synchronised = true)
    (hstate : s.node.state = .isolated ∨ s.node.state = .positionFault) :
    clockDigits s =
      [s.time.clock.hourTens, s.time.clock.hourUnits, s.time.clock.minTens, s.time.clock.minUnits, 11, 11] := by
  simp [clockDigits, hsync, hstate]

theorem clockDigits_seconds (hsync : s.time.synchronised = true) (hiso : s.node.state ≠ .isolated)
    (hfault : s.node.state ≠ .positionFault) :
    clockDigits s =
      [s.time.clock.hourTens, s.time.clock.hourUnits, s.time.clock.minTens, s.time.clock.minUnits, s.time.clock.secTens,
        s.time.clock.secUnits] := by
  simp [clockDigits, hsync, hiso, hfault]

end

/-! ### A page row (R145, R148) -/

section

variable {s : State} {n : Nat} {e : RowEntry}

theorem pageRow_past (h : (s.bank.page s.ovr.page e.board).rowCount ≤ pairIndex s.bank e.board n) :
    pageRow s n e = .blank := by
  have hnone : (s.bank.page s.ovr.page e.board).row (pairIndex s.bank e.board n) = none := if_neg (Nat.not_lt.mpr h)
  simp only [pageRow, hnone]

theorem pageRow_text {r : PageRow} (hlt : pairIndex s.bank e.board n < (s.bank.page s.ovr.page e.board).rowCount)
    (hrow : (s.bank.page s.ovr.page e.board).rows[pairIndex s.bank e.board n]? = some r) :
    pageRow s n e = .text (phraseCodes (languagePhase s e.board) (r.phrases.take r.count)) := by
  have hsome : (s.bank.page s.ovr.page e.board).row (pairIndex s.bank e.board n) = some (r.phrases.take r.count) := by
    rw [PageEntry.row, if_pos hlt, hrow]
    rfl
  simp only [pageRow, hsome]

end

/-! ### A rank row (R59, R65 to R68) -/

section

variable {s : State} {e : RowEntry} {k : Nat}

theorem normalRow_rank_none (hrole : e.role = .rank k) (h : rankRecord s.table e.board k = none) :
    normalRow s e = .blank := by
  simp only [normalRow, hrole, h]

theorem normalRow_rank_some {r : ServiceRecord} (hrole : e.role = .rank k) (h : rankRecord s.table e.board k = some r) :
    normalRow s e = rankRow s e.board r := by
  simp only [normalRow, hrole, h]

theorem normalRow_notice (hrole : e.role = .notice) :
    normalRow s e = .text (phraseCodes (languagePhase s e.board) (noticePhrases s e.board)) := by
  simp only [normalRow, hrole]

theorem normalRow_fixed {p : Nat} (hrole : e.role = .fixed p) :
    normalRow s e = .text [phraseCode (languagePhase s e.board) (some p)] := by
  simp only [normalRow, hrole]

theorem normalRow_blank (hrole : e.role = .blank) : normalRow s e = .blank := by
  simp only [normalRow, hrole]

end

/-- R65: the destination and up to three via phrases. -/
theorem destField_eq (phase : Nat) (r : ServiceRecord) :
    destField phase r =
      [phraseCode phase (some r.destination), phraseCode phase r.vias[0]?, phraseCode phase r.vias[1]?,
        phraseCode phase r.vias[2]?] := rfl

theorem platField_eq (blink : Bool) (cycle : Nat) (r : ServiceRecord) :
    platField blink (blinkLit cycle) r =
      if 0 < r.attention ∧ blink = true ∧ cycle / 16 % 2 = 1 then 255 else r.platform.getD 0 := by
  have hdark : blinkLit cycle = false ↔ cycle / 16 % 2 = 1 := by
    rw [blinkLit, decide_eq_false_iff_not]
    omega
  simp only [platField, hdark]

/-- R66: the EXPECT field follows the choice of R33. -/
theorem expectField_eq (p : BoardParams) (ds phase sec : Nat) (r : ServiceRecord) :
    expectField p ds phase sec r =
      if r.cancelled then .phrase (phraseCode phase p.cancelledPhrase)
      else match r.delay with
        | none => .phrase (phraseCode phase p.delayedPhrase)
        | some d =>
          if countdown r sec ≤ p.window then .phrase (phraseCode phase p.duePhrase)
          else if countdown r sec ≤ p.limit then .number (countdown r sec).toNat
          else if (p.threshold : Int) ≤ d then .time (((ds : Int) + (r.sm + d)) % 1440).toNat
          else .phrase (phraseCode phase p.onTimePhrase) := by
  by_cases hcancel : r.cancelled = true
  · simp only [expectField, expectChoice, hcancel, if_true]
  · cases hdelay : r.delay with
    | none => simp only [expectField, expectChoice, hcancel, Bool.false_eq_true, if_false, hdelay]
    | some d =>
      have hminute : expectedMinute r = r.sm + d := by simp [expectedMinute, hcancel, hdelay]
      simp only [expectField, expectChoice, hcancel, Bool.false_eq_true, if_false, hdelay, hminute, civilMinute]
      split_ifs <;> rfl

/-- R65 to R68: a rank row, field by field. -/
theorem rankRow_eq (s : State) (board : Nat) (r : ServiceRecord) :
    rankRow s board r =
      .rank (civilMinute s.bank.params.dayStart r.sm)
        [phraseCode (languagePhase s board) (some r.destination), phraseCode (languagePhase s board) r.vias[0]?,
          phraseCode (languagePhase s board) r.vias[1]?, phraseCode (languagePhase s board) r.vias[2]?]
        (if 0 < r.attention ∧ (s.bank.board board).blink = true ∧ s.time.cycle / 16 % 2 = 1 then 255
         else r.platform.getD 0)
        (expectField (s.bank.board board) s.bank.params.dayStart (languagePhase s board) s.time.second r)
        (phraseCode (languagePhase s board) r.notice) (s.node.state == .holdover) r.cancelled := by
  rw [rankRow, destField_eq, platField_eq]

/-- Settles O46: the row's use, its role, and whether its board is under override. -/
theorem rowsFollowClockAndOverride : Obligations.RowsFollowClockAndOverride := by
  intro s n hn1 hn24 e b hold k under i page phase code
  have hcode (p : Option Nat) : phraseCode phase p = code p := by cases p <;> rfl
  have hlevel : (s.ovr.level != 0) = decide (s.ovr.level ≠ 0) := Bool.eq_iff_iff.mpr (by simp)
  have hover : underOverride s (s.bank.row n).board = under := congrArg (· && _) hlevel
  refine ⟨fun hunused => composeRow_unused hunused, fun huse hclock => ⟨fun hsync => ?_, fun hsync hstate => ?_,
    fun hsync hiso hfault => ?_⟩, fun huse hclock hunder => ⟨fun hpast => ?_, fun r hlt hrow => ?_⟩, fun hunder => ?_,
    fun huse hunder => ⟨fun m hrole hm => ⟨fun hshort => ?_, fun r hr => ?_⟩, fun hrole => ⟨fun hstate => ?_,
      fun hiso hfault => ?_⟩, fun p hrole => ?_, fun hrole => ?_⟩⟩
  · rw [composeRow_clock huse hclock, clockRow, clockDigits_dashes hsync]
    rfl
  · rw [composeRow_clock huse hclock, clockRow, clockDigits_minutes hsync hstate]
    rfl
  · rw [composeRow_clock huse hclock, clockRow, clockDigits_seconds hsync hiso hfault]
    rfl
  · rw [composeRow_page huse hclock (hover.trans hunder)]
    exact pageRow_past hpast
  · rw [composeRow_page huse hclock (hover.trans hunder)]
    exact pageRow_text hlt hrow
  · rw [composeRow_noOverride, composeRow_normal (hover.trans hunder)]
  · rw [composeRow_normalRow huse (hover.trans hunder)]
    exact normalRow_rank_none hrole (List.getElem?_eq_none (Nat.le_sub_one_of_lt hshort))
  · have hphase : phraseCode phase = code := funext hcode
    rw [composeRow_normalRow huse (hover.trans hunder), show normalRow s (s.bank.row n) = _ from normalRow_rank_some hrole hr,
      rankRow_eq, expectField_eq, ← hphase]
    rfl
  · rw [composeRow_normalRow huse (hover.trans hunder), show normalRow s (s.bank.row n) = _ from normalRow_notice hrole,
      noticePhrases, if_pos hstate]
    rfl
  · rw [composeRow_normalRow huse (hover.trans hunder), show normalRow s (s.bank.row n) = _ from normalRow_notice hrole,
      noticePhrases, if_neg (not_or.mpr ⟨hiso, hfault⟩)]
    rfl
  · rw [composeRow_normalRow huse (hover.trans hunder), show normalRow s (s.bank.row n) = _ from normalRow_fixed hrole]
    rfl
  · rw [composeRow_normalRow huse (hover.trans hunder)]
    exact normalRow_blank hrole

/-! ### Composition (R61, R74 to R77) -/

theorem compose_eq {s : State} (h : s.node.state ≠ .powerUp) :
    compose s =
      (s.setPorts { s.ports with tile := (sentRows s).map fun row => row.2.bytes row.1 }).setRows
        { s.rows with
          lastSent := (composedRows s).map fun row => some row.2
          normal := (List.range 24).map fun i => normalContent s (i + 1)
          phases := (List.range 4).map (languagePhase s)
          blinkLit := blinkLit s.time.cycle
          fullDue := false } := if_neg h

/-- R76, R77: the rows sent, by their numbers. -/
theorem sentRows_eq (s : State) :
    sentRows s =
      ((List.range 24).filter fun i =>
          s.time.cycle == 32 || s.rows.fullDue || s.rows.lastSent.getD i none != some (composeRow s (i + 1))).map
        fun i => (i + 1, composeRow s (i + 1)) := by
  unfold sentRows fullSend
  cases hfull : (s.time.cycle == 32 || s.rows.fullDue)
  · rw [if_neg (by decide), composedRows, List.filter_map]
    rfl
  · rw [if_pos rfl, composedRows]
    simp only [Bool.true_or, List.filter_true]

theorem sentTile_eq (s : State) :
    (sentRows s).map (fun row => row.2.bytes row.1) =
      ((List.range 24).filter fun i =>
          s.time.cycle == 32 || s.rows.fullDue || s.rows.lastSent.getD i none != some (composeRow s (i + 1))).map
        fun i => (composeRow s (i + 1)).bytes (i + 1) := by
  rw [sentRows_eq, List.map_map]
  rfl

theorem lastSent_eq (s : State) :
    ((composedRows s).map fun row => some row.2) = (List.range 24).map fun i => some (composeRow s (i + 1)) := by
  rw [composedRows, List.map_map]
  rfl

/-- No row reads what a composition writes. -/
theorem composeRow_compose {s : State} (h : s.node.state ≠ .powerUp) (n : Nat) : composeRow (compose s) n = composeRow s n := by
  rw [compose_eq h]
  rfl

/-- Settles O45: what is sent, what is kept, and that a second composition finds every row sent. -/
theorem compositionSendsWhatDiffers : Obligations.CompositionSendsWhatDiffers := by
  intro s hstate
  have hagain : (compose s).node.state ≠ .powerUp := by
    rw [compose_eq hstate]
    exact hstate
  refine ⟨?_, ?_, ?_, ?_, ?_, ?_, ?_, fun hcycle => ?_⟩
  · rw [compose_eq hstate]
    exact sentTile_eq s
  · rw [compose_eq hstate]
    exact lastSent_eq s
  · rw [compose_eq hstate]
    exact List.map_congr_left fun i _ => (composeRow_noOverride s (i + 1)).symm
  · rw [compose_eq hstate]
    rfl
  · rw [compose_eq hstate]
    rfl
  · rw [compose_eq hstate]
    rfl
  · rw [compose_eq hstate]
    rfl
  · rw [compose_eq hagain]
    refine (sentTile_eq (compose s)).trans ?_
    have hnone : ((List.range 24).filter fun i =>
        (compose s).time.cycle == 32 || (compose s).rows.fullDue ||
          (compose s).rows.lastSent.getD i none != some (composeRow (compose s) (i + 1))) = [] := by
      refine List.filter_eq_nil_iff.mpr fun i hi => ?_
      have hlt : i < 24 := List.mem_range.mp hi
      have hlast : (compose s).rows.lastSent.getD i none = some (composeRow s (i + 1)) := by
        rw [compose_eq hstate]
        change ((composedRows s).map fun row => some row.2).getD i none = _
        rw [lastSent_eq]
        simp [List.getD_eq_getElem?_getD, hlt]
      have htime : (compose s).time.cycle = s.time.cycle := by rw [compose_eq hstate]; rfl
      have hfull : (compose s).rows.fullDue = false := by rw [compose_eq hstate]; rfl
      rw [hlast, composeRow_compose hstate, htime, hfull]
      simp [hcycle]
    rw [hnone, List.map_nil]

end Sys2Proof.Laws
end

section
/-! SUPPORT. The commit, the bank switch and the zones' new addresses (R142, R168, R169). -/

namespace Sys2Proof.Laws

open Sys2Proof Sys2Proof.Machine

/-! ### One zone compared with its new address (R142) -/

/-- R142: what the comparison makes of a zone, a PLAYING one that holds no cue among them. -/
def comparedZone (a : Nat) (z : Zone) : Zone :=
  if a = z.addr then { z with pendingAddr := none }
  else
    match z.state with
    | .free => { z with addr := a, pendingAddr := none }
    | .fault => if a = 0 then resetZone 0 else { z with addr := a, pendingAddr := none }
    | .playing => if a = 0 then stoppedZone { z with pendingAddr := some a } else { z with pendingAddr := some a }
    | _ => { z with pendingAddr := some a }

theorem comparedZone_eq {a : Nat} {z : Zone} (h : z.ok) : comparedZone a z = zoneCompared a z := by
  by_cases haddr : a = z.addr
  · rw [comparedZone, zoneCompared, if_pos haddr, if_pos haddr]
  · cases hstate : z.state
    case playing =>
      have hholds : z.holding.isSome = true := by
        cases hheld : z.holding with
        | some i => rfl
        | none => simpa [hstate] using h.holding.mp hheld
      by_cases ha : a = 0 <;>
        simp [comparedZone, zoneCompared, haddr, hstate, ha, stoppedZone, hholds, Zone.halted]
    all_goals simp [comparedZone, zoneCompared, haddr, hstate, resetZone]

/-- R142: the STOP of a PLAYING zone whose address becomes 0. -/
def comparedJobs (n a : Nat) (z : Zone) : List LineJob :=
  if a ≠ z.addr ∧ z.state = .playing ∧ a = 0 then (z.holding.map fun i => LineJob.stop n i).toList else []

theorem haltZone_putZone_line {n : Nat} {s : State} (hn : n < s.line.zones.length) (z : Zone) :
    (haltZone n (putZone n z s)).line =
      { s.line.setZone n (stoppedZone z) with
        jobs := s.line.jobs ++ (z.holding.map fun i => LineJob.stop n i).toList } := by
  have hzone : (putZone n z s).line.zone n = z := zone_setZone_same hn z
  rw [haltZone_line, hzone]
  exact lineCtl_eq (List.set_set ..) rfl rfl rfl rfl rfl

theorem compareZone_line {n : Nat} {s : State} (hn : n < s.line.zones.length) :
    (compareZone n s).line =
      { s.line.setZone n (comparedZone (s.bank.zoneTable.getD n 0) (s.line.zone n)) with
        jobs := s.line.jobs ++ comparedJobs n (s.bank.zoneTable.getD n 0) (s.line.zone n) } := by
  unfold compareZone comparedZone comparedJobs
  generalize s.bank.zoneTable.getD n 0 = a
  dsimp only
  by_cases haddr : a = (s.line.zone n).addr
  · rw [if_pos haddr, if_pos haddr, if_neg (fun h => h.1 haddr), List.append_nil]
    rfl
  · rw [if_neg haddr, if_neg haddr]
    cases hstate : (s.line.zone n).state
    case playing =>
      by_cases ha : a = 0
      · simp only [if_pos ha, haltZone_putZone_line hn]
        rw [if_pos ⟨haddr, trivial, ha⟩]
      · simp only [if_neg ha, if_neg (fun h : a ≠ (s.line.zone n).addr ∧ True ∧ a = 0 => ha h.2.2), List.append_nil]
        rfl
    case fault =>
      by_cases ha : a = 0 <;> simp [ha, putZone] <;> rfl
    all_goals
      simp [putZone]
      rfl

/-- R142: what the comparison of every zone makes of the line. -/
def compareAll (s : State) : State := (List.range 8).foldl (fun st n => compareZone n st) s

theorem touches_compareAll (s : State) : Touches [.line] s (compareAll s) :=
  touches_foldl (fun u n => touches_compareZone u n) _ s

theorem compareZone_length (n : Nat) (s : State) : (compareZone n s).line.zones.length = s.line.zones.length := by
  unfold compareZone
  dsimp only
  have hput (z : Zone) : (putZone n z s).line.zones.length = s.line.zones.length := setZone_length _ _ _
  split
  · exact hput _
  · split
    · exact hput _
    · split <;> exact hput _
    · split
      · exact (haltZone_length _ _).trans (hput _)
      · exact hput _
    · exact hput _

theorem compareZone_zone {n m : Nat} {s : State} (hn : n < s.line.zones.length) :
    (compareZone n s).line.zone m =
      if m = n then comparedZone (s.bank.zoneTable.getD n 0) (s.line.zone n) else s.line.zone m := by
  rw [compareZone_line hn]
  exact setZone_zone s.line n m _ hn

section

variable {s : State} (h8 : s.line.zones.length = 8)

include h8

/-- The comparison of some zones reaches each of them as it stood. -/
theorem foldl_compareZone_zone (m : Nat) {l : List Nat} (hnodup : l.Nodup) (hl : ∀ n ∈ l, n < 8) :
    (l.foldl (fun st n => compareZone n st) s).line.zone m =
      if m ∈ l then comparedZone (s.bank.zoneTable.getD m 0) (s.line.zone m) else s.line.zone m :=
  foldl_zone (I := fun u => u.bank = s.bank) (g := fun n z => comparedZone (s.bank.zoneTable.getD n 0) z)
    (fun u n hu => (bank_of_touches (touches_compareZone u n) rfl).trans hu) (fun u n => compareZone_length n u)
    (fun u n m hu hn => by rw [compareZone_zone hn, hu]) m l s rfl hnodup fun n hn => h8 ▸ hl n hn

theorem foldl_compareZone_length (l : List Nat) : (l.foldl (fun st n => compareZone n st) s).line.zones.length = 8 :=
  (foldl_zones_length (fun u n => compareZone_length n u) l s).trans h8

/-- The comparisons keep the line's jobs, its transaction and its sequence. -/
theorem foldl_compareZone_line {l : List Nat} (hl : ∀ n ∈ l, n < 8) :
    let t := l.foldl (fun st n => compareZone n st) s
    s.line.jobs <+: t.line.jobs ∧ t.line.status = s.line.status ∧ t.line.seq = s.line.seq := by
  induction l generalizing s with
  | nil => exact ⟨List.prefix_rfl, rfl, rfl⟩
  | cons n l ih =>
    have hn : n < s.line.zones.length := h8 ▸ hl n (by simp)
    obtain ⟨hjobs, hstatus, hseq⟩ :=
      ih (s := compareZone n s) ((compareZone_length n s).trans h8) fun m hm => hl m (by simp [hm])
    rw [compareZone_line hn] at hjobs hstatus hseq
    exact ⟨(List.prefix_append _ _).trans hjobs, hstatus, hseq⟩

theorem compareAll_line :
    s.line.jobs <+: (compareAll s).line.jobs ∧ (compareAll s).line.status = s.line.status ∧
      (compareAll s).line.seq = s.line.seq := by
  have h := foldl_compareZone_line h8 (l := List.range 8) fun _ hn => List.mem_range.mp hn
  rw [← compareAll] at h
  exact h

theorem compareAll_zone {n : Nat} (hn : n < 8) :
    (compareAll s).line.zone n = comparedZone (s.bank.zoneTable.getD n 0) (s.line.zone n) := by
  rw [compareAll, foldl_compareZone_zone h8 n List.nodup_range fun m hm => List.mem_range.mp hm,
    if_pos (List.mem_range.mpr hn)]

/-- R142: a PLAYING zone that loses its address has its STOP pending. -/
theorem mem_compareAll_jobs {n i : Nat} (hn : n < 8) (hstate : (s.line.zone n).state = .playing)
    (ha : s.bank.zoneTable.getD n 0 = 0) (haddr : (s.line.zone n).addr ≠ 0) (hheld : (s.line.zone n).holding = some i) :
    LineJob.stop n i ∈ (compareAll s).line.jobs := by
  obtain ⟨p, q, hpq⟩ := List.append_of_mem (List.mem_range.mpr hn)
  have hnodup : (p ++ n :: q).Nodup := hpq ▸ List.nodup_range
  have hlt (m : Nat) (hm : m ∈ p ++ n :: q) : m < 8 := List.mem_range.mp (hpq ▸ hm)
  obtain ⟨hp, -, hdisjoint⟩ := List.nodup_append.mp hnodup
  have hnp : n ∉ p := fun h => hdisjoint n h n (by simp) rfl
  obtain ⟨u, hu⟩ : ∃ u, u = p.foldl (fun st n => compareZone n st) s := ⟨_, rfl⟩
  have hzone : u.line.zone n = s.line.zone n := by
    rw [hu, foldl_compareZone_zone h8 n hp fun m hm => hlt m (by simp [hm]), if_neg hnp]
  have hu8 : u.line.zones.length = 8 := hu ▸ foldl_compareZone_length h8 p
  have hbank : u.bank = s.bank :=
    hu ▸ bank_of_touches (touches_foldl (fun u n => touches_compareZone u n) p s) rfl
  have hstopped : LineJob.stop n i ∈ (compareZone n u).line.jobs := by
    rw [compareZone_line (hu8 ▸ hn), hzone, hbank, ha]
    refine List.mem_append_right _ ?_
    rw [comparedJobs, if_pos ⟨haddr.symm, hstate, rfl⟩, hheld]
    simp
  have hall : compareAll s = q.foldl (fun st n => compareZone n st) (compareZone n u) := by
    rw [compareAll, hpq, List.foldl_append, List.foldl_cons, hu]
  rw [hall]
  have hline := foldl_compareZone_line (s := compareZone n u) (l := q) ((compareZone_length n u).trans hu8)
    fun m hm => hlt m (by simp [hm])
  exact hline.1.subset hstopped

end

theorem compareZones_eq (s : State) : compareZones s = withoutHomeless (compareAll s) := noZoneCheck_eq _

/-! ### The switch (R169) -/

/-- R23, R56, R169: the state in which the records stand under the new bank, before the zones are compared. -/
def recordsSwitched (gen : Nat) (s : State) : State := rebaseline (reselectAll (exchangeBanks gen s))

section

variable (gen : Nat) (s : State)

theorem touches_recordsSwitched : Touches [.table, .node] (exchangeBanks gen s) (recordsSwitched gen s) :=
  ((touches_reselectAll _).mono (by decide)).trans ((touches_rebaseline _).mono (by decide))

theorem recordsSwitched_table (hkeys : s.table.Pairwise fun a b => a.key ≠ b.key) :
    (recordsSwitched gen s).table =
      (s.table.filter fun r => (selectRecord s.store.shadow.selection r.platform r.opClass).1 != 0#4).map fun r =>
        decideRules s.store.shadow s.time.second
          { r with
            boards := (selectRecord s.store.shadow.selection r.platform r.opClass).1
            cueEnabled := (selectRecord s.store.shadow.selection r.platform r.opClass).2 } := by
  have hbank : (reselectAll (exchangeBanks gen s)).bank = s.store.shadow :=
    bank_of_touches (touches_reselectAll (exchangeBanks gen s)) rfl
  have htime : (reselectAll (exchangeBanks gen s)).time = s.time := touches_reselectAll (exchangeBanks gen s) .time (by decide)
  have htable : (recordsSwitched gen s).table =
      (s.table.filterMap (reselected s.store.shadow)).map (decideRules s.store.shadow s.time.second) := by
    change (reselectAll (exchangeBanks gen s)).table.map _ = _
    rw [hbank, htime, table_reselectAll (exchangeBanks gen s) hkeys]
    rfl
  rw [htable, ← List.filterMap_eq_map, List.filterMap_filterMap, ← List.filterMap_eq_map, List.filterMap_filter]
  refine List.filterMap_congr fun r _ => ?_
  by_cases hsel : (selectRecord s.store.shadow.selection r.platform r.opClass).1 = 0#4 <;> simp [reselected, hsel]

theorem switchWorks_eq :
    switchWorks gen s =
      queueReport (.commitDone gen (s.table.length - (reselectAll (exchangeBanks gen s)).table.length))
        (setDayStart s.bank.params.dayStart (withoutHomeless (compareAll (recordsSwitched gen s)))) := by
  rw [← compareZones_eq]
  rfl

theorem switchWorks_line : (switchWorks gen s).line = (compareAll (recordsSwitched gen s)).line := by
  rw [switchWorks_eq, queueReport_eq, State.setNode_line]
  generalize compareAll (recordsSwitched gen s) = u
  exact touches_setDayStart (withoutHomeless u) _ .line (by decide)

theorem switchWorks_cues :
    (switchWorks gen s).cues =
      { s.cues with
        queue := s.cues.queue.filter fun c =>
          !(c.state == .due && (usableZones (switchWorks gen s).line c.zones).isEmpty) } := by
  have hcues : (compareAll (recordsSwitched gen s)).cues = s.cues :=
    (touches_compareAll (recordsSwitched gen s) .cues (by decide)).trans (touches_recordsSwitched gen s .cues (by decide))
  rw [switchWorks_line, switchWorks_eq, queueReport_eq, State.setNode_cues]
  generalize compareAll (recordsSwitched gen s) = u at hcues
  have hkept : (setDayStart s.bank.params.dayStart (withoutHomeless u)).cues = (withoutHomeless u).cues :=
    touches_setDayStart (withoutHomeless u) _ .cues (by decide)
  rw [hkept, ← hcues]
  rfl

theorem touches_withoutHomeless (u : State) : Touches [.cues, .node] u (withoutHomeless u) := by
  rw [← noZoneCheck_eq]
  exact touches_noZoneCheck u

theorem switchWorks_time :
    (switchWorks gen s).time =
      if s.store.shadow.params.dayStart = s.store.active.params.dayStart then s.time
      else { s.time with clock := civilClock s.store.shadow.params.dayStart s.time.second } := by
  have hbefore : Touches [.line, .cues, .node, .table] (exchangeBanks gen s)
      (withoutHomeless (compareAll (recordsSwitched gen s))) :=
    ((touches_recordsSwitched gen s).mono (by decide)).trans
      (((touches_compareAll _).mono (by decide)).trans ((touches_withoutHomeless _).mono (by decide)))
  rw [switchWorks_eq, queueReport_eq, State.setNode_time]
  generalize withoutHomeless (compareAll (recordsSwitched gen s)) = u at hbefore
  have hbank : u.bank = s.store.shadow := bank_of_touches hbefore rfl
  have htime : u.time = s.time := hbefore .time (by decide)
  unfold setDayStart
  rw [hbank, htime]
  change State.time (if s.store.shadow.params.dayStart = s.store.active.params.dayStart then _ else _) = _
  split
  · exact htime
  · rfl

end

/-- R174: the entry to RUNNING changes the node alone. -/
theorem completeJoining_eq (held : Option Nat) (s : State) :
    completeJoining held s =
      if s.node.state = .joining ∧ s.time.setPending = false ∧ s.store.generation ≠ 0 then
        s.setNode
          (nodeAfterReports [.stateChanged .joining .running held s.chain.position none]
            { s.node with state := .running, holdover := 0 })
      else s := by
  unfold completeJoining
  split
  next h =>
    rw [changeState_eq, if_pos rfl, if_neg (by decide), State.setNode_node, State.setNode_time, h.1]
    rfl
  next => rfl

theorem bankSwitch_eq {s : State} {c : PendingCommit} (hcommit : s.store.commit = some c) (hup : s.node.state ≠ .powerUp) :
    bankSwitch s = switchBank s.chain.position c.generation s := by
  simp only [bankSwitch, hcommit, ne_eq, hup, not_false_eq_true, if_true]

theorem switchBank_refused {s : State} {held : Option Nat} {gen table index : Nat}
    (h : s.store.shadow.firstInvalid = some (table, index)) : switchBank held gen s = refuseSwitch gen table index s := by
  simp only [switchBank, h]

theorem switchBank_accepted {s : State} {held : Option Nat} {gen : Nat} (h : s.store.shadow.firstInvalid = none) :
    switchBank held gen s = completeJoining held (switchWorks gen s) := by
  simp only [switchBank, h, acceptSwitch_eq]

/-- R168: the switch does not read the commit that pends. -/
theorem switchBank_setCommit (held : Option Nat) (gen : Nat) (s : State) (c : Option PendingCommit) :
    switchBank held gen (s.setStore { s.store with commit := c }) = switchBank held gen s := by
  cases h : s.store.shadow.firstInvalid with
  | none =>
    have h' : (s.setStore { s.store with commit := c }).store.shadow.firstInvalid = none := h
    rw [switchBank_accepted h, switchBank_accepted h']
    rfl
  | some p =>
    have h' : (s.setStore { s.store with commit := c }).store.shadow.firstInvalid = some p := h
    obtain ⟨table, index⟩ := p
    rw [switchBank_refused h, switchBank_refused h']
    rfl

/-- R168: COMMIT SUPERSEDED for a commit that was held. -/
def supersededReports : Option PendingCommit → List Report
  | none => []
  | some c => [.commitSuperseded c.generation]

theorem supersede_eq (s : State) :
    supersede s =
      (s.setStore { s.store with commit := none }).setNode (nodeAfterReports (supersededReports s.store.commit) s.node) := by
  unfold supersede
  cases h : s.store.commit with
  | none =>
    have hstore : ({ s.store with commit := none } : Store) = s.store := by rw [← h]
    rw [hstore]
    rfl
  | some c => exact queueReport_eq _ _

theorem superseding_commit {s : State} {mode : AddrMode} {held : Option Nat} {gen cycle : Nat}
    (hstate : s.node.state = .joining ∨ s.node.state = .running) (hlow : 1 ≤ gen) (hhigh : gen ≤ 255) (hcycle : cycle ≤ 63) :
    tableCommit held mode gen cycle s =
      (s.setStore { s.store with commit := some { generation := gen, cycle := cycle } }).setNode
        (nodeAfterReports (supersededReports s.store.commit) s.node) := by
  rw [tableCommit, if_pos (takesMessages_iff.mpr hstate), if_neg (by omega), if_neg (by omega), supersede_eq]
  rfl

theorem now_commit {s : State} {mode : AddrMode} {held : Option Nat} {gen : Nat}
    (hstate : s.node.state = .joining ∨ s.node.state = .running) (hlow : 1 ≤ gen) (hhigh : gen ≤ 255) :
    tableCommit held mode gen 255 s = switchBank held gen (supersede s) := by
  rw [tableCommit, if_pos (takesMessages_iff.mpr hstate), if_neg (by omega), if_pos rfl]

/-- With nothing in table and queue the switch reports COMMIT DONE alone. -/
theorem switchWorks_node_empty {s : State} (gen : Nat) (htable : s.table = []) (hcues : s.cues.queue = []) :
    (switchWorks gen s).node = nodeAfterReports [.commitDone gen 0] s.node := by
  have hnone : (exchangeBanks gen s).table = [] := htable
  have hselected : reselectAll (exchangeBanks gen s) = exchangeBanks gen s := by rw [reselectAll, hnone, List.foldl_nil]
  have hempty : (compareAll (recordsSwitched gen s)).cues.queue = [] :=
    (congrArg Scheduler.queue ((touches_compareAll (recordsSwitched gen s) .cues (by decide)).trans
      (touches_recordsSwitched gen s .cues (by decide)))).trans hcues
  have hnode : (compareAll (recordsSwitched gen s)).node = s.node := by
    refine (touches_compareAll (recordsSwitched gen s) .node (by decide)).trans ?_
    rw [recordsSwitched, hselected]
    rfl
  rw [switchWorks_eq, hselected, htable, queueReport_eq, State.setNode_node, ← noZoneCheck_eq, noZoneCheck_of_no_cues hempty]
  generalize compareAll (recordsSwitched gen s) = u at hnode
  rw [touches_setDayStart u _ .node (by decide), hnode, hnone]
  rfl

theorem switchWorks_table (gen : Nat) (s : State) : (switchWorks gen s).table = (recordsSwitched gen s).table := by
  have hkept : (compareAll (recordsSwitched gen s)).table = (recordsSwitched gen s).table :=
    touches_compareAll (recordsSwitched gen s) .table (by decide)
  rw [switchWorks_eq, queueReport_eq, State.setNode_table]
  generalize compareAll (recordsSwitched gen s) = u at hkept
  exact (touches_setDayStart (withoutHomeless u) _ .table (by decide)).trans hkept

/-- R174: whatever the node's own change, an entry to RUNNING leaves every other block. -/
theorem completeJoining_setNode (held : Option Nat) (s : State) : ∃ n, completeJoining held s = s.setNode n := by
  rw [completeJoining_eq]
  split
  · exact ⟨_, rfl⟩
  · exact ⟨s.node, rfl⟩

theorem switchWorks_node (gen : Nat) (s : State) : ∃ rs, (switchWorks gen s).node = nodeAfterReports rs s.node :=
  (calm_switchWorks s gen).told

theorem zone_ok {l : LineCtl} (h : l.ok) {n : Nat} (hn : n < 8) : (l.zone n).ok := by
  have hlen : n < l.zones.length := h.eight ▸ hn
  have hmem : l.zone n ∈ l.zones := by
    rw [LineCtl.zone, List.getD_eq_getElem _ _ hlen]
    exact List.getElem_mem hlen
  exact h.zones _ hmem

/-- R142: the line of a switch: every zone compared, the STOPs that makes pending, and the rest as it was. -/
theorem switched_line {s : State} (hok : s.line.ok) (gen : Nat) :
    (∀ n, n < 8 →
      (compareAll (recordsSwitched gen s)).line.zone n =
          zoneCompared (s.store.shadow.zoneTable.getD n 0) (s.line.zone n) ∧
        ((s.line.zone n).state = .playing → s.store.shadow.zoneTable.getD n 0 = 0 → (s.line.zone n).addr ≠ 0 →
          ∀ i, (s.line.zone n).holding = some i →
            LineJob.stop n i ∈ (compareAll (recordsSwitched gen s)).line.jobs)) ∧
      (∀ j ∈ s.line.jobs, j ∈ (compareAll (recordsSwitched gen s)).line.jobs) ∧
      (compareAll (recordsSwitched gen s)).line.status = s.line.status ∧
      (compareAll (recordsSwitched gen s)).line.seq = s.line.seq := by
  have hline : (recordsSwitched gen s).line = s.line := touches_recordsSwitched gen s .line (by decide)
  have hbank : (recordsSwitched gen s).bank = s.store.shadow := bank_of_touches (touches_recordsSwitched gen s) rfl
  generalize recordsSwitched gen s = u at hline hbank
  rw [← hline] at hok ⊢
  rw [← hbank]
  obtain ⟨hjobs, hstatus, hseq⟩ := compareAll_line hok.eight
  refine ⟨fun n hn => ⟨?_, fun hplaying ha haddr i hheld => ?_⟩, fun j hj => hjobs.subset hj, hstatus, hseq⟩
  · rw [compareAll_zone hok.eight hn]
    exact comparedZone_eq (zone_ok hok hn)
  · exact mem_compareAll_jobs hok.eight hn hplaying ha haddr hheld

/-- R168: a TABLE COMMIT is refused, held, or switched at once. -/
theorem tableCommit_cases (s : State) (mode : AddrMode) (gen cycle : Nat)
    (hstate : s.node.state = .joining ∨ s.node.state = .running) :
    (gen < 1 ∨ 255 < gen ∨ (63 < cycle ∧ cycle ≠ 255) →
      tableCommit s.chain.position mode gen cycle s =
        s.setNode (if mode = .position then nodeAfterReports [.badField 0x22 none] s.node else s.node)) ∧
    (1 ≤ gen → gen ≤ 255 →
      tableCommit s.chain.position mode gen 255 s =
        bankSwitch ((s.setStore { s.store with commit := some { generation := gen, cycle := 0 } }).setNode
          (nodeAfterReports (supersededReports s.store.commit) s.node))) := by
  refine ⟨fun hbad => ?_, fun hlow hhigh => ?_⟩
  · rw [tableCommit, if_pos (takesMessages_iff.mpr hstate), if_pos hbad, reportIfPosition_eq]
  · have hup : (nodeAfterReports (supersededReports s.store.commit) s.node).state ≠ .powerUp := by
      rw [nodeAfterReports_state]
      rcases hstate with h | h <;> rw [h] <;> decide
    rw [now_commit hstate hlow hhigh, bankSwitch_eq (c := { generation := gen, cycle := 0 }) rfl hup, supersede_eq]
    exact switchBank_setCommit s.chain.position gen
      ((s.setStore { s.store with commit := some { generation := gen, cycle := 0 } }).setNode
        (nodeAfterReports (supersededReports s.store.commit) s.node)) none

/-- Settles O53: the commit's refusals and its hold, and the switch's works block by block. -/
theorem commitPendsAndSwitches : Obligations.CommitPendsAndSwitches := by
  constructor
  · intro s mode gen cycle hstate superseding
    obtain ⟨hrefused, hnow⟩ := tableCommit_cases s mode gen cycle hstate
    have hsup (c : Option PendingCommit) : superseding c =
        (s.setStore { s.store with commit := c }).setNode (nodeAfterReports (supersededReports s.store.commit) s.node) := by
      simp only [superseding]
      cases s.store.commit <;> rfl
    refine ⟨fun hbad => congrArg Host.Outcome.next (hrefused hbad), fun hlow hhigh hcycle => ?_, fun hlow hhigh => ?_⟩
    · rw [hsup]
      exact congrArg Host.Outcome.next (superseding_commit hstate hlow hhigh hcycle)
    · rw [hsup]
      exact congrArg Host.Outcome.next (hnow hlow hhigh)
  · intro s c hcommit hup
    refine ⟨fun table index hinvalid => ?_, fun hvalid hkeys => ?_⟩
    · refine congrArg Host.Outcome.next ((bankSwitch_eq hcommit hup).trans ((switchBank_refused hinvalid).trans ?_))
      exact queueReport_eq _ _
    · have hexec : bankSwitch s = completeJoining s.chain.position (switchWorks c.generation s) :=
        (bankSwitch_eq hcommit hup).trans (switchBank_accepted hvalid)
      have hjoin := completeJoining_eq s.chain.position (switchWorks c.generation s)
      have htouches := touches_switchWorks c.generation s
      have htable := (switchWorks_table c.generation s).trans (recordsSwitched_table c.generation s hkeys)
      have htime := switchWorks_time c.generation s
      have hline := switchWorks_line c.generation s
      have hcues := switchWorks_cues c.generation s
      have hempty := switchWorks_node_empty (s := s) c.generation
      obtain ⟨rs, hnode⟩ := switchWorks_node c.generation s
      obtain ⟨n, hn⟩ := completeJoining_setNode s.chain.position (switchWorks c.generation s)
      refine ⟨_, congrArg Host.Outcome.next hexec, ?_⟩
      generalize switchWorks c.generation s = u at *
      have hstore : u.store = { active := s.store.shadow, shadow := s.store.active, generation := c.generation, commit := none } :=
        htouches .store (by decide)
      have hpending : u.time.setPending = s.time.setPending := by
        rw [htime]
        split <;> rfl
      have hstate : u.node.state = s.node.state := by rw [hnode, nodeAfterReports_state]
      have hsecond : u.time.second = s.time.second ∧ u.time.day = s.time.day := by
        rw [htime]
        split <;> exact ⟨rfl, rfl⟩
      have hclock : u.time.clock =
          if s.store.shadow.params.dayStart = s.store.active.params.dayStart then s.time.clock
          else civilClock s.store.shadow.params.dayStart s.time.second := by
        rw [htime]
        split <;> rfl
      rw [hstate, hpending, hstore] at hjoin
      refine ⟨?_, ?_, ?_, ?_, ?_, ?_, ?_, ?_, ?_, fun hok => ?_, fun hjoining hset hgen => ?_, fun hnot => ?_,
        fun hrun htableEmpty hcuesEmpty => ?_⟩
      · rw [hn]; exact hstore
      · rw [hn]; exact htable
      · rw [hn]; exact hsecond.1
      · rw [hn]; exact hsecond.2
      · rw [hn]; exact hclock
      · rw [hn]; exact htouches .rows (by decide)
      · rw [hn]; exact htouches .ovr (by decide)
      · rw [hn]; exact htouches .chain (by decide)
      · rw [hn]; exact htouches .ports (by decide)
      · rw [hn]
        obtain ⟨hzones, hjobs, hstatus, hseq⟩ := switched_line hok c.generation
        rw [← hline] at hzones hjobs hstatus hseq
        exact ⟨hzones, hjobs, hstatus, hseq, hcues⟩
      · rw [hjoin, if_pos ⟨hjoining, hset, hgen⟩]
        exact ⟨nodeAfterReports_state _ _, by rw [State.setNode_node, nodeAfterReports_rest]⟩
      · have hout : ¬(s.node.state = .joining ∧ s.time.setPending = false ∧ c.generation ≠ 0) := fun h =>
          hnot.elim (fun h' => h' h.1) fun h' => by simp [h.2.1] at h'
        rw [hjoin, if_neg hout]
        exact hstate
      · have hout : ¬(s.node.state = .joining ∧ s.time.setPending = false ∧ c.generation ≠ 0) := fun h => by
          rw [hrun] at h
          exact absurd h.1 (by decide)
        rw [hjoin, if_neg hout]
        exact hempty htableEmpty hcuesEmpty

end Sys2Proof.Laws
end

section
/-! SUPPORT. The works of an own cycle start in their free order (R61, R80 to R83): which there are, what each leaves of the
time base, the chain interface and the node state, and what a work that is taken once does whatever its place. -/

namespace Sys2Proof.Laws

open Sys2Proof Sys2Proof.Machine

/-! ### The works and their order (assumption 3) -/

theorem tickOrder_perm (n : Nat) (turn : Bool) :
    (tickOrder n turn).Perm [.scheduler, .age turn, .retire, .rules, .hold] :=
  ((weave_perm (Config.freeOrder n 0) [CycleWork.scheduler] [[.age turn, .retire], [.rules]]).flatten).append_right _

theorem weaveAll_perm (n : Nat) : ∀ (i : Nat) (ws l : List CycleWork), (weaveAll n i ws l).Perm (ws ++ l)
  | _, [], _ => .refl _
  | i, w :: ws, l =>
    (weaveAll_perm n (i + 1) ws _).trans (((weave_perm (Config.freeOrder n i) w l).append_left ws).trans List.perm_middle)

/-- The works of an own cycle start in one order. -/
def listedWorks (tick turn boundary chainEnd : Bool) : List CycleWork :=
  .compose :: (looseWorks boundary chainEnd ++
    ((if tick then [.scheduler, .age turn, .retire, .rules, .hold] else []) ++ [.switch]))

theorem cycleWorks_perm (n : Nat) (tick turn boundary chainEnd : Bool) :
    (cycleWorks n tick turn boundary chainEnd).Perm (listedWorks tick turn boundary chainEnd) := by
  have hordered : (orderedWorks n tick turn).Perm
      ((if tick then [.scheduler, .age turn, .retire, .rules, .hold] else []) ++ [.switch]) := by
    cases tick
    · exact .refl _
    · exact (tickOrder_perm n turn).append_right _
  exact (weaveComposition_perm _ _).trans (((weaveAll_perm n 1 _ _).trans (hordered.append_left _)).cons _)

/-- No work is taken twice. -/
theorem cycleWorks_nodup (n : Nat) (tick turn boundary chainEnd : Bool) :
    (cycleWorks n tick turn boundary chainEnd).Nodup := by
  rw [(cycleWorks_perm n tick turn boundary chainEnd).nodup_iff]
  revert tick turn boundary chainEnd
  decide

/-! ### A work that is taken once -/

section

variable {α β : Type} {f : β → State → State} {P : List β → State → Prop}

/-- What holds before each item of a fold, of the items left and the state, holds at its end. -/
theorem foldl_keeps (hP : ∀ x rest u, P (x :: rest) u → P rest (f x u)) :
    ∀ (l : List β) (s : State), P l s → P [] (l.foldl (fun st x => f x st) s)
  | [], _, hs => hs
  | x :: l, s, hs => foldl_keeps hP l (f x s) (hP x l s hs)

/-- What no other item changes is, at the end, what the one item makes of it. -/
theorem foldl_once {g : State → α} {w : β} (hP : ∀ x rest u, P (x :: rest) u → P rest (f x u))
    (hg : ∀ x rest u, x ≠ w → P (x :: rest) u → g (f x u) = g u) :
    ∀ (l : List β) (s : State), l.Nodup → w ∈ l → P l s →
      ∃ rest u, P (w :: rest) u ∧ g u = g s ∧ g (l.foldl (fun st x => f x st) s) = g (f w u) := by
  have hafter : ∀ (l : List β) (s : State), w ∉ l → P l s → g (l.foldl (fun st x => f x st) s) = g s := by
    intro l
    induction l with
    | nil => exact fun _ _ _ => rfl
    | cons x l ih =>
      intro s hw hs
      obtain ⟨hx, hw⟩ := not_or.mp (List.mem_cons.not.mp hw)
      exact (ih (f x s) hw (hP x l s hs)).trans (hg x l s (Ne.symm hx) hs)
  intro l
  induction l with
  | nil => exact fun _ _ hw => absurd hw List.not_mem_nil
  | cons x l ih =>
    intro s hnodup hw hs
    obtain ⟨hx, hnodup⟩ := List.nodup_cons.mp hnodup
    by_cases heq : x = w
    · subst heq
      exact ⟨l, s, hs, rfl, hafter l (f x s) hx (hP x l s hs)⟩
    · obtain ⟨rest, u, hu, hsame, hlast⟩ := ih (f x s) hnodup ((List.mem_cons.mp hw).resolve_left (Ne.symm heq)) (hP x l s hs)
      exact ⟨rest, u, hu, hsame.trans (hg x l s heq hs), hlast⟩

end

/-! ### The count of the cycle, which no work changes (R80) -/

/-- Of two time bases the second differs from the first in its clock, its trim and its trim window at most. -/
def SameCount (t u : TimeBase) : Prop :=
  ∃ k w i f e, u = { t with clock := k, window := w, trimInt := i, trimFrac := f, excursion := e }

theorem SameCount.of_eq {t u : TimeBase} (h : u = t) : SameCount t u := ⟨_, _, _, _, _, h⟩

theorem SameCount.of_window {t u : TimeBase} (h : SameButWindow t u) : SameCount t u := by
  obtain ⟨w, h⟩ := h
  exact ⟨_, w, _, _, _, h⟩

theorem SameCount.trans {t u v : TimeBase} (h : SameCount t u) (k : SameCount u v) : SameCount t v := by
  obtain ⟨_, _, _, _, _, rfl⟩ := h
  obtain ⟨_, _, _, _, _, rfl⟩ := k
  exact ⟨_, _, _, _, _, rfl⟩

/-- Of two time bases the second differs from the first in its clock and its trim window at most. -/
def SameTrim (t u : TimeBase) : Prop := ∃ k w, u = { t with clock := k, window := w }

theorem SameTrim.of_eq {t u : TimeBase} (h : u = t) : SameTrim t u := ⟨_, _, h⟩

theorem SameTrim.of_window {t u : TimeBase} (h : SameButWindow t u) : SameTrim t u := by
  obtain ⟨w, h⟩ := h
  exact ⟨_, w, h⟩

theorem SameTrim.trans {t u v : TimeBase} (h : SameTrim t u) (k : SameTrim u v) : SameTrim t v := by
  obtain ⟨_, _, rfl⟩ := h
  obtain ⟨_, _, rfl⟩ := k
  exact ⟨_, _, rfl⟩

theorem SameTrim.count {t u : TimeBase} (h : SameTrim t u) : SameCount t u := by
  obtain ⟨k, w, h⟩ := h
  exact ⟨k, w, _, _, _, h⟩

theorem switchBank_time (held : Option Nat) (gen : Nat) (s : State) : SameTrim s.time (switchBank held gen s).time := by
  cases h : s.store.shadow.firstInvalid with
  | some p =>
    obtain ⟨table, index⟩ := p
    rw [switchBank_refused h]
    exact .of_eq (touches_refuseSwitch s gen table index .time (by decide))
  | none =>
    obtain ⟨n, hn⟩ := completeJoining_setNode held (switchWorks gen s)
    rw [switchBank_accepted h, hn, State.setNode_time, switchWorks_time]
    split
    · exact .of_eq rfl
    · exact ⟨_, _, rfl⟩

theorem switchAtCycle_time (s : State) : SameTrim s.time (switchAtCycle s).time := by
  unfold switchAtCycle
  split
  · exact .of_eq rfl
  · split
    · exact switchBank_time _ _ s
    · exact .of_eq rfl

theorem tellLinkLoss_time (s : State) : SameButWindow s.time (tellLinkLoss s).time := by
  unfold tellLinkLoss nodeLinkLoss
  split
  · exact changeState_time _ _ (State.setNode (s.setChain { s.chain with grant := none, upSilence := 3 }) _)
  · exact changeState_time _ _ (s.setChain { s.chain with grant := none, upSilence := 3 })
  · exact .of_eq rfl

theorem raiseUpSilence_time (s : State) : SameButWindow s.time (raiseUpSilence s).time := by
  unfold raiseUpSilence
  split_ifs
  · exact .of_eq rfl
  · exact tellLinkLoss_time s
  · exact .of_eq rfl

/-- R90: a window that closes reaches no more of the time base than the trim. -/
theorem closeTrim_time (t16 : Nat) (s : State) : SameCount s.time (closeTrim t16 s).time := by
  unfold closeTrim
  split_ifs
  · exact ⟨_, _, _, _, _, rfl⟩
  · exact .of_eq rfl
  · rw [queueReport_eq, State.setNode_time]
    exact ⟨_, _, _, _, _, rfl⟩

theorem trimAtFrameStart_time (s : State) :
    SameCount s.time (trimAtFrameStart s).time ∧ (trimAtFrameStart s).time.clock = s.time.clock := by
  unfold trimAtFrameStart
  split
  · unfold openTrim
    split
    · exact ⟨⟨_, _, _, _, _, rfl⟩, rfl⟩
    · exact ⟨.of_eq rfl, rfl⟩
  · split
    next w _ _ =>
      refine ⟨(closeTrim_time w.ticks s).trans ⟨_, _, _, _, _, rfl⟩, ?_⟩
      change (closeTrim w.ticks s).time.clock = _
      unfold closeTrim
      split_ifs
      · rfl
      · rfl
      · rw [queueReport_eq, State.setNode_time]
        rfl
    · exact ⟨.of_eq rfl, rfl⟩

theorem doWork_trim (w : CycleWork) (s : State) (hw : w ≠ .trim) : SameTrim s.time (doWork w s).time := by
  cases w
  case trim => exact absurd rfl hw
  case switch => exact switchAtCycle_time s
  case upSilence => exact .of_window (raiseUpSilence_time s)
  case downSilence => exact .of_eq (touches_raiseDownSilence s .time (by decide))
  case line =>
    exact .of_eq (touches_ite (touches_refl [.cues, .line] s) (touches_lineCycle s) .time (by decide))
  case originate chainEnd =>
    exact .of_eq (touches_ite (touches_originateFrame s) (touches_refl [.node, .ports] s) .time (by decide))
  case compose => exact .of_eq (touches_compose s .time (by decide))
  case age turn => exact .of_window (tickWork_time (.age turn) s)
  case retire => exact .of_window (tickWork_time .retire s)
  case rules => exact .of_window (tickWork_time .rules s)
  case scheduler => exact .of_window (tickWork_time .scheduler s)
  case hold => exact .of_window (tickWork_time .hold s)

theorem doWork_count (w : CycleWork) (s : State) : SameCount s.time (doWork w s).time := by
  by_cases hw : w = .trim
  · subst hw
    exact (trimAtFrameStart_time s).1
  · exact (doWork_trim w s hw).count

/-! ### What the works leave of the chain interface and the node state -/

/-- The works that no boundary brings leave the chain interface. -/
theorem doWork_chain {w : CycleWork} (hup : w ≠ .upSilence) (hdown : w ≠ .downSilence) (s : State) :
    (doWork w s).chain = s.chain := by
  cases w
  case upSilence => exact absurd rfl hup
  case downSilence => exact absurd rfl hdown
  case age turn => exact touches_ageTable s turn .chain (by decide)
  case retire => exact touches_retireRecords s .chain (by decide)
  case rules => exact touches_evaluateAll s .chain (by decide)
  case scheduler => exact touches_schedulerTests s .chain (by decide)
  case hold => exact touches_holdTick s .chain (by decide)
  case switch => exact touches_switchAtCycle s .chain (by decide)
  case line => exact touches_ite (touches_refl [.cues, .line] s) (touches_lineCycle s) .chain (by decide)
  case trim => exact touches_trimAtFrameStart s .chain (by decide)
  case originate chainEnd =>
    exact touches_ite (touches_originateFrame s) (touches_refl [.node, .ports] s) .chain (by decide)
  case compose => exact touches_compose s .chain (by decide)

/-- R75: only NOTICE SET and POWER_ON reach the standing notices. -/
theorem doWork_standing (w : CycleWork) (s : State) : (doWork w s).rows.standing = s.rows.standing := by
  have elsewhere {t : State} (h : Touches [.chain, .store, .table, .cues, .line, .time, .node, .ports] s t) :
      t.rows.standing = s.rows.standing := congrArg Composer.standing (h .rows (by decide))
  cases w
  case compose =>
    change (compose s).rows.standing = _
    unfold compose
    split <;> rfl
  case age turn => exact elsewhere ((touches_ageTable s turn).mono (by decide))
  case retire => exact elsewhere ((touches_retireRecords s).mono (by decide))
  case rules => exact elsewhere ((touches_evaluateAll s).mono (by decide))
  case scheduler => exact elsewhere ((touches_schedulerTests s).mono (by decide))
  case hold => exact elsewhere ((touches_holdTick s).mono (by decide))
  case switch => exact elsewhere ((touches_switchAtCycle s).mono (by decide))
  case upSilence => exact elsewhere ((touches_raiseUpSilence s).mono (by decide))
  case downSilence => exact elsewhere ((touches_raiseDownSilence s).mono (by decide))
  case line => exact elsewhere (touches_ite (touches_refl _ s) ((touches_lineCycle s).mono (by decide)))
  case trim => exact elsewhere ((touches_trimAtFrameStart s).mono (by decide))
  case originate chainEnd => exact elsewhere (touches_ite ((touches_originateFrame s).mono (by decide)) (touches_refl _ s))

theorem changeState_state (new : NodeState) (old : Option Nat) (s : State) : (changeState new old s).node.state = new := by
  rw [changeState, queueReport_eq, State.setNode_node, nodeAfterReports_state]
  split <;> rfl

theorem enterIsolated_state (s : State) : (enterIsolated s).node.state = .isolated := by
  have hflush : Told (changeState .isolated s.chain.position s) (enterIsolated s) := by
    rw [enterIsolated, flushNode]
    exact ((calm_setTable (v := []) fun _ => rfl).trans ((calm_flushCues _).trans (calm_lineBreak _))).told
  rw [hflush.state, changeState_state]

theorem holdTick_awake {s : State} (h : s.node.state ≠ .powerUp) : (holdTick s).node.state ≠ .powerUp := by
  unfold holdTick
  split
  · dsimp only
    split
    · rw [enterIsolated_state]
      decide
    · exact h
  · exact h

theorem switchBank_awake (held : Option Nat) (gen : Nat) {s : State} (h : s.node.state ≠ .powerUp) :
    (switchBank held gen s).node.state ≠ .powerUp := by
  cases hvalid : s.store.shadow.firstInvalid with
  | some p =>
    obtain ⟨table, index⟩ := p
    rw [switchBank_refused hvalid, (calm_refuseSwitch s gen table index).told.state]
    exact h
  | none =>
    rw [switchBank_accepted hvalid, completeJoining_eq]
    split
    · rw [State.setNode_node, nodeAfterReports_state]
      exact nofun
    · rw [(calm_switchWorks s gen).told.state]
      exact h

theorem switchAtCycle_awake {s : State} (h : s.node.state ≠ .powerUp) : (switchAtCycle s).node.state ≠ .powerUp := by
  unfold switchAtCycle
  split
  · exact h
  · split
    · exact switchBank_awake _ _ h
    · exact h

theorem raiseUpSilence_awake {s : State} (h : s.node.state ≠ .powerUp) : (raiseUpSilence s).node.state ≠ .powerUp := by
  unfold raiseUpSilence tellLinkLoss nodeLinkLoss
  split_ifs
  · exact h
  · split
    · rw [changeState_state]
      decide
    · rw [changeState_state]
      decide
    · exact h
  · exact h

theorem originateFrame_state (s : State) : (originateFrame s).node.state = s.node.state := by
  unfold originateFrame sendUpstream dequeuePlaced
  split
  · rfl
  · split <;> rfl

/-- No work of a cycle start takes a node back to POWER-UP. -/
theorem doWork_awake (w : CycleWork) {s : State} (h : s.node.state ≠ .powerUp) : (doWork w s).node.state ≠ .powerUp := by
  have calm {t : State} (hcalm : Calm s t) : t.node.state ≠ .powerUp := by rwa [hcalm.told.state]
  cases w
  case age turn => exact calm (calm_ageTable s turn)
  case retire => exact calm (calm_retireWhere s _)
  case rules => exact calm (calm_evaluateAll s)
  case scheduler => exact calm (calm_schedulerTests s)
  case hold => exact holdTick_awake h
  case switch => exact switchAtCycle_awake h
  case upSilence => exact raiseUpSilence_awake h
  case downSilence => exact calm (calm_raiseDownSilence s)
  case line => exact calm (.ite (.refl s) (calm_lineCycle s))
  case trim => exact calm (calm_trimAtFrameStart s)
  case originate chainEnd =>
    cases chainEnd
    · exact h
    · exact (originateFrame_state s).trans_ne h
  case compose =>
    change (compose s).node.state ≠ _
    rw [touches_compose s .node (by decide)]
    exact h

end Sys2Proof.Laws
end

section
/-! SUPPORT. The own cycle start: where the generator and the clock stand, and what a frame start makes of it (R80, R81,
R83, R161). -/

namespace Sys2Proof.Laws

open Sys2Proof Sys2Proof.Machine

/-! ### The time base of a start (R80, R83, R85) -/

/-- R80, R85: the time base of an own cycle start, before its works. -/
def startTime (boundary : Bool) (s : State) : TimeBase :=
  if s.time.cycle = 63 then (generatorStart boundary s).time.tickSecond else (generatorStart boundary s).time

theorem cycle_falls {s : State} (hcycle : s.time.cycle < 64) (boundary : Bool) :
    (generatorStart boundary s).time.cycle < s.time.cycle ↔ s.time.cycle = 63 := by
  change (s.time.cycle + 1) % 64 < s.time.cycle ↔ _
  omega

theorem clockStart_time {s : State} (hcycle : s.time.cycle < 64) (boundary : Bool) :
    (clockStart boundary s).time = startTime boundary s := by
  unfold clockStart startTime
  by_cases h : s.time.cycle = 63
  · rw [if_pos h, if_pos ((cycle_falls hcycle boundary).mpr h), advanceSecond_time]
  · rw [if_neg h, if_neg (mt (cycle_falls hcycle boundary).mp h)]

/-- R83: away from the end of the second a start sets the time base alone. -/
theorem clockStart_of_no_tick {s : State} (hcycle : s.time.cycle < 64) (h : s.time.cycle ≠ 63) (boundary : Bool) :
    clockStart boundary s = generatorStart boundary s := if_neg (mt (cycle_falls hcycle boundary).mp h)

theorem startCycle_eq {s : State} (hcycle : s.time.cycle < 64) (boundary : Bool) :
    startCycle boundary s =
      (cycleWorks s.free (decide (s.time.cycle = 63)) s.time.turnsDay boundary s.chain.chainEnd).foldl
        (fun st w => doWork w st) (countFree (clockStart boundary s)) := by
  simp only [startCycle, clockStart, decide_eq_true_eq, cycle_falls hcycle]

section

variable (boundary : Bool) (s : State)

theorem startTime_generator :
    (startTime boundary s).tickCount = 0 ∧ (startTime boundary s).cycle = (s.time.cycle + 1) % 64 ∧
      (startTime boundary s).accumulator =
        (s.time.accumulator + s.time.trimFrac) - (if 16 ≤ s.time.accumulator + s.time.trimFrac then 16 else 0) ∧
      (startTime boundary s).cycleLength =
        (if 16 ≤ s.time.accumulator + s.time.trimFrac then s.time.trimInt + 1 else s.time.trimInt) ∧
      (startTime boundary s).frameStarts = (if boundary then 0 else 1) ∧
      (startTime boundary s).trimInt = s.time.trimInt ∧ (startTime boundary s).trimFrac = s.time.trimFrac := by
  have hgen : (startTime boundary s).accumulator =
      if 16 ≤ s.time.accumulator + s.time.trimFrac then s.time.accumulator + s.time.trimFrac - 16
      else s.time.accumulator + s.time.trimFrac := by
    unfold startTime
    split <;> rfl
  refine ⟨?_, ?_, ?_, ?_, ?_, ?_, ?_⟩
  case refine_3 =>
    rw [hgen]
    split <;> rfl
  all_goals
    unfold startTime
    split <;> rfl

theorem startTime_second :
    (startTime boundary s).second =
      if s.time.cycle = 63 then (if s.time.second = 86399 then 0 else s.time.second + 1) else s.time.second := by
  have hturn : (generatorStart boundary s).time.turnsDay = decide (s.time.second = 86399) := beq_eq_decide _ _
  unfold startTime
  split
  · change (if (generatorStart boundary s).time.turnsDay = true then 0 else s.time.second + 1) = _
    simp only [hturn, decide_eq_true_eq]
  · rfl

theorem startTime_day :
    (startTime boundary s).day =
      if s.time.cycle = 63 ∧ s.time.second = 86399 then (s.time.day + 1) % 65536 else s.time.day := by
  have hturn : (generatorStart boundary s).time.turnsDay = decide (s.time.second = 86399) := beq_eq_decide _ _
  unfold startTime
  by_cases h : s.time.cycle = 63
  · rw [if_pos h]
    change (if (generatorStart boundary s).time.turnsDay = true then (s.time.day + 1) % 65536 else s.time.day) = _
    simp only [hturn, decide_eq_true_eq, h, true_and]
  · rw [if_neg h, if_neg fun k => h k.1]
    rfl

end

/-! ### What the works of a start leave -/

theorem startCycle_count {s : State} (hcycle : s.time.cycle < 64) (boundary : Bool) :
    SameCount (startTime boundary s) (startCycle boundary s).time := by
  rw [startCycle_eq hcycle]
  exact List.foldlRecOn (motive := fun (u : State) => SameCount (startTime boundary s) u.time) _ _
    (.of_eq (clockStart_time hcycle boundary :)) fun u hu w _ => hu.trans (doWork_count w u)

/-- R161: a frame start leaves the chain interface. -/
theorem startCycle_chain {s : State} (hcycle : s.time.cycle < 64) : (startCycle false s).chain = s.chain := by
  rw [startCycle_eq hcycle]
  refine List.foldlRecOn (motive := fun (u : State) => u.chain = s.chain) _ _ ?_ fun u hu w hw => ?_
  · change (clockStart false s).chain = s.chain
    unfold clockStart
    split
    · exact touches_advanceSecond (generatorStart false s) .chain (by decide)
    · rfl
  · rw [(cycleWorks_perm _ _ _ _ _).mem_iff] at hw
    have hsilent : w ≠ .upSilence ∧ w ≠ .downSilence := by
      constructor
      all_goals
        rintro rfl
        simp [listedWorks, looseWorks] at hw
    exact (doWork_chain hsilent.1 hsilent.2 u).trans hu

/-! ### The frame start (R81) -/

/-- R81, R89: a frame start that merges restarts the tick count and reaches no more than that, the trim and its window. -/
theorem mergeFrameStart_time (s : State) :
    SameCount { s.time with tickCount := 0, frameStarts := s.time.frameStarts + 1 } (mergeFrameStart s).time ∧
      (mergeFrameStart s).time.clock = s.time.clock := by
  unfold mergeFrameStart
  split
  · exact ⟨⟨_, _, _, _, _, rfl⟩, rfl⟩
  · obtain ⟨hcount, hclock⟩ := trimAtFrameStart_time
      (s.setTime
        { s.time with
          tickCount := 0
          frameStarts := s.time.frameStarts + 1
          window := s.time.window.map fun w => { cycles := w.cycles, ticks := w.ticks + s.time.tickCount } })
    exact ⟨SameCount.trans ⟨_, _, _, _, _, rfl⟩ hcount, hclock⟩

/-- Settles O25: the merge reaches the time base and the reports alone; a later frame start starts the next cycle, whose
works leave its count and, there being no boundary, the chain interface. -/
theorem frameStartMergesOrStartsCycle : Obligations.FrameStartMergesOrStartsCycle := by
  intro s hbreak
  have heard : frameStart s =
      if s.time.tickCount < 187500 then mergeFrameStart (s.setChain { s.chain with upSilence := 0 })
      else startCycle false (s.setChain { s.chain with upSilence := 0 }) := by
    rw [frameStart, hbreak]
    rfl
  refine ⟨fun hearly => ?_, fun hlate hcycle => ?_⟩
  · refine ⟨_, congrArg Host.Outcome.next (heard.trans (if_pos hearly)), ?_⟩
    obtain ⟨⟨k, w, i, f, e, htime⟩, hclock⟩ := mergeFrameStart_time (s.setChain { s.chain with upSilence := 0 })
    have htouches := touches_mergeFrameStart (s.setChain { s.chain with upSilence := 0 })
    rw [htime] at hclock ⊢
    exact ⟨rfl, rfl, rfl, rfl, rfl, rfl, hclock, htouches .chain (by decide), htouches .table (by decide),
      htouches .cues (by decide), htouches .line (by decide), htouches .rows (by decide), htouches .store (by decide),
      htouches .ovr (by decide), htouches .ports (by decide)⟩
  · refine ⟨_, congrArg Host.Outcome.next (heard.trans (if_neg (Nat.not_lt.mpr hlate))), ?_⟩
    obtain ⟨k, w, i, f, e, htime⟩ := startCycle_count (s := s.setChain { s.chain with upSilence := 0 }) hcycle false
    obtain ⟨hticks, hnumber, hacc, hlength, hstarts, -, -⟩ :=
      startTime_generator false (s.setChain { s.chain with upSilence := 0 })
    have hchain := startCycle_chain (s := s.setChain { s.chain with upSilence := 0 }) hcycle
    have hovr := touches_startCycle (s.setChain { s.chain with upSilence := 0 }) false .ovr (by decide)
    rw [htime]
    exact ⟨hticks, hnumber, hlength, hacc, hstarts, hchain, startTime_second false _, hovr⟩

end Sys2Proof.Laws
end

section
/-! SUPPORT. The own cycle boundary (R61, R75 to R77, R129, R138, R161, R163): the silences, and the works of a start that
brings no second tick and finds no commit pending. -/

namespace Sys2Proof.Laws

open Sys2Proof Sys2Proof.Machine

theorem mem_boundaryWorks {n : Nat} {tick turn chainEnd : Bool} :
    CycleWork.upSilence ∈ cycleWorks n tick turn true chainEnd ∧ CycleWork.downSilence ∈ cycleWorks n tick turn true chainEnd ∧
      CycleWork.line ∈ cycleWorks n tick turn true chainEnd ∧ CycleWork.compose ∈ cycleWorks n tick turn true chainEnd ∧
      CycleWork.originate chainEnd ∈ cycleWorks n tick turn true chainEnd := by
  simp only [(cycleWorks_perm _ _ _ _ _).mem_iff]
  simp [listedWorks, looseWorks]

theorem trim_notMem_boundaryWorks {n : Nat} {tick turn chainEnd : Bool} :
    CycleWork.trim ∉ cycleWorks n tick turn true chainEnd := by
  rw [(cycleWorks_perm _ _ _ _ _).mem_iff]
  revert tick turn chainEnd
  decide

/-- R80, R88: a boundary counts no trim window to its end, so the trim stays. -/
theorem startCycle_trim {s : State} (hcycle : s.time.cycle < 64) :
    SameTrim (startTime true s) (startCycle true s).time := by
  rw [startCycle_eq hcycle]
  refine List.foldlRecOn (motive := fun (u : State) => SameTrim (startTime true s) u.time) _ _
    (.of_eq (clockStart_time hcycle true :)) fun u hu w hw => hu.trans (doWork_trim w u ?_)
  rintro rfl
  exact trim_notMem_boundaryWorks hw

theorem startCycle_standing (s : State) : (startCycle true s).rows.standing = s.rows.standing := by
  unfold startCycle
  refine List.foldlRecOn (motive := fun (u : State) => u.rows.standing = s.rows.standing) _ _ ?_
    fun u hu w _ => (doWork_standing w u).trans hu
  split
  · exact congrArg Composer.standing (touches_advanceSecond (generatorStart true s) .rows (by decide))
  · rfl

/-! ### The silences (R161, R163) -/

theorem tellLinkLoss_chain (s : State) : (tellLinkLoss s).chain = { s.chain with grant := none, upSilence := 3 } :=
  touches_nodeLinkLoss (s.setChain { s.chain with grant := none, upSilence := 3 }) .chain (by decide)

/-- R161: the silence count and the grant after a boundary. -/
theorem raiseUpSilence_chain {s : State} (h : s.node.state ≠ .powerUp) (hle : s.chain.upSilence ≤ 3) :
    (raiseUpSilence s).chain =
      { s.chain with
        upSilence := min 3 (s.chain.upSilence + 1), grant := if s.chain.upSilence = 2 then none else s.chain.grant } := by
  unfold raiseUpSilence
  simp only [h, false_or]
  by_cases h3 : 3 ≤ s.chain.upSilence
  · have hthree : s.chain.upSilence = 3 := by omega
    rw [if_pos h3, if_neg (by omega), hthree, show min 3 (3 + 1) = 3 from rfl, ← hthree]
  · by_cases h2 : s.chain.upSilence = 2
    · rw [if_neg h3, if_pos h2, if_pos h2, tellLinkLoss_chain, h2]
      rfl
    · rw [if_neg h3, if_neg h2, if_neg h2, State.setChain_chain, Nat.min_eq_right (by omega)]

theorem loseDownstream_chain (s : State) :
    (loseDownstream s).chain =
      if s.chain.partnerSeen then { s.chain with downSilence := 3, partnerSeen := false, chainEnd := true }
      else { s.chain with downSilence := 3 } := by
  unfold loseDownstream
  split
  · rw [queueReport_eq]
    rfl
  · rfl

/-- R163: the silence count, the chain end and the partner after a boundary. -/
theorem raiseDownSilence_chain {s : State} (h : s.node.state ≠ .powerUp) (hle : s.chain.downSilence ≤ 3) :
    (raiseDownSilence s).chain =
      if s.chain.downSilence = 2 ∧ s.chain.partnerSeen = true then
        { s.chain with downSilence := 3, partnerSeen := false, chainEnd := true }
      else { s.chain with downSilence := min 3 (s.chain.downSilence + 1) } := by
  unfold raiseDownSilence
  simp only [h, false_or]
  by_cases h3 : 3 ≤ s.chain.downSilence
  · have hthree : s.chain.downSilence = 3 := by omega
    rw [if_pos h3, if_neg (by omega), hthree, show min 3 (3 + 1) = 3 from rfl, ← hthree]
  · by_cases h2 : s.chain.downSilence = 2
    · rw [if_neg h3, if_pos h2, loseDownstream_chain, h2]
      simp
    · rw [if_neg h3, if_neg h2, if_neg (fun k => h2 k.1), State.setChain_chain, Nat.min_eq_right (by omega)]

theorem clockStart_node (boundary : Bool) (s : State) : (clockStart boundary s).node = s.node := by
  unfold clockStart
  split
  · exact touches_advanceSecond (generatorStart boundary s) .node (by decide)
  · rfl

theorem clockStart_chain (boundary : Bool) (s : State) : (clockStart boundary s).chain = s.chain := by
  unfold clockStart
  split
  · exact touches_advanceSecond (generatorStart boundary s) .chain (by decide)
  · rfl

/-- The downstream silence has nothing to do with the grant, nor the upstream silence with the chain end. -/
theorem raiseDownSilence_up (s : State) :
    (raiseDownSilence s).chain.upSilence = s.chain.upSilence ∧ (raiseDownSilence s).chain.grant = s.chain.grant := by
  unfold raiseDownSilence
  split_ifs
  · exact ⟨rfl, rfl⟩
  · rw [loseDownstream_chain]
    split <;> exact ⟨rfl, rfl⟩
  · exact ⟨rfl, rfl⟩

theorem raiseUpSilence_down (s : State) :
    (raiseUpSilence s).chain.downSilence = s.chain.downSilence ∧ (raiseUpSilence s).chain.chainEnd = s.chain.chainEnd ∧
      (raiseUpSilence s).chain.partnerSeen = s.chain.partnerSeen ∧ (raiseUpSilence s).chain.position = s.chain.position := by
  unfold raiseUpSilence
  split_ifs
  · exact ⟨rfl, rfl, rfl, rfl⟩
  · rw [tellLinkLoss_chain]
    exact ⟨rfl, rfl, rfl, rfl⟩
  · exact ⟨rfl, rfl, rfl, rfl⟩

section

variable {s : State} (hcycle : s.time.cycle < 64) (hup : s.node.state ≠ .powerUp)

include hcycle hup

theorem startCycle_upSilence (hle : s.chain.upSilence ≤ 3) :
    (startCycle true s).chain.upSilence = min 3 (s.chain.upSilence + 1) ∧
      (startCycle true s).chain.grant = (if s.chain.upSilence = 2 then none else s.chain.grant) := by
  have hother (w : CycleWork) (u : State) (hw : w ≠ .upSilence) :
      ((doWork w u).chain.upSilence, (doWork w u).chain.grant) = (u.chain.upSilence, u.chain.grant) := by
    by_cases hdown : w = .downSilence
    · subst hdown
      exact Prod.ext (raiseDownSilence_up u).1 (raiseDownSilence_up u).2
    · rw [doWork_chain hw hdown]
  obtain ⟨rest, u, hu, hsame, hlast⟩ := foldl_once (P := fun _ u => u.node.state ≠ .powerUp)
    (g := fun u : State => (u.chain.upSilence, u.chain.grant)) (w := CycleWork.upSilence)
    (fun w _ u hu => doWork_awake w hu) (fun w _ u hw _ => hother w u hw) _ (countFree (clockStart true s))
    (cycleWorks_nodup s.free (decide (s.time.cycle = 63)) s.time.turnsDay true s.chain.chainEnd) mem_boundaryWorks.1
    (by rw [countFree, State.setFree_node, clockStart_node]; exact hup)
  obtain ⟨hcount, hgrant⟩ := Prod.mk.inj hsame
  rw [countFree, State.setFree_chain, clockStart_chain] at hcount hgrant
  rw [← startCycle_eq hcycle, doWork, raiseUpSilence_chain hu (by omega), hcount, hgrant] at hlast
  exact Prod.mk.inj hlast

theorem startCycle_downSilence (hle : s.chain.downSilence ≤ 3) :
    ((startCycle true s).chain.downSilence, (startCycle true s).chain.chainEnd, (startCycle true s).chain.partnerSeen) =
      if s.chain.downSilence = 2 ∧ s.chain.partnerSeen = true then (3, true, false)
      else (min 3 (s.chain.downSilence + 1), s.chain.chainEnd, s.chain.partnerSeen) := by
  have hother (w : CycleWork) (u : State) (hw : w ≠ .downSilence) :
      ((doWork w u).chain.downSilence, (doWork w u).chain.chainEnd, (doWork w u).chain.partnerSeen) =
        (u.chain.downSilence, u.chain.chainEnd, u.chain.partnerSeen) := by
    by_cases hupw : w = .upSilence
    · subst hupw
      obtain ⟨hcount, hend, hseen, -⟩ := raiseUpSilence_down u
      rw [doWork, hcount, hend, hseen]
    · rw [doWork_chain hupw hw]
  obtain ⟨rest, u, hu, hsame, hlast⟩ := foldl_once (P := fun _ u => u.node.state ≠ .powerUp)
    (g := fun u : State => (u.chain.downSilence, u.chain.chainEnd, u.chain.partnerSeen)) (w := CycleWork.downSilence)
    (fun w _ u hu => doWork_awake w hu) (fun w _ u hw _ => hother w u hw) _ (countFree (clockStart true s))
    (cycleWorks_nodup s.free (decide (s.time.cycle = 63)) s.time.turnsDay true s.chain.chainEnd) mem_boundaryWorks.2.1
    (by rw [countFree, State.setFree_node, clockStart_node]; exact hup)
  obtain ⟨hcount, hrest⟩ := Prod.mk.inj hsame
  obtain ⟨hend, hseen⟩ := Prod.mk.inj hrest
  rw [countFree, State.setFree_chain, clockStart_chain] at hcount hend hseen
  rw [← startCycle_eq hcycle, doWork, raiseDownSilence_chain hu (by omega), hcount, hseen] at hlast
  refine hlast.trans ?_
  split
  · rfl
  · exact Prod.ext rfl (Prod.ext hend hseen)

end

/-! ### A start without a second tick and without a commit -/

/-- The works of a boundary that brings no second tick, with the node chain end or not. -/
def plainWork (chainEnd : Bool) : CycleWork → Bool
  | .compose | .line | .upSilence | .downSilence | .switch => true
  | .originate e => e == chainEnd
  | _ => false

/-- Before some works of such a start: what is left of them, and a node out of POWER-UP with no commit pending. -/
structure Plain (chainEnd : Bool) (l : List CycleWork) (u : State) : Prop where
  works : ∀ w ∈ l, plainWork chainEnd w = true
  awake : u.node.state ≠ .powerUp
  commit : u.store.commit = none

theorem switchAtCycle_none {s : State} (h : s.store.commit = none) : switchAtCycle s = s := by
  rw [switchAtCycle, h]

theorem Plain.store {chainEnd : Bool} {w : CycleWork} {l : List CycleWork} {u : State} (h : Plain chainEnd (w :: l) u) :
    (doWork w u).store = u.store := by
  have hw := h.works w (List.mem_cons_self ..)
  cases w
  case compose => exact touches_compose u .store (by decide)
  case line => exact touches_ite (touches_refl [.cues, .line] u) (touches_lineCycle u) .store (by decide)
  case originate e =>
    exact touches_ite (touches_originateFrame u) (touches_refl [.node, .ports] u) .store (by decide)
  case upSilence => exact touches_raiseUpSilence u .store (by decide)
  case downSilence => exact touches_raiseDownSilence u .store (by decide)
  case switch => exact congrArg State.store (switchAtCycle_none h.commit)
  all_goals exact absurd hw Bool.false_ne_true

theorem Plain.step {chainEnd : Bool} {w : CycleWork} {l : List CycleWork} {u : State} (h : Plain chainEnd (w :: l) u) :
    Plain chainEnd l (doWork w u) :=
  ⟨fun v hv => h.works v (List.mem_cons_of_mem _ hv), doWork_awake w h.awake, (congrArg Store.commit h.store).trans h.commit⟩

theorem plain_cycleWorks {s : State} (hup : s.node.state ≠ .powerUp) (hcommit : s.store.commit = none) (n : Nat)
    (turn chainEnd : Bool) :
    Plain chainEnd (cycleWorks n false turn true chainEnd) (countFree (generatorStart true s)) := by
  refine ⟨fun w hw => ?_, hup, hcommit⟩
  rw [(cycleWorks_perm _ _ _ _ _).mem_iff] at hw
  simp only [listedWorks, looseWorks, if_pos, List.mem_append, List.mem_cons, List.not_mem_nil, or_false] at hw
  rcases hw with rfl | ((rfl | rfl) | rfl | rfl) | hw
  case inr.inr => simp at hw; subst hw; rfl
  case inr.inl.inl.inr => exact beq_self_eq_true chainEnd
  all_goals rfl

theorem startCycle_plain {s : State} (hcycle : s.time.cycle < 64) (h63 : s.time.cycle ≠ 63) :
    startCycle true s =
      (cycleWorks s.free false s.time.turnsDay true s.chain.chainEnd).foldl (fun st w => doWork w st)
        (countFree (generatorStart true s)) := by
  rw [startCycle_eq hcycle, clockStart_of_no_tick hcycle h63, decide_eq_false h63]

/-! ### The line's part (R129, R138) -/

/-- R138: the cues whose play count has reached its limit. -/
def cuesAtLimit (s : State) : List Nat :=
  ((s.cues.queue.map Cue.countCycle).filter fun c => c.state == .playing && c.playCount == c.playLimit * 64).map fun c => c.id

theorem lineCycle_eq (s : State) :
    lineCycle s =
      haltCues (cuesAtLimit s)
        ((countTimers s).setCues { s.cues with queue := s.cues.queue.map Cue.countCycle }) := rfl

theorem lineCycle_cues (s : State) : (lineCycle s).cues = { s.cues with queue := s.cues.queue.map Cue.countCycle } := by
  rw [lineCycle_eq]
  exact touches_haltCues ((countTimers s).setCues { s.cues with queue := s.cues.queue.map Cue.countCycle }) _ .cues (by decide)

theorem countTimers_zone {n : Nat} (hn : n < 8) (s : State) :
    (countTimers s).line.zone n = (s.line.zone n).countCycle (s.line.pollInFlight n) := by
  simp [countTimers, LineCtl.zone, hn]

theorem countCycle_holds (b : Bool) (z : Zone) : (z.countCycle b).state = z.state ∧ (z.countCycle b).holding = z.holding := by
  unfold Zone.countCycle
  split
  · split <;> exact ⟨rfl, rfl⟩
  · exact ⟨rfl, rfl⟩

theorem halted_countCycle (b : Bool) (z : Zone) : (z.countCycle b).halted = z.halted := by
  unfold Zone.countCycle
  split
  · split <;> rfl
  · rfl

theorem mem_cuesAtLimit {s : State} {i : Nat} :
    i ∈ cuesAtLimit s ↔
      ∃ c ∈ s.cues.queue, c.id = i ∧ c.state = .playing ∧ c.playCount + 1 = c.playLimit * 64 := by
  have hcount (c : Cue) : c.countCycle.state = c.state ∧ c.countCycle.id = c.id ∧ c.countCycle.playLimit = c.playLimit := by
    unfold Cue.countCycle
    split <;> exact ⟨rfl, rfl, rfl⟩
  have hplays {c : Cue} (h : c.state = .playing) : c.countCycle.playCount = c.playCount + 1 := by
    rw [Cue.countCycle, if_pos h]
  unfold cuesAtLimit
  simp only [List.mem_map, List.mem_filter, Bool.and_eq_true, beq_iff_eq]
  constructor
  · rintro ⟨_, ⟨⟨c, hc, rfl⟩, hstate, hlimit⟩, rfl⟩
    obtain ⟨hst, hid, hlim⟩ := hcount c
    rw [hst] at hstate
    rw [hlim, hplays hstate] at hlimit
    exact ⟨c, hc, hid.symm, hstate, hlimit⟩
  · rintro ⟨c, hc, rfl, hstate, hlimit⟩
    obtain ⟨hst, hid, hlim⟩ := hcount c
    exact ⟨c.countCycle, ⟨⟨c, hc, rfl⟩, hst.trans hstate, by rw [hplays hstate, hlim, hlimit]⟩, hid⟩

/-- R138: a zone whose cue comes to its play limit. -/
def Stops (q : List Cue) (z : Zone) : Prop :=
  z.state = .playing ∧ ∃ c ∈ q, z.holding = some c.id ∧ c.state = .playing ∧ c.playCount + 1 = c.playLimit * 64

theorem playsFor_cuesAtLimit {s : State} {z : Zone} : playsFor (cuesAtLimit s) z = true ↔ Stops s.cues.queue z := by
  rw [playsFor_iff]
  refine and_congr_right fun _ => ⟨?_, ?_⟩
  · rintro ⟨i, hi, hheld⟩
    obtain ⟨c, hc, rfl, hstate, hlimit⟩ := mem_cuesAtLimit.mp hi
    exact ⟨c, hc, hheld, hstate, hlimit⟩
  · rintro ⟨c, hc, hheld, hstate, hlimit⟩
    exact ⟨c.id, mem_cuesAtLimit.mpr ⟨c, hc, rfl, hstate, hlimit⟩, hheld⟩

/-- R129, R138: the line's part of a cycle start, zone by zone. -/
theorem lineCycle_zone {n : Nat} (hn : n < 8) (s : State) :
    (Stops s.cues.queue (s.line.zone n) →
      (lineCycle s).line.zone n = (s.line.zone n).halted ∧
        ∀ i, (s.line.zone n).holding = some i → LineJob.stop n i ∈ (lineCycle s).line.jobs) ∧
    (¬Stops s.cues.queue (s.line.zone n) →
      (lineCycle s).line.zone n = (s.line.zone n).countCycle (s.line.pollInFlight n)) := by
  obtain ⟨u, hu⟩ : ∃ u, u = (countTimers s).setCues { s.cues with queue := s.cues.queue.map Cue.countCycle } := ⟨_, rfl⟩
  have hzone : u.line.zone n = (s.line.zone n).countCycle (s.line.pollInFlight n) := by
    rw [hu]
    exact countTimers_zone hn s
  have h8 : u.line.zones.length = 8 := by
    rw [hu]
    exact (List.length_map _).trans List.length_range
  have hplays : playsFor (cuesAtLimit s) (u.line.zone n) = true ↔ Stops s.cues.queue (s.line.zone n) := by
    rw [← playsFor_cuesAtLimit, hzone, playsFor, playsFor, (countCycle_holds _ _).1, (countCycle_holds _ _).2]
  rw [lineCycle_eq, ← hu]
  refine ⟨fun hstops => ⟨?_, fun i hi => ?_⟩, fun hnot => ?_⟩
  · rw [haltCues_zone h8 _ hn, if_pos (hplays.mpr hstops), hzone, halted_countCycle]
  · exact mem_haltCues_jobs hn (hplays.mpr hstops) (by rw [hzone, (countCycle_holds _ _).2, hi])
  · rw [haltCues_zone h8 _ hn, if_neg (mt hplays.mp hnot), hzone]

theorem countCycle_timer {z : Zone} (h : z.state = .playing ∨ z.state = .fault) (b : Bool) :
    (∀ k, z.timer = some (k + 1) → z.countCycle b = { z with timer := some k, pollDue := z.pollDue || decide (k = 0) }) ∧
      (z.timer = some 0 → z.countCycle b = { z with pollDue := z.pollDue || !b }) := by
  refine ⟨fun k hk => ?_, fun hz => ?_⟩
  · rw [Zone.countCycle, if_pos h, hk]
    rfl
  · rw [Zone.countCycle, if_pos h, hz]

section

variable {s : State} (hcycle : s.time.cycle < 64) (hup : s.node.state ≠ .powerUp) (h63 : s.time.cycle ≠ 63)
  (hcommit : s.store.commit = none)

include hcycle hup h63 hcommit

/-- Whatever its place among the works, the line's part finds the cues and the line as they stood before the start. -/
theorem startCycle_line :
    ∃ u : State, u.cues = s.cues ∧ u.line = s.line ∧ (startCycle true s).cues = (lineCycle u).cues ∧
      (startCycle true s).line = (lineCycle u).line := by
  have hother (w : CycleWork) (l : List CycleWork) (u : State) (hw : w ≠ .line)
      (h : Plain s.chain.chainEnd (w :: l) u) :
      ((doWork w u).cues, (doWork w u).line) = (u.cues, u.line) := by
    have elsewhere {bs : List Block} (ht : Touches bs u (doWork w u)) (hbs : bs.contains .cues = false ∧ bs.contains .line = false) :
        ((doWork w u).cues, (doWork w u).line) = (u.cues, u.line) :=
      Prod.ext (ht .cues (by simpa using hbs.1)) (ht .line (by simpa using hbs.2))
    have hplain := h.works w (List.mem_cons_self ..)
    cases w
    case line => exact absurd rfl hw
    case compose => exact elsewhere (touches_compose u) (by decide)
    case originate chainEnd =>
      exact elsewhere (touches_ite (touches_originateFrame u) (touches_refl [.node, .ports] u)) (by decide)
    case upSilence => exact elsewhere (touches_raiseUpSilence u) (by decide)
    case downSilence => exact elsewhere (touches_raiseDownSilence u) (by decide)
    case switch => rw [doWork, switchAtCycle_none h.commit]
    all_goals exact absurd hplain Bool.false_ne_true
  obtain ⟨rest, u, hu, hsame, hlast⟩ := foldl_once (P := Plain s.chain.chainEnd) (g := fun u : State => (u.cues, u.line))
    (w := CycleWork.line) (fun w _ u hu => hu.step) (fun w l u hw h => hother w l u hw h) _ (countFree (generatorStart true s))
    (cycleWorks_nodup s.free false s.time.turnsDay true s.chain.chainEnd) mem_boundaryWorks.2.2.1
    (plain_cycleWorks hup hcommit _ _ _)
  obtain ⟨hcues, hline⟩ := Prod.mk.inj hsame
  rw [← startCycle_plain hcycle h63, doWork, if_neg hu.awake] at hlast
  obtain ⟨hlastCues, hlastLine⟩ := Prod.mk.inj hlast
  exact ⟨u, hcues, hline, hlastCues, hlastLine⟩

end

end Sys2Proof.Laws
end

section
/-! SUPPORT. The composition and the originated frame of an own cycle boundary (R61, R75 to R77, R163, R164), and what the
boundary does to every block. -/

namespace Sys2Proof.Laws

open Sys2Proof Sys2Proof.Machine

/-! ### What a row reads (R58 to R74) -/

/-- A row is composed from the records, the tables, the clock, the override, the standing notices and the node state. -/
theorem composeRow_congr {s u : State} (htable : u.table = s.table) (hstore : u.store = s.store) (htime : u.time = s.time)
    (hovr : u.ovr = s.ovr) (hstanding : u.rows.standing = s.rows.standing) (hstate : u.node.state = s.node.state) (n : Nat) :
    composeRow u n = composeRow s n := by
  have hbank : u.bank = s.bank := congrArg Store.active hstore
  have hphase (board : Nat) : languagePhase u board = languagePhase s board := by
    unfold languagePhase
    rw [hbank, htime]
  have hclock : clockRow u = clockRow s := by
    unfold clockRow clockDigits
    rw [htime, hstate]
  have hrank (board : Nat) (r : ServiceRecord) : rankRow u board r = rankRow s board r := by
    unfold rankRow
    rw [hbank, htime, hstate, hphase]
  have hnormal (e : RowEntry) : normalRow u e = normalRow s e := by
    unfold normalRow noticePhrases
    simp only [htable, hbank, hstate, hstanding, hphase, hclock, hrank]
  have hshows : showsPage u n = showsPage s n := by
    unfold showsPage underOverride
    rw [hbank, hovr]
  unfold composeRow
  rw [hshows]
  split
  · unfold pageRow
    rw [hbank, hovr, hphase]
  · unfold normalContent
    rw [hbank, hnormal]

/-! ### The frame a chain end originates (R163, R164) -/

theorem emptyReportBody_length (c : Nat) : (emptyReportBody c).length = 129 := by
  rw [emptyReportBody, List.length_cons, List.length_replicate]

theorem chooseSlot_le {granted : Bool} {body : List Byte} {n : Nat} (h : chooseSlot granted body = some n) : n ≤ 3 := by
  unfold chooseSlot at h
  split at h
  · cases h
    omega
  · have hmem := List.mem_of_find?_eq_some h
    simp only [List.mem_cons, List.not_mem_nil, or_false] at hmem
    omega

theorem placement_le {body : List Byte} {s : State} {p n : Nat} {r : Report} (h : placement body s = some (p, r, n)) : n ≤ 3 := by
  unfold placement at h
  split at h
  · cases h
  · split at h
    · split at h
      · obtain ⟨m, hm, heq⟩ := Option.map_eq_some_iff.mp h
        cases heq
        exact chooseSlot_le hm
      · cases h
    · cases h

/-- R164: a report placed changes neither the length of a body nor the byte in front of the slots. -/
theorem placedBody_frame {body : List Byte} (s : State) (h : body.length = 129) :
    (placedBody body s).length = 129 ∧ byteAt (placedBody body s) 0 = byteAt body 0 := by
  cases hplace : placement body s with
  | none =>
    have hsame : placedBody body s = body := by simp only [placedBody, hplace]
    rw [hsame]
    exact ⟨h, rfl⟩
  | some placed =>
    obtain ⟨p, r, n⟩ := placed
    have hn := placement_le hplace
    have hfill : placedBody body s = fillSlot body n (slotBytes p s.node.loss r) := by simp only [placedBody, hplace]
    rw [hfill]
    refine ⟨fillSlot_length h (slotBytes_length _ _ _) hn, ?_⟩
    rw [byteAt, byteAt, List.getD_eq_getElem?_getD, List.getD_eq_getElem?_getD,
      fillSlot_getElem?_out h (slotBytes_length _ _ _) hn (.inl (by omega))]

/-- R163: the frame a chain end originates, whatever stands in its slots. -/
theorem originateFrame_ports {s : State} (hup : s.node.state ≠ .powerUp) (hcycle : s.time.cycle < 64) :
    (originateFrame s).ports.upLeft = 7980 ∧ (originateFrame s).ports.up.length = 133 ∧
      byteAt (originateFrame s).ports.up 0 = s.time.cycle ∧
      carriedCheck (originateFrame s).ports.up = crc32 ((originateFrame s).ports.up.take 129) := by
  obtain ⟨hlen, hzero⟩ := placedBody_frame s (emptyReportBody_length s.time.cycle)
  have hports : (originateFrame s).ports.up = sealed true (placedBody (emptyReportBody s.time.cycle) s) := by
    rw [originateFrame, if_neg hup]
    rfl
  refine ⟨?_, ?_, ?_, ?_⟩
  · rw [originateFrame, if_neg hup]
    rfl
  all_goals rw [hports]
  · exact sealed_length hlen
  · rw [sealed_byteAt (by omega), hzero]
    exact toNat_toByte (by omega)
  · rw [sealed_take hlen]
    exact sealed_good _

theorem slotEmpty_emptyReportBody (c : Nat) {n : Nat} (hn : n ≤ 3) : slotEmpty (emptyReportBody c) n = true := by
  have hzero : (emptyReportBody c).getD (1 + 32 * n) 0#8 = 0#8 := by
    rw [emptyReportBody, Nat.add_comm, List.getD_cons_succ, List.getD_eq_getElem?_getD, List.getElem?_replicate]
    split <;> rfl
  have hin : decide (slotStart n + 32 ≤ (emptyReportBody c).length) = true := by
    rw [emptyReportBody_length, slotStart, decide_eq_true_eq]
    omega
  rw [slotEmpty, hin, Bool.true_and, bitAt, slotStart, hzero]
  rfl

theorem chooseSlot_emptyReportBody (granted : Bool) (c : Nat) :
    chooseSlot granted (emptyReportBody c) = some (if granted then 0 else 1) := by
  cases granted <;> simp [chooseSlot, slotEmpty_emptyReportBody]

/-- R164: the oldest report goes into the frame its node originates. -/
theorem originateFrame_placed {s : State} {p : Nat} {r : Report} {rest : List Report} (hup : s.node.state ≠ .powerUp)
    (hfault : s.node.state ≠ .positionFault) (hpos : s.chain.position = some p) (hlow : 1 ≤ p) (hhigh : p ≤ 48)
    (hreports : s.node.reports = r :: rest) :
    let n := if s.chain.grant = some p then 0 else 1
    (originateFrame s).node = { s.node with reports := rest, loss := false } ∧
      byteAt (originateFrame s).ports.up (1 + 32 * n) = (if s.node.loss then 0xC0 else 0x80) ∧
      byteAt (originateFrame s).ports.up (2 + 32 * n) = p ∧ byteAt (originateFrame s).ports.up (3 + 32 * n) = r.code := by
  have hplace := placement_eq hup hfault hpos hlow hhigh hreports (emptyReportBody s.time.cycle)
  rw [chooseSlot_emptyReportBody, Option.map_some, beq_eq_decide] at hplace
  simp only [decide_eq_true_eq] at hplace
  rw [originateFrame, if_neg hup, sendUpstream_some hplace, hreports]
  have hn : (if s.chain.grant = some p then 0 else 1) ≤ 3 := by split <;> omega
  obtain ⟨h0, h1, h2, -⟩ :=
    sealed_slot (good := true) (loss := s.node.loss) r (emptyReportBody_length s.time.cycle) hn hhigh
  exact ⟨rfl, h0, h1, h2⟩

/-! ### A start in which no silence is told (R161, R163) -/

/-- Before some works of a start without second tick, commit and link loss: what still stands as at its beginning. -/
structure Undisturbed (chainEnd : Bool) (s : State) (l : List CycleWork) (u : State) : Prop extends Plain chainEnd l u where
  once : l.Nodup
  up : .upSilence ∈ l → u.chain.upSilence ≠ 2
  time : u.time = s.time
  table : u.table = s.table
  store : u.store = s.store
  ovr : u.ovr = s.ovr
  standing : u.rows.standing = s.rows.standing
  state : u.node.state = s.node.state
  position : u.chain.position = s.chain.position
  grant : u.chain.grant = s.chain.grant

theorem raiseDownSilence_position (s : State) : (raiseDownSilence s).chain.position = s.chain.position := by
  unfold raiseDownSilence
  split_ifs
  · rfl
  · rw [loseDownstream_chain]
    split <;> rfl
  · rfl

theorem raiseUpSilence_quiet {s : State} (h : s.chain.upSilence ≠ 2) :
    ∃ k, raiseUpSilence s = s.setChain { s.chain with upSilence := k } := by
  unfold raiseUpSilence
  split
  · exact ⟨s.chain.upSilence, rfl⟩
  · exact ⟨_, rfl⟩

theorem Undisturbed.step {e : Bool} {s : State} {w : CycleWork} {l : List CycleWork} {u : State}
    (h : Undisturbed e s (w :: l) u) : Undisturbed e s l (doWork w u) := by
  obtain ⟨hw, honce⟩ := List.nodup_cons.mp h.once
  have hrest (hne : w ≠ .upSilence) (hcount : (doWork w u).chain.upSilence = u.chain.upSilence) :
      .upSilence ∈ l → (doWork w u).chain.upSilence ≠ 2 := fun hin => hcount ▸ h.up (List.mem_cons_of_mem _ hin)
  have elsewhere {bs : List Block} (ht : Touches bs u (doWork w u)) (hne : w ≠ .upSilence)
      (hbs : ∀ b ∈ [Block.time, .table, .ovr, .chain], b ∉ bs) (hstate : (doWork w u).node.state = u.node.state) :
      Undisturbed e s l (doWork w u) := by
    have hchain : (doWork w u).chain = u.chain := ht .chain (hbs _ (by decide))
    exact
      { toPlain := h.toPlain.step, once := honce
        up := hrest hne (congrArg Chain.upSilence hchain)
        time := (ht .time (hbs _ (by decide))).trans h.time
        table := (ht .table (hbs _ (by decide))).trans h.table
        store := h.toPlain.store.trans h.store
        ovr := (ht .ovr (hbs _ (by decide))).trans h.ovr
        standing := (doWork_standing w u).trans h.standing
        state := hstate.trans h.state
        position := (congrArg Chain.position hchain).trans h.position
        grant := (congrArg Chain.grant hchain).trans h.grant }
  have hplain := h.works w (List.mem_cons_self ..)
  cases w
  case compose =>
    exact elsewhere (touches_compose u) nofun (by decide) (congrArg Node.state (touches_compose u .node (by decide)))
  case line =>
    have ht : Touches [.cues, .line] u (doWork .line u) := touches_ite (touches_refl _ u) (touches_lineCycle u)
    exact elsewhere ht nofun (by decide) (congrArg Node.state (ht .node (by decide)))
  case originate chainEnd =>
    have ht : Touches [.node, .ports] u (doWork (.originate chainEnd) u) :=
      touches_ite (touches_originateFrame u) (touches_refl _ u)
    refine elsewhere ht nofun (by decide) ?_
    cases chainEnd
    · rfl
    · exact originateFrame_state u
  case switch =>
    have hsame : doWork .switch u = u := switchAtCycle_none h.commit
    exact elsewhere (bs := []) (by rw [hsame]; exact touches_refl [] u) nofun (by decide) (by rw [hsame])
  case upSilence =>
    obtain ⟨k, hk⟩ := raiseUpSilence_quiet (h.up (List.mem_cons_self ..))
    have hplain' := h.toPlain.step
    rw [doWork, hk] at hplain' ⊢
    exact { h with toPlain := hplain', once := honce, up := fun hin => absurd hin hw }
  case downSilence =>
    have ht := touches_raiseDownSilence u
    obtain ⟨hcount, hgrant⟩ := raiseDownSilence_up u
    exact
      { toPlain := h.toPlain.step, once := honce
        up := hrest nofun hcount
        time := (ht .time (by decide)).trans h.time
        table := (ht .table (by decide)).trans h.table
        store := h.toPlain.store.trans h.store
        ovr := (ht .ovr (by decide)).trans h.ovr
        standing := (doWork_standing .downSilence u).trans h.standing
        state := (calm_raiseDownSilence u).told.state.trans h.state
        position := (raiseDownSilence_position u).trans h.position
        grant := hgrant.trans h.grant }
  all_goals exact absurd hplain Bool.false_ne_true

section

variable {s : State} (hcycle : s.time.cycle < 64) (hup : s.node.state ≠ .powerUp) (h63 : s.time.cycle ≠ 63)
  (hcommit : s.store.commit = none)

include hup hcommit in
theorem undisturbed_cycleWorks (hsilence : s.chain.upSilence ≠ 2) :
    Undisturbed s.chain.chainEnd (generatorStart true s) (cycleWorks s.free false s.time.turnsDay true s.chain.chainEnd)
      (countFree (generatorStart true s)) :=
  { toPlain := plain_cycleWorks hup hcommit _ _ _
    once := cycleWorks_nodup ..
    up := fun _ => hsilence
    time := rfl, table := rfl, store := rfl, ovr := rfl, standing := rfl, state := rfl, position := rfl, grant := rfl }

include hcycle hup h63 hcommit

/-- R61, R75 to R77: the composition of a boundary finds what it reads as the start set it. -/
theorem startCycle_rows (hsilence : s.chain.upSilence ≠ 2) :
    (startCycle true s).time = (generatorStart true s).time ∧
      (startCycle true s).rows.lastSent = (List.range 24).map (fun i => some (composeRow (generatorStart true s) (i + 1))) ∧
      (startCycle true s).ports.tile =
        ((List.range 24).filter fun i =>
            (generatorStart true s).time.cycle == 32 || s.rows.fullDue ||
              s.rows.lastSent.getD i none != some (composeRow (generatorStart true s) (i + 1))).map
          fun i => (composeRow (generatorStart true s) (i + 1)).bytes (i + 1) := by
  have hstart := undisturbed_cycleWorks hup hcommit hsilence
  have hother (w : CycleWork) (l : List CycleWork) (u : State) (hw : w ≠ .compose)
      (h : Undisturbed s.chain.chainEnd (generatorStart true s) (w :: l) u) :
      ((doWork w u).rows, (doWork w u).ports.tile) = (u.rows, u.ports.tile) := by
    have elsewhere {bs : List Block} (ht : Touches bs u (doWork w u)) (hbs : bs.contains .rows = false ∧ bs.contains .ports = false) :
        ((doWork w u).rows, (doWork w u).ports.tile) = (u.rows, u.ports.tile) :=
      Prod.ext (ht .rows (by simpa using hbs.1)) (congrArg Ports.tile (ht .ports (by simpa using hbs.2)))
    have hplain := h.works w (List.mem_cons_self ..)
    cases w
    case compose => exact absurd rfl hw
    case line => exact elsewhere (touches_ite (touches_refl [.cues, .line] u) (touches_lineCycle u)) (by decide)
    case originate chainEnd =>
      refine Prod.ext (touches_ite (touches_originateFrame u) (touches_refl [.node, .ports] u) .rows (by decide)) ?_
      cases chainEnd
      · rfl
      · change (originateFrame u).ports.tile = _
        rw [originateFrame, if_neg h.awake, sendUpstream]
        rfl
    case upSilence => exact elsewhere (touches_raiseUpSilence u) (by decide)
    case downSilence => exact elsewhere (touches_raiseDownSilence u) (by decide)
    case switch => rw [doWork, switchAtCycle_none h.commit]
    all_goals exact absurd hplain Bool.false_ne_true
  have hlastTime :=
    (foldl_keeps (P := Undisturbed s.chain.chainEnd (generatorStart true s)) (fun w l u h => h.step) _ _ hstart).time
  obtain ⟨rest, u, hu, hsame, hlast⟩ := foldl_once (P := Undisturbed s.chain.chainEnd (generatorStart true s))
    (g := fun u : State => (u.rows, u.ports.tile)) (w := CycleWork.compose) (fun w l u h => h.step)
    (fun w l u hw h => hother w l u hw h) _ (countFree (generatorStart true s))
    (cycleWorks_nodup s.free false s.time.turnsDay true s.chain.chainEnd) mem_boundaryWorks.2.2.2.1 hstart
  rw [← startCycle_plain hcycle h63] at hlastTime hlast
  have hrow (n : Nat) : composeRow u n = composeRow (generatorStart true s) n :=
    composeRow_congr hu.table hu.store hu.time hu.ovr hu.standing hu.state n
  obtain ⟨hrows, -⟩ := Prod.mk.inj hsame
  rw [doWork, compose_eq hu.awake] at hlast
  obtain ⟨hlastRows, hlastTile⟩ := Prod.mk.inj hlast
  refine ⟨hlastTime, ?_, ?_⟩
  · rw [hlastRows]
    refine (lastSent_eq u).trans ?_
    simp only [hrow]
  · rw [hlastTile]
    refine (sentTile_eq u).trans ?_
    rw [hu.time, hrows]
    simp only [hrow]
    rfl

/-- Before some works of a start of which the frame originated is to be told: none of them but the origination reaches the
upstream port, and the count of the cycle stands. -/
structure Counted (s : State) (l : List CycleWork) (u : State) : Prop extends Plain s.chain.chainEnd l u where
  count : SameCount (startTime true s) u.time

omit hcycle hup h63 hcommit in
theorem Counted.step {w : CycleWork} {l : List CycleWork} {u : State} (h : Counted s (w :: l) u) : Counted s l (doWork w u) :=
  ⟨h.toPlain.step, h.count.trans (doWork_count w u)⟩

omit hcycle hup h63 hcommit in
theorem up_doWork {w : CycleWork} {l : List CycleWork} {u : State} (hw : w ≠ .originate s.chain.chainEnd)
    (h : Plain s.chain.chainEnd (w :: l) u) :
    ((doWork w u).ports.up, (doWork w u).ports.upLeft) = (u.ports.up, u.ports.upLeft) := by
  have elsewhere {bs : List Block} (ht : Touches bs u (doWork w u)) (hbs : bs.contains .ports = false) :
      ((doWork w u).ports.up, (doWork w u).ports.upLeft) = (u.ports.up, u.ports.upLeft) := by
    have hports : (doWork w u).ports = u.ports := ht .ports (by simpa using hbs)
    rw [hports]
  have hplain := h.works w (List.mem_cons_self ..)
  cases w
  case originate e =>
    exact absurd (congrArg CycleWork.originate (beq_iff_eq.mp hplain)) hw
  case compose =>
    rw [doWork, compose_eq h.awake]
    rfl
  case line => exact elsewhere (touches_ite (touches_refl [.cues, .line] u) (touches_lineCycle u)) (by decide)
  case upSilence => exact elsewhere (touches_raiseUpSilence u) (by decide)
  case downSilence => exact elsewhere (touches_raiseDownSilence u) (by decide)
  case switch => rw [doWork, switchAtCycle_none h.commit]
  all_goals exact absurd hplain Bool.false_ne_true

/-- R163: the upstream port after a start is as the origination leaves it. -/
theorem startCycle_up :
    ∃ u : State, u.node.state ≠ .powerUp ∧ u.time.cycle = (startCycle true s).time.cycle ∧
      (startCycle true s).ports.up = (doWork (.originate s.chain.chainEnd) u).ports.up ∧
      (startCycle true s).ports.upLeft = (doWork (.originate s.chain.chainEnd) u).ports.upLeft ∧
      u.ports.up = s.ports.up ∧ u.ports.upLeft = s.ports.upLeft := by
  have hstart : Counted s (cycleWorks s.free false s.time.turnsDay true s.chain.chainEnd) (countFree (generatorStart true s)) :=
    ⟨plain_cycleWorks hup hcommit _ _ _, .of_eq (by rw [startTime, if_neg h63]; rfl)⟩
  obtain ⟨rest, u, hu, hsame, hlast⟩ := foldl_once (P := Counted s)
    (g := fun u : State => (u.ports.up, u.ports.upLeft)) (w := CycleWork.originate s.chain.chainEnd) (fun w l u h => h.step)
    (fun w l u hw h => up_doWork hw h.toPlain) _ (countFree (generatorStart true s))
    (cycleWorks_nodup s.free false s.time.turnsDay true s.chain.chainEnd) mem_boundaryWorks.2.2.2.2 hstart
  rw [← startCycle_plain hcycle h63] at hlast
  obtain ⟨hupSame, hleftSame⟩ := Prod.mk.inj hsame
  obtain ⟨hupLast, hleftLast⟩ := Prod.mk.inj hlast
  refine ⟨u, hu.awake, ?_, hupLast, hleftLast, hupSame, hleftSame⟩
  obtain ⟨_, _, _, _, _, htime⟩ := hu.count
  obtain ⟨_, _, _, _, _, htime'⟩ := startCycle_count hcycle true
  rw [htime, htime']

/-- R164: where no silence is told the frame originated takes the oldest report, and the node changes in no other way. -/
theorem startCycle_reports (hsilence : s.chain.upSilence ≠ 2) (hdown : s.chain.downSilence ≠ 2) :
    ∃ u : State, u.node = s.node ∧ u.chain.position = s.chain.position ∧ u.chain.grant = s.chain.grant ∧
      (startCycle true s).node = (doWork (.originate s.chain.chainEnd) u).node ∧
      (startCycle true s).ports.up = (doWork (.originate s.chain.chainEnd) u).ports.up := by
  have hstep (w : CycleWork) (l : List CycleWork) (u : State)
      (h : Undisturbed s.chain.chainEnd (generatorStart true s) (w :: l) u ∧ (.downSilence ∈ w :: l → u.chain.downSilence ≠ 2)) :
      Undisturbed s.chain.chainEnd (generatorStart true s) l (doWork w u) ∧
        (.downSilence ∈ l → (doWork w u).chain.downSilence ≠ 2) := by
    refine ⟨h.1.step, fun hin => ?_⟩
    have hcount : (doWork w u).chain.downSilence = u.chain.downSilence := by
      by_cases hw : w = .upSilence
      · rw [hw]
        exact (raiseUpSilence_down u).1
      · rw [doWork_chain hw]
        rintro rfl
        exact (List.nodup_cons.mp h.1.once).1 hin
    rw [hcount]
    exact h.2 (List.mem_cons_of_mem _ hin)
  have hother (w : CycleWork) (l : List CycleWork) (u : State) (hw : w ≠ .originate s.chain.chainEnd)
      (h : Undisturbed s.chain.chainEnd (generatorStart true s) (w :: l) u ∧ (.downSilence ∈ w :: l → u.chain.downSilence ≠ 2)) :
      ((doWork w u).node, (doWork w u).ports.up) = (u.node, u.ports.up) := by
    refine Prod.ext ?_ (Prod.mk.inj (up_doWork hw h.1.toPlain)).1
    have hplain := h.1.works w (List.mem_cons_self ..)
    cases w
    case originate e => exact absurd (congrArg CycleWork.originate (beq_iff_eq.mp hplain)) hw
    case compose => exact touches_compose u .node (by decide)
    case line => exact touches_ite (touches_refl [.cues, .line] u) (touches_lineCycle u) .node (by decide)
    case upSilence =>
      obtain ⟨k, hk⟩ := raiseUpSilence_quiet (h.1.up (List.mem_cons_self ..))
      rw [doWork, hk]
      rfl
    case downSilence =>
      change (raiseDownSilence u).node = u.node
      unfold raiseDownSilence
      rw [if_neg (h.2 (List.mem_cons_self ..))]
      split <;> rfl
    case switch => rw [doWork, switchAtCycle_none h.1.commit]
    all_goals exact absurd hplain Bool.false_ne_true
  obtain ⟨rest, u, hu, hsame, hlast⟩ := foldl_once
    (P := fun l u => Undisturbed s.chain.chainEnd (generatorStart true s) l u ∧ (.downSilence ∈ l → u.chain.downSilence ≠ 2))
    (g := fun u : State => (u.node, u.ports.up)) (w := CycleWork.originate s.chain.chainEnd) hstep hother _
    (countFree (generatorStart true s)) (cycleWorks_nodup s.free false s.time.turnsDay true s.chain.chainEnd)
    mem_boundaryWorks.2.2.2.2 ⟨undisturbed_cycleWorks hup hcommit hsilence, fun _ => hdown⟩
  rw [← startCycle_plain hcycle h63] at hlast
  obtain ⟨hnode, hport⟩ := Prod.mk.inj hlast
  exact ⟨u, (Prod.mk.inj hsame).1, hu.1.position, hu.1.grant, hnode, hport⟩

end

/-! ### The boundary (R80) -/

/-- R129, R138: what a start without a second tick makes of the zones, its cues' play counts among them. -/
theorem lineCycle_zones (s : State) {n : Nat} (hn : n < 8) :
    let z := s.line.zone n
    (Stops s.cues.queue z → (lineCycle s).line.zone n = { z with state := .stopping, timer := none, pollDue := false } ∧
      ∀ i, z.holding = some i → LineJob.stop n i ∈ (lineCycle s).line.jobs) ∧
    (¬Stops s.cues.queue z → z.state = .playing ∨ z.state = .fault →
      (∀ k, z.timer = some (k + 1) →
        (lineCycle s).line.zone n = { z with timer := some k, pollDue := z.pollDue || decide (k = 0) }) ∧
      (z.timer = some 0 → (∀ a, s.line.status ≠ .transaction (.poll n a)) →
        (lineCycle s).line.zone n = { z with pollDue := true }) ∧
      (z.timer = some 0 → (∃ a, s.line.status = .transaction (.poll n a)) → (lineCycle s).line.zone n = z)) ∧
    (z.state ≠ .playing → z.state ≠ .fault → (lineCycle s).line.zone n = z) := by
  obtain ⟨hstops, hgoes⟩ := lineCycle_zone hn s
  refine ⟨hstops, fun hnot hstate => ?_, fun hplaying hfault => ?_⟩
  · obtain ⟨hcount, hzero⟩ := countCycle_timer hstate (s.line.pollInFlight n)
    refine ⟨fun k hk => (hgoes hnot).trans (hcount k hk), fun h0 hfree => ?_, fun h0 hflight => ?_⟩
    · have hnone : s.line.pollInFlight n = false := by
        rw [← Bool.not_eq_true]
        exact fun h => (pollInFlight_iff.mp h).elim hfree
      rw [hgoes hnot, hzero h0, hnone]
      simp
    · rw [hgoes hnot, hzero h0, pollInFlight_iff.mpr hflight]
      simp
  · rw [hgoes fun h => hplaying h.1, Zone.countCycle, if_neg (not_or.mpr ⟨hplaying, hfault⟩)]

/-- Settles O24: the start's time base, which no work but a commit's clock reaches, and each block by the one work of the
start that reaches it. -/
theorem boundaryStartsNextCycle : Obligations.BoundaryStartsNextCycle := by
  intro s hcycle
  refine ⟨startCycle true s, rfl, ?_⟩
  obtain ⟨k, w, htime⟩ := startCycle_trim hcycle
  obtain ⟨hticks, hnumber, hacc, hlength, hstarts, hint, hfrac⟩ := startTime_generator true s
  have hsecond := startTime_second true s
  have hday := startTime_day true s
  have hcycleNew : (startCycle true s).time.cycle = (s.time.cycle + 1) % 64 := by rw [htime]; exact hnumber
  refine ⟨?_, hcycleNew, fun hsmall => ?_, fun hlarge => ?_, ?_, ?_, ?_, fun h63 => ?_, fun h63 hlast => ?_, fun h63 hlast => ?_,
    touches_startCycle s true .ovr (by decide), startCycle_standing s, fun hup hle hle' => ?_, fun hup h63 hcommit => ?_⟩
  · rw [htime]; exact hticks
  · rw [htime]
    rw [if_neg (by omega)] at hacc hlength
    exact ⟨hacc, hlength⟩
  · rw [htime]
    rw [if_pos hlarge] at hacc hlength
    exact ⟨hacc, hlength⟩
  · rw [htime]; exact hstarts
  · rw [htime]; exact hint
  · rw [htime]; exact hfrac
  · rw [htime]
    rw [if_neg h63] at hsecond
    rw [if_neg fun h => h63 h.1] at hday
    exact ⟨hsecond, hday⟩
  · rw [htime]
    rw [if_pos h63, if_neg hlast] at hsecond
    rw [if_neg fun h => hlast h.2] at hday
    exact ⟨hsecond, hday⟩
  · rw [htime]
    rw [if_pos h63, if_pos hlast] at hsecond
    rw [if_pos ⟨h63, hlast⟩] at hday
    exact ⟨hsecond, hday⟩
  · obtain ⟨hupCount, hgrant⟩ := startCycle_upSilence hcycle hup hle
    have hdown := startCycle_downSilence hcycle hup hle'
    have hmin : (startCycle true s).chain.downSilence = min 3 (s.chain.downSilence + 1) := by
      refine (congrArg Prod.fst hdown).trans ?_
      split
      next h => rw [h.1]; rfl
      next => rfl
    refine ⟨hupCount, hmin, hgrant, fun h2 hseen => ?_, fun hnot => ?_⟩
    · rw [if_pos ⟨h2, hseen⟩] at hdown
      exact Prod.mk.inj (Prod.mk.inj hdown).2
    · rw [if_neg (by rintro ⟨h2, hseen⟩; simp [h2, hseen] at hnot)] at hdown
      exact Prod.mk.inj (Prod.mk.inj hdown).2
  · refine ⟨?_, fun hsilence => ?_, fun hend => ?_, fun hend => ?_,
    fun p r rest hend hfault hpos hlow hhigh hreports hsilence hdown => ?_⟩
    · obtain ⟨u, hcues, hline, hlastCues, hlastLine⟩ := startCycle_line hcycle hup h63 hcommit
      refine ⟨?_, fun n hn => ?_⟩
      · rw [hlastCues, lineCycle_cues, hcues]
        rfl
      · rw [hlastLine, ← hline, ← hcues]
        exact lineCycle_zones u hn
    · obtain ⟨htimeEq, hrows, htile⟩ := startCycle_rows hcycle hup h63 hcommit hsilence
      rw [htimeEq]
      exact ⟨hrows, htile⟩
    · obtain ⟨u, -, -, hupPort, hleft, hupSame, hleftSame⟩ := startCycle_up hcycle hup h63 hcommit
      rw [hend] at hupPort hleft
      exact ⟨hupPort.trans hupSame, hleft.trans hleftSame⟩
    · obtain ⟨u, hawake, hcyc, hupPort, hleft, -, -⟩ := startCycle_up hcycle hup h63 hcommit
      rw [hend] at hupPort hleft
      have hframe := originateFrame_ports hawake (by rw [hcyc, hcycleNew]; omega)
      rw [hupPort, hleft, ← hcyc]
      exact hframe
    · obtain ⟨u, hnode, hposition, hgrant, hnodeLast, hport⟩ := startCycle_reports hcycle hup h63 hcommit hsilence hdown
      rw [hend] at hnodeLast hport
      rw [← hnode] at hup hfault hreports ⊢
      rw [← hposition] at hpos
      rw [← hgrant, hnodeLast, hport]
      exact originateFrame_placed hup hfault hpos hlow hhigh hreports

end Sys2Proof.Laws
end

section
/-! SUPPORT. The second tick on the service table and the cues (R20 to R22, R48, R54, R100, R116, R131), whatever order its
blocks take. -/

namespace Sys2Proof.Laws

open Sys2Proof Sys2Proof.Machine

/-! ### The scheduler's tests (R116) -/

/-- R116: a waiting or due cue whose expiry lies before `sec`. -/
def lateCue (sec : Int) (c : Cue) : Bool := c.waits && decide (c.expiry < sec)

/-- R116: the cues that pass the expiry test, after the release test. -/
def testedCues (sec : Int) (q : List Cue) : List Cue := (q.filter fun c => !lateCue sec c).map (releasedCue sec)

theorem release?_eq (sec : Int) : Cue.release? sec = releasedCue sec := by
  funext c
  simp [Cue.release?, releasedCue]

theorem lower_eq : Cue.lower = loweredCue 86400 := rfl

theorem tests_eq (sec : Int) (s : State) :
    releaseTest sec (expiryTest sec s) =
      (s.setCues { s.cues with queue := testedCues sec s.cues.queue }).setNode
        (nodeAfterReports ((s.cues.queue.filter (lateCue sec)).map (Cue.dropReport .expired)) s.node) := by
  rw [releaseTest, expiryTest, dropCues_eq, release?_eq]
  rfl

theorem schedulerTests_eq (s : State) :
    schedulerTests s =
      withoutHomeless
        ((s.setCues { s.cues with queue := testedCues s.time.second s.cues.queue }).setNode
          (nodeAfterReports ((s.cues.queue.filter (lateCue s.time.second)).map (Cue.dropReport .expired)) s.node)) := by
  rw [schedulerTests, noZoneCheck_eq, tests_eq]

/-! ### Blocks that leave the reports and the cues alone (R21, R51) -/

theorem retireWhere_of_no_watch {s : State} (h : s.node.watch = []) (p : ServiceRecord → Bool) :
    retireWhere p s = s.setTable (s.table.filter fun r => !p r) := by
  rw [retireWhere_eq, h]
  simp only [List.contains_nil, Bool.and_false, List.filter_false, List.map_nil, nodeAfterReports_nil]
  rfl

theorem touches_turnTable_of_no_watch {s : State} (h : s.node.watch = []) : Touches [.table] s (turnTable s) := by
  rw [turnTable, retireWhere_of_no_watch h]
  exact (touches_setTable s _).trans (touches_setTable _ _)

theorem touches_ageTable_of_no_watch {s : State} (h : s.node.watch = []) (turn : Bool) : Touches [.table] s (ageTable turn s) := by
  have haged : Touches [.table] s (tickAttention s) := touches_setTable s _
  exact touches_ite (haged.trans (touches_turnTable_of_no_watch (s := tickAttention s) h)) haged

/-- R51: where no rule names a template an evaluation asks for no cue. -/
theorem ruleRequests_untemplated {s : State} (h : ∀ n, (s.bank.rule n).template = none) (edges : List Nat) (r : ServiceRecord) :
    ruleRequests edges r s = s := by
  induction edges with
  | nil => rfl
  | cons n edges ih =>
    rw [ruleRequests] at ih ⊢
    rw [List.foldl_cons]
    simpa only [h n, ite_self] using ih

theorem touches_evaluateAll_untemplated {s : State} (h : ∀ n, (s.bank.rule n).template = none) :
    Touches [.table] s (evaluateAll s) := by
  have hfold : ∀ (l : List ServiceRecord) (u : State), u.bank = s.bank →
      Touches [.table] u (l.foldl (fun st r => fullEvaluation r st) u) := by
    intro l
    induction l with
    | nil => exact fun u _ => touches_refl _ u
    | cons r l ih =>
      intro u hu
      have hone : Touches [.table] u (fullEvaluation r u) := by
        have hbank : (storeEvaluated r u).bank = s.bank := hu
        rw [fullEvaluation, ruleRequests_untemplated (by rw [hbank]; exact h)]
        exact touches_setTable u _
      exact hone.trans (ih _ ((bank_of_touches hone (by decide)).trans hu))
  exact hfold s.table s rfl

/-! ### The works before the holdover count (R54, R83) -/

/-- The works of a second tick but the holdover count. -/
def blockOrder (n : Nat) (turn : Bool) : List CycleWork :=
  (weave (Config.freeOrder n 0) [CycleWork.scheduler] [[.age turn, .retire], [.rules]]).flatten

/-- The scheduler stands before, between or after the works on the table, and these keep their order. -/
theorem blockOrder_cases (n : Nat) (turn : Bool) :
    blockOrder n turn = [.scheduler, .age turn, .retire, .rules] ∨ blockOrder n turn = [.age turn, .retire, .scheduler, .rules] ∨
      blockOrder n turn = [.age turn, .retire, .rules, .scheduler] := by
  have hplace : Config.freeOrder n 0 % 3 < 3 := Nat.mod_lt _ (by decide)
  unfold blockOrder weave
  change (List.take (Config.freeOrder n 0 % 3) _ ++ _ :: List.drop (Config.freeOrder n 0 % 3) _).flatten = _ ∨ _
  generalize Config.freeOrder n 0 % 3 = k at hplace ⊢
  have hk : k = 0 ∨ k = 1 ∨ k = 2 := by omega
  rcases hk with rfl | rfl | rfl
  · exact .inl rfl
  · exact .inr (.inl rfl)
  · exact .inr (.inr rfl)

/-- The state of a second tick before the holdover count. -/
def blocksTicked (s : State) : State :=
  (blockOrder s.free s.time.turnsDay).foldl (fun st w => tickWork w st) (countFree (advanceSecond s))

theorem secondTick_eq (s : State) : secondTick s = holdTick (blocksTicked s) := by
  unfold secondTick tickOrder blocksTicked
  rw [List.foldl_append]
  rfl

/-- Before some works of a second tick: what is left of them, and what they all leave. -/
structure Ticking (s : State) (l : List CycleWork) (u : State) : Prop where
  works : ∀ w ∈ l, w ∈ [.scheduler, .age s.time.turnsDay, .retire, .rules]
  time : u.time = s.time.tickSecond
  line : u.line = s.line
  store : u.store = s.store
  told : Told s u

theorem calm_tickWork {w : CycleWork} (hw : w ≠ .hold) (u : State) : Calm u (tickWork w u) := by
  cases w
  case hold => exact absurd rfl hw
  case age turn => exact calm_ageTable u turn
  case retire => exact calm_retireWhere u _
  case rules => exact calm_evaluateAll u
  case scheduler => exact calm_schedulerTests u
  all_goals exact .refl u

theorem touches_tickWork_blocks {w : CycleWork} (hw : w ≠ .hold) (u : State) : Touches [.table, .cues, .node] u (tickWork w u) := by
  cases w
  case hold => exact absurd rfl hw
  case age turn => exact (touches_ageTable u turn).mono (by decide)
  case retire => exact (touches_retireRecords u).mono (by decide)
  case rules => exact touches_evaluateAll u
  case scheduler => exact (touches_schedulerTests u).mono (by decide)
  all_goals exact touches_refl _ u

section

variable {s : State} {w : CycleWork} {l : List CycleWork} {u : State}

theorem Ticking.ne_hold (h : Ticking s (w :: l) u) : w ≠ .hold := by
  rintro rfl
  have := h.works .hold (List.mem_cons_self ..)
  simp at this

theorem Ticking.step (h : Ticking s (w :: l) u) : Ticking s l (tickWork w u) := by
  have ht := touches_tickWork_blocks h.ne_hold u
  exact ⟨fun v hv => h.works v (List.mem_cons_of_mem _ hv), (ht .time (by decide)).trans h.time,
    (ht .line (by decide)).trans h.line, (ht .store (by decide)).trans h.store, h.told.trans (calm_tickWork h.ne_hold u).told⟩

end

theorem ticking_start (s : State) : Ticking s (blockOrder s.free s.time.turnsDay) (countFree (advanceSecond s)) := by
  have ht := touches_advanceSecond s
  refine ⟨fun w hw => ?_, advanceSecond_time s, ht .line (by decide), ht .store (by decide), .of_eq (ht .node (by decide))⟩
  rcases blockOrder_cases s.free s.time.turnsDay with h | h | h
  all_goals
    rw [h] at hw
    simp only [List.mem_cons, List.not_mem_nil, or_false] at hw ⊢
    tauto

theorem ticking_blocksTicked (s : State) : Ticking s [] (blocksTicked s) :=
  foldl_keeps (P := Ticking s) (fun _ _ _ h => h.step) _ _ (ticking_start s)

/-! ### The records (R20 to R22, R54) -/

/-- R20, R22: the records after the attention decrement and, at a day turn, the day turn. -/
def agedTable (turn : Bool) (t : List ServiceRecord) : List ServiceRecord :=
  if turn then ((t.map lowerAttention).filter fun r => decide (0 ≤ r.sm)).map lowerRecord else t.map lowerAttention

theorem ageTable_table (turn : Bool) (s : State) : (ageTable turn s).table = agedTable turn s.table := by
  cases turn
  · rfl
  · change (turnTable (tickAttention s)).table = _
    rw [turnTable_eq]
    rfl

/-- R21: the records that stay under a grace at a service second. -/
def keptTable (grace sec : Nat) (t : List ServiceRecord) : List ServiceRecord := t.filter fun r => !retires grace sec r

theorem keys_map {f : ServiceRecord → ServiceRecord} (hf : ∀ r, (f r).key = r.key) {t : List ServiceRecord}
    (h : t.Pairwise fun a b => a.key ≠ b.key) : (t.map f).Pairwise fun a b => a.key ≠ b.key := by
  refine List.pairwise_map.mpr (h.imp fun hab => ?_)
  rw [hf, hf]
  exact hab

theorem keys_agedTable (turn : Bool) {t : List ServiceRecord} (h : t.Pairwise fun a b => a.key ≠ b.key) :
    (agedTable turn t).Pairwise fun a b => a.key ≠ b.key := by
  have haged := keys_map (fun r => (lowerAttention_scheduled r).1) h
  unfold agedTable
  split
  · exact keys_map (f := lowerRecord) (fun _ => rfl) (haged.filter _)
  · exact haged

/-- R54: the works on the table in their order, whatever the place of the scheduler among them. -/
theorem blocksTicked_table {s : State} (hkeys : s.table.Pairwise fun a b => a.key ≠ b.key) :
    (blocksTicked s).table =
      (keptTable s.bank.params.grace s.time.tickSecond.second (agedTable s.time.turnsDay s.table)).map
        (decideRules s.bank s.time.tickSecond.second) := by
  have hage (u : State) : (tickWork (.age s.time.turnsDay) u).table = agedTable s.time.turnsDay u.table := ageTable_table _ u
  have hscheduler (u : State) : (tickWork .scheduler u).table = u.table := touches_schedulerTests u .table (by decide)
  have hretire (l : List CycleWork) (u : State) (h : Ticking s l u) :
      (tickWork .retire u).table = keptTable s.bank.params.grace s.time.tickSecond.second u.table := by
    have hbank : u.bank = s.bank := congrArg Store.active h.store
    change (retireRecords u).table = _
    rw [retireRecords, retireWhere_table, hbank, h.time]
    rfl
  have hrules (l : List CycleWork) (u : State) (h : Ticking s l u) (hu : u.table.Pairwise fun a b => a.key ≠ b.key) :
      (tickWork .rules u).table = u.table.map (decideRules s.bank s.time.tickSecond.second) := by
    have hbank : u.bank = s.bank := congrArg Store.active h.store
    change (evaluateAll u).table = _
    rw [table_evaluateAll u hu, hbank, h.time]
  have hstart : (countFree (advanceSecond s)).table = s.table := touches_advanceSecond s .table (by decide)
  have hkept : (keptTable s.bank.params.grace s.time.tickSecond.second (agedTable s.time.turnsDay s.table)).Pairwise
      fun a b => a.key ≠ b.key := (keys_agedTable _ hkeys).filter _
  have hticking := ticking_start s
  unfold blocksTicked
  generalize countFree (advanceSecond s) = v at hstart hticking ⊢
  rcases blockOrder_cases s.free s.time.turnsDay with h | h | h
  · rw [h] at hticking ⊢
    have h1 := hticking.step
    have h2 := h1.step
    have h3 := h2.step
    have htable : (tickWork .retire (tickWork (.age s.time.turnsDay) (tickWork .scheduler v))).table =
        keptTable s.bank.params.grace s.time.tickSecond.second (agedTable s.time.turnsDay s.table) := by
      rw [hretire _ _ h2, hage, hscheduler, hstart]
    rw [List.foldl_cons, List.foldl_cons, List.foldl_cons, List.foldl_cons, List.foldl_nil,
      hrules _ _ h3 (by rw [htable]; exact hkept), htable]
  · rw [h] at hticking ⊢
    have h1 := hticking.step
    have h2 := h1.step
    have h3 := h2.step
    have htable : (tickWork .scheduler (tickWork .retire (tickWork (.age s.time.turnsDay) v))).table =
        keptTable s.bank.params.grace s.time.tickSecond.second (agedTable s.time.turnsDay s.table) := by
      rw [hscheduler, hretire _ _ h1, hage, hstart]
    rw [List.foldl_cons, List.foldl_cons, List.foldl_cons, List.foldl_cons, List.foldl_nil,
      hrules _ _ h3 (by rw [htable]; exact hkept), htable]
  · rw [h] at hticking ⊢
    have h1 := hticking.step
    have h2 := h1.step
    have htable : (tickWork .retire (tickWork (.age s.time.turnsDay) v)).table =
        keptTable s.bank.params.grace s.time.tickSecond.second (agedTable s.time.turnsDay s.table) := by
      rw [hretire _ _ h1, hage, hstart]
    rw [List.foldl_cons, List.foldl_cons, List.foldl_cons, List.foldl_cons, List.foldl_nil, hscheduler,
      hrules _ _ h2 (by rw [htable]; exact hkept), htable]

/-! ### The cues (R116, R131) -/

/-- R116: the cues at the scheduler's tests of a second tick. -/
def cuesAtTests (s : State) : List Cue :=
  if s.time.second = 86399 then s.cues.queue.map (loweredCue 86400) else s.cues.queue

theorem advanceSecond_cues (s : State) : (advanceSecond s).cues = { s.cues with queue := cuesAtTests s } := by
  unfold cuesAtTests
  by_cases h : s.time.second = 86399
  · rw [advanceSecond_of_turn h, if_pos h]
    rfl
  · have hturn : s.time.turnsDay = false := by simp [TimeBase.turnsDay, h]
    simp [advanceSecond, hturn, h]

theorem mem_blockOrder (n : Nat) (turn : Bool) : CycleWork.scheduler ∈ blockOrder n turn := by
  rcases blockOrder_cases n turn with h | h | h <;> rw [h] <;> simp

theorem nodup_blockOrder (n : Nat) (turn : Bool) : (blockOrder n turn).Nodup := by
  rcases blockOrder_cases n turn with h | h | h <;> rw [h] <;> cases turn <;> decide

/-- Where no rule names a template the scheduler alone reaches the cues, and finds them as the clock's advance left them. -/
theorem blocksTicked_cues {s : State} (hnone : ∀ n, (s.bank.rule n).template = none) :
    ∃ u : State, u.cues = { s.cues with queue := cuesAtTests s } ∧ u.line = s.line ∧ u.time = s.time.tickSecond ∧
      (blocksTicked s).cues = (schedulerTests u).cues := by
  have hother (w : CycleWork) (l : List CycleWork) (u : State) (hw : w ≠ .scheduler) (h : Ticking s (w :: l) u) :
      (tickWork w u).cues = u.cues := by
    have hne := h.ne_hold
    cases w
    case scheduler => exact absurd rfl hw
    case hold => exact absurd rfl hne
    case age turn => exact touches_ageTable u turn .cues (by decide)
    case retire => exact touches_retireRecords u .cues (by decide)
    case rules =>
      have hbank : u.bank = s.bank := congrArg Store.active h.store
      exact touches_evaluateAll_untemplated (by rw [hbank]; exact hnone) .cues (by decide)
    all_goals rfl
  obtain ⟨rest, u, hu, hsame, hlast⟩ := foldl_once (P := Ticking s) (g := State.cues) (w := CycleWork.scheduler)
    (fun _ _ _ h => h.step) hother _ _ (nodup_blockOrder s.free s.time.turnsDay) (mem_blockOrder _ _) (ticking_start s)
  exact ⟨u, hsame.trans (advanceSecond_cues s), hu.line, hu.time, hlast⟩

/-- With no key watched either, the scheduler alone reports. -/
theorem blocksTicked_node {s : State} (hnone : ∀ n, (s.bank.rule n).template = none) (hwatch : s.node.watch = []) :
    ∃ u : State, u.cues = { s.cues with queue := cuesAtTests s } ∧ u.line = s.line ∧ u.time = s.time.tickSecond ∧
      u.node = s.node ∧ (blocksTicked s).node = (schedulerTests u).node := by
  have hother (w : CycleWork) (l : List CycleWork) (u : State) (hw : w ≠ .scheduler) (h : Ticking s (w :: l) u) :
      (tickWork w u).cues = u.cues ∧ (tickWork w u).node = u.node := by
    have hne := h.ne_hold
    have hkeeps : u.node.watch = [] := by
      obtain ⟨rs, hrs⟩ := h.told
      rw [hrs, nodeAfterReports_watch]
      exact hwatch
    cases w
    case scheduler => exact absurd rfl hw
    case hold => exact absurd rfl hne
    case age turn =>
      have ht := touches_ageTable_of_no_watch hkeeps turn
      exact ⟨ht .cues (by decide), ht .node (by decide)⟩
    case retire =>
      change (retireRecords u).cues = _ ∧ (retireRecords u).node = _
      rw [retireRecords, retireWhere_of_no_watch hkeeps]
      exact ⟨rfl, rfl⟩
    case rules =>
      have hbank : u.bank = s.bank := congrArg Store.active h.store
      have ht := touches_evaluateAll_untemplated (s := u) (by rw [hbank]; exact hnone)
      exact ⟨ht .cues (by decide), ht .node (by decide)⟩
    all_goals exact ⟨rfl, rfl⟩
  obtain ⟨rest, u, hu, hsame, hlast⟩ := foldl_once (P := Ticking s) (g := fun u : State => (u.cues, u.node))
    (w := CycleWork.scheduler) (fun _ _ _ h => h.step)
    (fun w l u hw h => Prod.ext (hother w l u hw h).1 (hother w l u hw h).2) _ _ (nodup_blockOrder s.free s.time.turnsDay)
    (mem_blockOrder _ _) (ticking_start s)
  obtain ⟨hcues, hnode⟩ := Prod.mk.inj hsame
  exact ⟨u, hcues.trans (advanceSecond_cues s), hu.line, hu.time, hnode.trans (touches_advanceSecond s .node (by decide)),
    (Prod.mk.inj hlast).2⟩

/-! ### The holdover count (R100) -/

theorem holdTick_elsewhere {s : State} (h : s.node.state ≠ .holdover) : holdTick s = s := if_neg h

theorem holdTick_counts {s : State} (h : s.node.state = .holdover) (hcount : s.node.holdover + 1 < s.bank.params.holdoverLimit) :
    holdTick s = s.setNode { s.node with holdover := s.node.holdover + 1 } := by
  rw [holdTick, if_pos h]
  exact if_neg (Nat.not_le.mpr hcount)

theorem holdTick_isolates {s : State} (h : s.node.state = .holdover) (hcount : s.bank.params.holdoverLimit ≤ s.node.holdover + 1) :
    holdTick s = enterIsolated (s.setNode { s.node with holdover := s.node.holdover + 1 }) := by
  rw [holdTick, if_pos h]
  exact if_pos hcount

theorem Told.holdover {s t : State} (h : Told s t) : t.node.holdover = s.node.holdover := by
  obtain ⟨rs, hrs⟩ := h
  rw [hrs, nodeAfterReports_holdover]

theorem enterIsolated_holdover (s : State) : (enterIsolated s).node.holdover = s.node.holdover := by
  have hflush : Told (changeState .isolated s.chain.position s) (enterIsolated s) := by
    rw [enterIsolated, flushNode]
    exact ((calm_setTable (v := []) fun _ => rfl).trans ((calm_flushCues _).trans (calm_lineBreak _))).told
  rw [hflush.holdover, changeState, queueReport_eq, State.setNode_node, nodeAfterReports_holdover]
  split <;> rfl

theorem enterIsolated_flushed (s : State) : Flushed s (enterIsolated s) := by
  have hline : (changeState .isolated s.chain.position s).line = s.line := touches_changeState s _ _ .line (by decide)
  obtain ⟨htable, hcues, hbroken⟩ := flushNode_flushed (changeState .isolated s.chain.position s)
  rw [hline] at hbroken
  exact ⟨htable, hcues, hbroken⟩

/-! ### The statement -/

theorem lowerAttention_eq :
    lowerAttention = fun r =>
      if r.attention = 0 then r
      else { r with attention := r.attention - 1, previous := if r.attention = 1 then none else r.previous } := by
  funext r
  unfold lowerAttention
  split_ifs with h0 h1
  · rfl
  · rw [h1]
  · rfl

theorem keptTable_eq (grace sec : Nat) (t : List ServiceRecord) :
    keptTable grace sec t = t.filter fun r => decide (-(grace : Int) * 60 < retirementRemaining r sec) := by
  refine List.filter_congr fun r _ => ?_
  rw [retires, ← decide_not, Int.neg_mul]
  exact decide_eq_decide.mpr Int.not_le

theorem turnsDay_eq (t : TimeBase) : t.turnsDay = decide (t.second = 86399) := beq_eq_decide _ _

/-- Settles O27: the works on the table keep their order, the scheduler alone reaches the cues, and the holdover count comes
last. -/
theorem secondTickRenewsServiceTable : Obligations.SecondTickRenewsServiceTable := by
  intro s hkeys
  refine ⟨secondTick s, rfl, ?_⟩
  have hsec : s.time.tickSecond.second = if s.time.second = 86399 then 0 else s.time.second + 1 := by
    change (if s.time.turnsDay = true then 0 else s.time.second + 1) = _
    simp only [turnsDay_eq, decide_eq_true_eq]
  have htouches := touches_secondTick s
  have hticked := ticking_blocksTicked s
  have hstate := hticked.told.state
  have hhold := hticked.told.holdover
  have hbank : (blocksTicked s).bank = s.bank := congrArg Store.active hticked.store
  have haged : agedTable s.time.turnsDay s.table =
      if s.time.second = 86399 then
        ((s.table.map lowerAttention).filter fun r => decide (0 ≤ r.sm)).map lowerRecord
      else s.table.map lowerAttention := by
    simp only [agedTable, turnsDay_eq, decide_eq_true_eq]
  have htable := blocksTicked_table hkeys
  rw [keptTable_eq, haged, hsec, lowerAttention_eq] at htable
  have hcues (hnone : ∀ n, (s.bank.rule n).template = none) : (blocksTicked s).cues =
      { s.cues with
        queue := (testedCues (if s.time.second = 86399 then 0 else s.time.second + 1 : Nat) (cuesAtTests s)).filter
          fun c => !(c.state == .due && (usableZones s.line c.zones).isEmpty) } := by
    obtain ⟨u, hu, hline, htime, hlast⟩ := blocksTicked_cues hnone
    rw [hlast, schedulerTests_eq, hu, htime, hsec]
    unfold withoutHomeless
    dsimp only [State.setNode_cues, State.setCues_cues]
    rw [← hline]
    rfl
  have hnode (hnone : ∀ n, (s.bank.rule n).template = none) (hwatch : s.node.watch = []) : (blocksTicked s).node =
      nodeAfterReports
        (((cuesAtTests s).filter (lateCue (if s.time.second = 86399 then 0 else s.time.second + 1 : Nat))).map
            (Cue.dropReport .expired) ++
          ((testedCues (if s.time.second = 86399 then 0 else s.time.second + 1 : Nat) (cuesAtTests s)).filter
            fun c => c.state == .due && (usableZones s.line c.zones).isEmpty).map (Cue.dropReport .noZone)) s.node := by
    obtain ⟨u, hu, hline, htime, hsame, hlast⟩ := blocksTicked_node hnone hwatch
    rw [hlast, schedulerTests_eq, hu, htime, hsec, hsame, nodeAfterReports_append]
    unfold withoutHomeless
    rw [← hline]
    rfl
  have hline := hticked.line
  refine ⟨htouches .store (by decide), htouches .rows (by decide), htouches .chain (by decide), htouches .ovr (by decide),
    htouches .ports (by decide), fun hstays => ?_, fun hholds hlimit => ?_⟩
  all_goals
    rw [secondTick_eq]
    generalize blocksTicked s = u at *
  · by_cases hholds : s.node.state = .holdover
    · have hcount : s.node.holdover + 1 < s.bank.params.holdoverLimit := hstays.resolve_left (not_not_intro hholds)
      rw [holdTick_counts (hstate.trans hholds) (by rw [hhold, hbank]; exact hcount), hhold]
      refine ⟨htable, hline, hstate, (if_pos hholds).symm, fun hnone => ⟨hcues hnone, fun hwatch => ?_⟩⟩
      rw [if_pos hholds, State.setNode_node, hnode hnone hwatch]
      rfl
    · rw [holdTick_elsewhere (fun h => hholds (hstate ▸ h))]
      refine ⟨htable, hline, hstate, hhold.trans (if_neg hholds).symm, fun hnone => ⟨hcues hnone, fun hwatch => ?_⟩⟩
      rw [if_neg hholds]
      exact hnode hnone hwatch
  · rw [holdTick_isolates (hstate.trans hholds) (by rw [hhold, hbank]; exact hlimit), hhold]
    refine ⟨enterIsolated_state _, enterIsolated_holdover _, ?_⟩
    obtain ⟨hempty, hqueue, hbroken⟩ := enterIsolated_flushed (u.setNode { u.node with holdover := s.node.holdover + 1 })
    rw [State.setNode_line, hline] at hbroken
    exact ⟨hempty, hqueue, hbroken⟩

end Sys2Proof.Laws
end

section
/-! SUPPORT. The header of a valid frame and its time mark (R82, R91 to R98, R117, R158, R159). -/

namespace Sys2Proof.Laws

open Sys2Proof Sys2Proof.Machine

/-! ### The header of a frame that changes no state (R158, R159) -/

/-- R159: a position within 48, with its report in RUNNING where it is another. -/
theorem takePosition_eq {hop : Nat} (hhop : hop + 1 ≤ 48) (s : State) :
    takePosition hop s =
      (s.setChain { s.chain with hopCount := some hop, position := some (hop + 1) }).setNode
        (nodeAfterReports
          (if s.chain.position ≠ some (hop + 1) ∧ s.node.state = .running ∧ s.chain.position.isSome then
            [.stateChanged .running .running s.chain.position (some (hop + 1)) none]
           else []) s.node) := by
  unfold takePosition
  dsimp only
  rw [if_neg (by omega)]
  split
  · rw [queueReport_eq]
    rfl
  · rfl

theorem nodeFrame_of_takes {s : State} (h : s.node.state = .joining ∨ s.node.state = .running) (held : Option Nat) :
    nodeFrame held s = s := by
  unfold nodeFrame
  rcases h with h | h <;> rw [h]

/-- A state that a frame's arrival and its position make of another: records, cues, line, clock and tables are as they were. -/
structure Positioned (hop : Nat) (s v : State) : Prop where
  touches : Touches [.chain, .node, .ports] s v
  told : Told s v
  position : v.chain.position = some (hop + 1)
  stays : s.chain.position = some (hop + 1) ∨ s.node.state = .joining → v.node = s.node

theorem positioned_takePosition {hop : Nat} (hhop : hop + 1 ≤ 48) (bs : List Byte) (s : State) :
    Positioned hop s (takePosition hop (forward bs s)) := by
  rw [takePosition_eq hhop]
  refine ⟨?_, ⟨_, rfl⟩, rfl, fun h => ?_⟩
  · exact ((touches_forward s bs).mono (by decide)).trans
      (((touches_setChain _ _).mono (by decide)).trans ((touches_setNode _ _).mono (by decide)))
  · rw [if_neg]
    · rfl
    · rintro ⟨hmoved, hrun, -⟩
      rcases h with h | h
      · exact hmoved h
      · exact absurd ((hrun : s.node.state = .running).symm.trans h) (by decide)

/-- A frame that brings a mark and no message to a node in JOINING or RUNNING, in the cycle it is in. -/
theorem receiveFrame_mark {s : State} {bs : List Byte} {f : ParsedFrame} {day sec : Nat}
    (hstate : s.node.state = .joining ∨ s.node.state = .running) (hbreak : s.chain.upBreak = false)
    (hparse : parseFrame bs = some f) (hmark : f.mark = some (day, sec)) (hmessages : f.messages = []) (hhop : f.hop + 1 ≤ 48)
    (hcycle : f.cycle = s.time.cycle) :
    receiveFrame bs s =
      State.setChain (takeMark s.chain.position day sec (takePosition f.hop (forward bs s)))
        { (takeMark s.chain.position day sec (takePosition f.hop (forward bs s))).chain with grant := f.grant } := by
  have hup : ¬(s.node.state = .powerUp ∨ s.chain.upBreak = true) := by
    rw [hbreak]
    rcases hstate with h | h <;> rw [h] <;> simp
  have hpos := positioned_takePosition hhop bs s
  have htakes : (takePosition f.hop (forward bs s)).node.state = .joining ∨
      (takePosition f.hop (forward bs s)).node.state = .running := by rwa [hpos.told.state]
  have htime : (takePosition f.hop (forward bs s)).time = s.time := hpos.touches .time (by decide)
  have hheader : takeHeader f (forward bs s) =
      State.setChain (takeMark s.chain.position day sec (takePosition f.hop (forward bs s)))
        { (takeMark s.chain.position day sec (takePosition f.hop (forward bs s))).chain with grant := f.grant } := by
    unfold takeHeader
    rw [nodeFrame_of_takes htakes, correctCycle, if_pos (hcycle.trans (congrArg TimeBase.cycle htime).symm), hmark]
    rfl
  rw [receiveFrame, if_neg hup, hparse]
  change takeFrame f (forward bs s) = _
  rw [takeFrame, hmessages, List.foldl_nil, hheader]

/-! ### The classes of a mark (R93 to R98) -/

section

variable {s : State} {day sec : Nat}

/-- R93: a step of 0 leads to the very day and second that stand. -/
theorem same_of_classifyMark_none {t : TimeBase} (hday : t.day < 65536) (hsecond : t.second < 86400) (hnew : day < 65536)
    (hsec : sec ≤ 86399) (h : classifyMark t day sec = .none) : day = t.day ∧ sec = t.second := by
  have hstep : markStep t day sec = 0 := by
    unfold classifyMark at h
    split_ifs at h with h0
    exact h0
  unfold markStep dayDifference at hstep
  split at hstep <;> omega

/-- R95: a DATE JUMP. -/
theorem dateJump_marks (day sec : Nat) (s : State) :
    Flushed s (dateJump day sec s) ∧
      (dateJump day sec s).node =
        nodeAfterReports (.dateJump s.time.day s.time.second day sec :: s.cues.queue.map (Cue.dropReport .flushed)) s.node := by
  have hflushed := flushNode_flushed (queueReport (.dateJump s.time.day s.time.second day sec) (setClock day sec s))
  have hline : (queueReport (.dateJump s.time.day s.time.second day sec) (setClock day sec s)).line = s.line := by
    rw [queueReport_eq]
    rfl
  obtain ⟨htable, hcues, hbroken⟩ := hflushed
  rw [hline] at hbroken
  refine ⟨⟨htable, hcues, hbroken⟩, ?_⟩
  rw [dateJump, flushNode_eq, queueReport_eq]
  exact (nodeAfterReports_append [.dateJump s.time.day s.time.second day sec] _ _).symm

/-- R96, R117: a SET BACK. -/
theorem setBack_marks (day sec : Nat) {s : State} (hkeys : s.table.Pairwise fun a b => a.key ≠ b.key) :
    (setBack day sec s).table = s.table.map (decideRules s.bank sec) ∧ (setBack day sec s).line = s.line ∧
      ((∀ n, (s.bank.rule n).template = none) →
        (setBack day sec s).cues = { s.cues with queue := s.cues.queue.map fun c =>
          if c.state = .due then { c with retryHold := none } else c } ∧
        (setBack day sec s).node = nodeAfterReports [.clockStep .setBack (markStep s.time day sec)] s.node) := by
  obtain ⟨u, hu⟩ : ∃ u, u = clearHolds (queueReport (.clockStep .setBack (markStep s.time day sec)) (setClock day sec s)) :=
    ⟨_, rfl⟩
  have hset : setBack day sec s = evaluateAll u := by rw [hu]; rfl
  have hholds : (fun c : Cue => if c.state == .due then { c with retryHold := none } else c) =
      fun c : Cue => if c.state = .due then { c with retryHold := none } else c := by
    funext c
    simp only [beq_iff_eq]
  rw [queueReport_eq, clearHolds, hholds] at hu
  have htable : u.table = s.table := by rw [hu]; rfl
  have hbank : u.bank = s.bank := by rw [hu]; rfl
  have hsecond : u.time.second = sec := by rw [hu]; rfl
  have hline : u.line = s.line := by rw [hu]; rfl
  have hcues : u.cues = { s.cues with queue := s.cues.queue.map fun c =>
      if c.state = .due then { c with retryHold := none } else c } := by rw [hu]; rfl
  have hnode : u.node = nodeAfterReports [.clockStep .setBack (markStep s.time day sec)] s.node := by rw [hu]; rfl
  rw [hset]
  refine ⟨?_, (touches_evaluateAll u .line (by decide)).trans hline, fun hnone => ?_⟩
  · rw [table_evaluateAll u (by rw [htable]; exact hkeys), htable, hbank, hsecond]
  · have ht := touches_evaluateAll_untemplated (s := u) (by rw [hbank]; exact hnone)
    exact ⟨(ht .cues (by decide)).trans hcues, (ht .node (by decide)).trans hnode⟩

end

/-! ### A forward step (R97, R98) -/

/-- R98: the WAITING cues a LONG STEP carries past their release. -/
def skippedCue (step : StepClass) (old new : Int) (c : Cue) : Bool :=
  step == .longStep && c.state == .waiting && decide (old < c.release) && decide (c.release ≤ new)

/-- R98: the cues after the scheduler's works of a forward step, but for the NO ZONE check. -/
def steppedCues (step : StepClass) (old new : Int) (crosses : Bool) (q : List Cue) : List Cue :=
  if crosses then (testedCues new (q.filter fun c => !skippedCue step old new c)).map (loweredCue 86400)
  else testedCues new (q.filter fun c => !skippedCue step old new c)

theorem skip_eq (step : StepClass) (old new : Int) (s : State) :
    (if step = .longStep then
      dropCues (fun c => c.state == .waiting && decide (old < c.release) && decide (c.release ≤ new)) .skipped s
     else s) = dropCues (skippedCue step old new) .skipped s := by
  cases step
  case longStep => rfl
  all_goals
    rw [if_neg (by decide)]
    exact (dropCues_none _ _ s fun c _ => rfl).symm

theorem schedulerStep_works (step : StepClass) (old new : Int) (crosses : Bool) (s : State) :
    schedulerStep step old new crosses s =
      withoutHomeless
        ((s.setCues { s.cues with queue := steppedCues step old new crosses s.cues.queue }).setNode
          (nodeAfterReports ((s.cues.queue.filter (skippedCue step old new)).map (Cue.dropReport .skipped) ++
            ((s.cues.queue.filter fun c => !skippedCue step old new c).filter (lateCue new)).map (Cue.dropReport .expired))
            s.node)) := by
  rw [schedulerStep_eq, noZoneCheck_eq, stepTests, skip_eq, dropCues_eq, tests_eq, nodeAfterReports_append]
  unfold steppedCues
  cases crosses <;> rfl

theorem turnTable_table (s : State) : (turnTable s).table = (s.table.filter fun r => decide (0 ≤ r.sm)).map lowerRecord := by
  rw [turnTable_eq]
  rfl

/-- R97, R98: a forward step with its report and, where it crosses one, the day turn of the table. -/
def reportedStep (step : StepClass) (day sec : Nat) (s : State) : State :=
  if decide (dayDifference s.time.day day = 1) then turnTable (queueReport (.clockStep step (markStep s.time day sec)) s)
  else queueReport (.clockStep step (markStep s.time day sec)) s

/-- R97: the new second on the basis of the old day. -/
def stepSecond (day sec : Nat) (t : TimeBase) : Int :=
  if decide (dayDifference t.day day = 1) then (sec : Int) + 86400 else (sec : Int)

/-- R97: a forward step before the records retire and are decided. -/
def stepped (step : StepClass) (day sec : Nat) (s : State) : State :=
  setClock day sec
    (schedulerStep step (s.time.second : Int) (stepSecond day sec s.time) (decide (dayDifference s.time.day day = 1))
      (reportedStep step day sec s))

theorem forwardStep_eq (step : StepClass) (day sec : Nat) (s : State) :
    forwardStep step day sec s = evaluateAll (retireRecords (stepped step day sec s)) := rfl

section

variable (step : StepClass) (day sec : Nat) (s : State)

theorem touches_reportedStep : Touches [.table, .node] s (reportedStep step day sec s) :=
  touches_ite (((touches_queueReport s _).mono (by decide)).trans (touches_turnTable _))
    ((touches_queueReport s _).mono (by decide))

theorem reportedStep_table :
    (reportedStep step day sec s).table =
      if decide (dayDifference s.time.day day = 1) then (s.table.filter fun r => decide (0 ≤ r.sm)).map lowerRecord
      else s.table := by
  unfold reportedStep
  rw [queueReport_eq]
  split
  · exact turnTable_table _
  · rfl

theorem reportedStep_node (hwatch : s.node.watch = []) :
    (reportedStep step day sec s).node = nodeAfterReports [.clockStep step (markStep s.time day sec)] s.node := by
  unfold reportedStep
  rw [queueReport_eq]
  split
  · have hnone : (s.setNode (nodeAfterReports [.clockStep step (markStep s.time day sec)] s.node)).node.watch = [] := by
      rw [State.setNode_node, nodeAfterReports_watch]
      exact hwatch
    exact touches_turnTable_of_no_watch hnone .node (by decide)
  · rfl

theorem touches_stepped : Touches [.table, .cues, .time, .node] s (stepped step day sec s) :=
  ((touches_reportedStep step day sec s).mono (by decide)).trans
    (((touches_schedulerStep _ _ _ _ _).mono (by decide)).trans ((touches_setClock _ _ _).mono (by decide)))

theorem stepped_table : (stepped step day sec s).table = (reportedStep step day sec s).table :=
  touches_schedulerStep (reportedStep step day sec s) _ _ _ _ .table (by decide)

theorem stepped_cues :
    (stepped step day sec s).cues =
      { s.cues with
        queue := (steppedCues step s.time.second (stepSecond day sec s.time) (decide (dayDifference s.time.day day = 1))
          s.cues.queue).filter fun c => !(c.state == .due && (usableZones s.line c.zones).isEmpty) } := by
  have ht := touches_reportedStep step day sec s
  have hcues : (reportedStep step day sec s).cues = s.cues := ht .cues (by decide)
  have hline : (reportedStep step day sec s).line = s.line := ht .line (by decide)
  rw [← hcues, ← hline]
  exact congrArg State.cues (schedulerStep_works step _ _ _ (reportedStep step day sec s))

theorem stepped_node (hwatch : s.node.watch = []) :
    (stepped step day sec s).node =
      nodeAfterReports
        (.clockStep step (markStep s.time day sec) ::
          ((s.cues.queue.filter (skippedCue step s.time.second (stepSecond day sec s.time))).map (Cue.dropReport .skipped) ++
            ((s.cues.queue.filter fun c => !skippedCue step s.time.second (stepSecond day sec s.time) c).filter
              (lateCue (stepSecond day sec s.time))).map (Cue.dropReport .expired) ++
            ((steppedCues step s.time.second (stepSecond day sec s.time) (decide (dayDifference s.time.day day = 1))
              s.cues.queue).filter fun c => c.state == .due && (usableZones s.line c.zones).isEmpty).map
                (Cue.dropReport .noZone))) s.node := by
  have ht := touches_reportedStep step day sec s
  have hcues : (reportedStep step day sec s).cues = s.cues := ht .cues (by decide)
  have hline : (reportedStep step day sec s).line = s.line := ht .line (by decide)
  have hworks := congrArg State.node (schedulerStep_works step s.time.second (stepSecond day sec s.time)
    (decide (dayDifference s.time.day day = 1)) (reportedStep step day sec s))
  refine hworks.trans (Eq.trans ?_ (nodeAfterReports_append [.clockStep step (markStep s.time day sec)] _ _).symm)
  rw [← reportedStep_node step day sec s hwatch]
  refine Eq.trans ?_ (nodeAfterReports_append _ _ _).symm
  rw [← hcues, ← hline]
  rfl

/-- R97, R98: a forward step. -/
theorem forwardStep_marks (hkeys : s.table.Pairwise fun a b => a.key ≠ b.key) :
    (forwardStep step day sec s).table =
        (keptTable s.bank.params.grace sec
          (if decide (dayDifference s.time.day day = 1) then (s.table.filter fun r => decide (0 ≤ r.sm)).map lowerRecord
           else s.table)).map (decideRules s.bank sec) ∧
      (forwardStep step day sec s).line = s.line ∧
      ((∀ n, (s.bank.rule n).template = none) →
        (forwardStep step day sec s).cues = (stepped step day sec s).cues ∧
        (s.node.watch = [] → (forwardStep step day sec s).node = (stepped step day sec s).node)) := by
  have ht := touches_stepped step day sec s
  have hbank : (stepped step day sec s).bank = s.bank := bank_of_touches ht (by decide)
  have hline : (stepped step day sec s).line = s.line := ht .line (by decide)
  have hsecond : (stepped step day sec s).time.second = sec := rfl
  have htable := (stepped_table step day sec s).trans (reportedStep_table step day sec s)
  have hwatched : (stepped step day sec s).node.watch = s.node.watch := by
    have htold : Told s (stepped step day sec s) :=
      ((Calm.ite ((calm_queueReport s _).trans (calm_turnTable _)) (calm_queueReport s _)).trans
        ((calm_schedulerStep (reportedStep step day sec s) _ _ _ _).trans (calm_setClock _ _ _)) : Calm s _).told
    obtain ⟨rs, hrs⟩ := htold
    rw [hrs, nodeAfterReports_watch]
  rw [forwardStep_eq]
  generalize stepped step day sec s = u at *
  have hkept : (retireRecords u).table = keptTable s.bank.params.grace sec u.table := by
    rw [retireRecords, retireWhere_table, hbank, hsecond]
    rfl
  have hretire := touches_retireRecords u
  have hkeysTurned : u.table.Pairwise fun a b => a.key ≠ b.key := by
    rw [htable]
    split
    · exact keys_map (f := lowerRecord) (fun _ => rfl) (hkeys.filter _)
    · exact hkeys
  refine ⟨?_, ?_, fun hnone => ?_⟩
  · rw [table_evaluateAll _ (by rw [hkept]; exact hkeysTurned.filter _), hkept, htable,
      bank_of_touches hretire (by decide), hretire .time (by decide), hbank, hsecond]
  · exact (touches_evaluateAll _ .line (by decide)).trans ((hretire .line (by decide)).trans hline)
  · have hrules := touches_evaluateAll_untemplated (s := retireRecords u)
      (by rw [bank_of_touches hretire (by decide), hbank]; exact hnone)
    refine ⟨(hrules .cues (by decide)).trans (hretire .cues (by decide)), fun hwatch => ?_⟩
    refine (hrules .node (by decide)).trans ?_
    rw [retireRecords, retireWhere_of_no_watch (hwatched.trans hwatch)]
    rfl

end

end Sys2Proof.Laws
end

section
/-! SUPPORT. The time mark of a frame (R91 to R98), class by class. -/

namespace Sys2Proof.Laws

open Sys2Proof Sys2Proof.Machine

section

variable {held : Option Nat} {day sec : Nat} {s : State} (htakes : s.node.state = .joining ∨ s.node.state = .running)
  (hsec : sec ≤ 86399)

include htakes hsec

/-- R92, R174: the first mark sets the clock and may take the node to RUNNING. -/
theorem takeMark_pending (hpending : s.time.setPending = true) :
    takeMark held day sec s = completeJoining held (setClock day sec s) := by
  rw [takeMark, if_pos ⟨takesMessages_iff.mpr htakes, hsec⟩, if_pos hpending]

theorem takeMark_none (hpending : s.time.setPending = false) (h : classifyMark s.time day sec = .none) :
    takeMark held day sec s = s := by
  rw [takeMark, if_pos ⟨takesMessages_iff.mpr htakes, hsec⟩, if_neg (Bool.eq_false_iff.mp hpending)]
  simp only [h]

theorem takeMark_dateJump (hpending : s.time.setPending = false) (h : classifyMark s.time day sec = .dateJump) :
    takeMark held day sec s = dateJump day sec s := by
  rw [takeMark, if_pos ⟨takesMessages_iff.mpr htakes, hsec⟩, if_neg (Bool.eq_false_iff.mp hpending)]
  simp only [h]

theorem takeMark_setBack (hpending : s.time.setPending = false) (h : classifyMark s.time day sec = .setBack) :
    takeMark held day sec s = setBack day sec s := by
  rw [takeMark, if_pos ⟨takesMessages_iff.mpr htakes, hsec⟩, if_neg (Bool.eq_false_iff.mp hpending)]
  simp only [h]

theorem takeMark_forward (hpending : s.time.setPending = false) {step : StepClass}
    (h : (step = .shortStep ∧ classifyMark s.time day sec = .shortStep) ∨
      (step = .longStep ∧ classifyMark s.time day sec = .longStep)) :
    takeMark held day sec s = forwardStep step day sec s := by
  rw [takeMark, if_pos ⟨takesMessages_iff.mpr htakes, hsec⟩, if_neg (Bool.eq_false_iff.mp hpending)]
  obtain ⟨rfl, h⟩ | ⟨rfl, h⟩ := h <;> simp only [h]

end

theorem forwardStep_time (step : StepClass) (day sec : Nat) (s : State) :
    (forwardStep step day sec s).time = (setClock day sec s).time := by
  have hbefore : (schedulerStep step (s.time.second : Int) (stepSecond day sec s.time)
      (decide (dayDifference s.time.day day = 1)) (reportedStep step day sec s)).time = s.time :=
    (touches_schedulerStep _ _ _ _ _ .time (by decide)).trans (touches_reportedStep step day sec s .time (by decide))
  have hstore : (schedulerStep step (s.time.second : Int) (stepSecond day sec s.time)
      (decide (dayDifference s.time.day day = 1)) (reportedStep step day sec s)).bank = s.bank :=
    (bank_of_touches (touches_schedulerStep _ _ _ _ _) (by decide)).trans
      (bank_of_touches (touches_reportedStep step day sec s) (by decide))
  have hset : (stepped step day sec s).time = (setClock day sec s).time := by
    unfold stepped setClock
    rw [State.setTime_time, State.setTime_time, hbefore, hstore]
  rw [forwardStep_eq]
  generalize stepped step day sec s = u at hset
  exact (touches_evaluateAll _ .time (by decide)).trans ((touches_retireRecords u .time (by decide)).trans hset)

theorem setBack_time (day sec : Nat) (s : State) : (setBack day sec s).time = (setClock day sec s).time :=
  ((((touches_queueReport (setClock day sec s) _).mono (by decide)).trans ((touches_clearHolds _).mono (by decide))).trans
    (touches_evaluateAll _) : Touches [.table, .cues, .node] (setClock day sec s) _) .time (by decide)

theorem dateJump_time (day sec : Nat) (s : State) : (dateJump day sec s).time = (setClock day sec s).time := by
  rw [dateJump, flushNode_eq, queueReport_eq]
  rfl

/-- A mark taken sets the clock, the day number and the service second, and nothing else of the time base but its flags. -/
theorem takeMark_time {held : Option Nat} {day sec : Nat} {s : State}
    (htakes : s.node.state = .joining ∨ s.node.state = .running) (hsec : sec ≤ 86399) (hday : day < 65536) (hok : s.timeOk) :
    (takeMark held day sec s).time.second = sec ∧ (takeMark held day sec s).time.day = day ∧
      (takeMark held day sec s).time.clock = civilClock s.bank.params.dayStart sec ∧
      (takeMark held day sec s).time.cycle = s.time.cycle ∧ (takeMark held day sec s).time.tickCount = s.time.tickCount := by
  have hset {t : State} (h : t.time = (setClock day sec s).time) :
      t.time.second = sec ∧ t.time.day = day ∧ t.time.clock = civilClock s.bank.params.dayStart sec ∧
        t.time.cycle = s.time.cycle ∧ t.time.tickCount = s.time.tickCount := by
    rw [h]
    exact ⟨rfl, rfl, rfl, rfl, rfl⟩
  cases hpending : s.time.setPending with
  | true =>
    rw [takeMark_pending htakes hsec hpending]
    obtain ⟨n, hn⟩ := completeJoining_setNode held (setClock day sec s)
    rw [hn]
    exact hset (State.setNode_time _ _)
  | false =>
    cases hclass : classifyMark s.time day sec with
    | none =>
      obtain ⟨hsameDay, hsameSec⟩ := same_of_classifyMark_none hok.day hok.second hday hsec hclass
      rw [takeMark_none htakes hsec hpending hclass, hsameDay, hsameSec]
      exact ⟨rfl, rfl, hok.clock, rfl, rfl⟩
    | dateJump =>
      rw [takeMark_dateJump htakes hsec hpending hclass]
      exact hset (dateJump_time day sec s)
    | setBack =>
      rw [takeMark_setBack htakes hsec hpending hclass]
      exact hset (setBack_time day sec s)
    | shortStep =>
      rw [takeMark_forward htakes hsec hpending (.inl ⟨rfl, hclass⟩)]
      exact hset (forwardStep_time .shortStep day sec s)
    | longStep =>
      rw [takeMark_forward htakes hsec hpending (.inr ⟨rfl, hclass⟩)]
      exact hset (forwardStep_time .longStep day sec s)

/-- The node's share in the first mark (R100, R173, R174). -/
theorem takeMark_first {s v : State} {hop day sec : Nat} (hpos : Positioned hop s v)
    (htakes : v.node.state = .joining ∨ v.node.state = .running) (hsec : sec ≤ 86399) (hpending : s.time.setPending = true) :
    let t := takeMark s.chain.position day sec v
    t.table = s.table ∧ t.cues = s.cues ∧ t.line = s.line ∧ t.time.synchronised = true ∧ t.time.setPending = false ∧
      (s.node.state = .joining → s.store.generation ≠ 0 →
        t.node =
          nodeAfterReports [.stateChanged .joining .running s.chain.position (some (hop + 1)) none]
            { s.node with state := .running, holdover := 0 }) ∧
      (s.node.state = .joining → s.store.generation = 0 → t.node = s.node) := by
  obtain ⟨hbefore, -, hposition, hstays⟩ := hpos
  have htime : v.time = s.time := hbefore .time (by decide)
  have hgeneration : v.store.generation = s.store.generation := congrArg Store.generation (hbefore .store (by decide))
  have htaken := takeMark_pending (held := s.chain.position) (day := day) htakes hsec (htime ▸ hpending)
  have hcomplete := completeJoining_eq s.chain.position (setClock day sec v)
  obtain ⟨n, hn⟩ := completeJoining_setNode s.chain.position (setClock day sec v)
  intro t
  change t = _ at htaken
  rw [htaken]
  refine ⟨?_, ?_, ?_, ?_, ?_, fun hjoin hgen => ?_, fun hjoin hgen => ?_⟩
  case refine_6 =>
    have hnode := hstays (.inr hjoin)
    rw [hcomplete, if_pos ⟨(congrArg Node.state hnode).trans hjoin, rfl, fun h => hgen (hgeneration.symm.trans h)⟩]
    change nodeAfterReports [.stateChanged .joining .running s.chain.position v.chain.position none]
      { v.node with state := .running, holdover := 0 } = _
    rw [hnode, hposition]
  case refine_7 =>
    rw [hcomplete, if_neg (fun h => h.2.2 (hgeneration.trans hgen))]
    exact hstays (.inr hjoin)
  all_goals rw [hn]
  · exact hbefore .table (by decide)
  · exact hbefore .cues (by decide)
  · exact hbefore .line (by decide)
  · rfl
  · rfl

/-- R95, R96: the marks that lead to another day's time or back. -/
theorem takeMark_jumps {s v : State} {held : Option Nat} {hop day sec : Nat} (hpos : Positioned hop s v)
    (htakes : v.node.state = .joining ∨ v.node.state = .running) (hsec : sec ≤ 86399) (hpending : s.time.setPending = false)
    (hkeys : s.table.Pairwise fun a b => a.key ≠ b.key) :
    let t := takeMark held day sec v
    (classifyMark s.time day sec = .dateJump → Flushed s t ∧
      (s.chain.position = some (hop + 1) → t.node = nodeAfterReports
        (.dateJump s.time.day s.time.second day sec :: s.cues.queue.map (Cue.dropReport .flushed)) s.node)) ∧
    (classifyMark s.time day sec = .setBack →
      t.table = s.table.map (decideRules s.bank sec) ∧ t.line = s.line ∧
      ((∀ n, (s.bank.rule n).template = none) →
        t.cues = { s.cues with queue := s.cues.queue.map fun c =>
          if c.state = .due then { c with retryHold := none } else c } ∧
        (s.chain.position = some (hop + 1) →
          t.node = nodeAfterReports [.clockStep .setBack (markStep s.time day sec)] s.node))) := by
  obtain ⟨hbefore, -, -, hstays⟩ := hpos
  have htable : v.table = s.table := hbefore .table (by decide)
  have hcues : v.cues = s.cues := hbefore .cues (by decide)
  have hline : v.line = s.line := hbefore .line (by decide)
  have htime : v.time = s.time := hbefore .time (by decide)
  have hbank : v.bank = s.bank := bank_of_touches hbefore (by decide)
  rw [← htime] at hpending
  intro t
  refine ⟨fun hclass => ?_, fun hclass => ?_⟩
  · have htaken : t = dateJump day sec v := takeMark_dateJump htakes hsec hpending (by rw [htime]; exact hclass)
    obtain ⟨⟨hempty, hqueue, hbroken⟩, hnode⟩ := dateJump_marks day sec v
    rw [← htaken] at hempty hqueue hbroken hnode
    rw [hline] at hbroken
    rw [htime, hcues] at hnode
    exact ⟨⟨hempty, hqueue, hbroken⟩, fun h => by rw [hnode, hstays (.inl h)]⟩
  · have htaken : t = setBack day sec v := takeMark_setBack htakes hsec hpending (by rw [htime]; exact hclass)
    obtain ⟨htab, hlin, hrest⟩ := setBack_marks day sec (s := v) (by rw [htable]; exact hkeys)
    rw [← htaken] at htab hlin hrest
    rw [htable, hbank] at htab
    rw [hbank, htime, hcues] at hrest
    exact ⟨htab, hlin.trans hline, fun hnone => ⟨(hrest hnone).1, fun h => by rw [(hrest hnone).2, hstays (.inl h)]⟩⟩

/-- R97, R98: the marks a little ahead. -/
theorem takeMark_steps {s v : State} {held : Option Nat} {hop day sec : Nat} (hpos : Positioned hop s v)
    (htakes : v.node.state = .joining ∨ v.node.state = .running) (hsec : sec ≤ 86399) (hpending : s.time.setPending = false)
    (hkeys : s.table.Pairwise fun a b => a.key ≠ b.key) {step : StepClass}
    (hclass : (step = .shortStep ∧ classifyMark s.time day sec = .shortStep) ∨
      (step = .longStep ∧ classifyMark s.time day sec = .longStep)) :
    let t := takeMark held day sec v
    let crosses := decide (dayDifference s.time.day day = 1)
    let new := stepSecond day sec s.time
    let kept := s.cues.queue.filter fun c => !skippedCue step s.time.second new c
    let q := steppedCues step s.time.second new crosses s.cues.queue
    t.table =
        ((if crosses then (s.table.filter fun r => decide (0 ≤ r.sm)).map lowerRecord else s.table).filter fun r =>
          decide (-(s.bank.params.grace : Int) * 60 < retirementRemaining r sec)).map (decideRules s.bank sec) ∧
      t.line = s.line ∧
      ((∀ n, (s.bank.rule n).template = none) →
        t.cues = { s.cues with queue := q.filter fun c => !(c.state == .due && (usableZones s.line c.zones).isEmpty) } ∧
        (s.chain.position = some (hop + 1) → s.node.watch = [] →
          t.node = nodeAfterReports
            (.clockStep step (markStep s.time day sec) ::
              ((s.cues.queue.filter (skippedCue step s.time.second new)).map (Cue.dropReport .skipped) ++
                (kept.filter (lateCue new)).map (Cue.dropReport .expired) ++
                (q.filter fun c => c.state == .due && (usableZones s.line c.zones).isEmpty).map (Cue.dropReport .noZone)))
            s.node)) := by
  obtain ⟨hbefore, -, -, hstays⟩ := hpos
  have htable : v.table = s.table := hbefore .table (by decide)
  have hcues : v.cues = s.cues := hbefore .cues (by decide)
  have hline : v.line = s.line := hbefore .line (by decide)
  have htime : v.time = s.time := hbefore .time (by decide)
  have hbank : v.bank = s.bank := bank_of_touches hbefore (by decide)
  rw [← htime] at hpending
  intro t crosses new kept q
  have htaken : t = forwardStep step day sec v := takeMark_forward htakes hsec hpending (by rw [htime]; exact hclass)
  obtain ⟨htab, hlin, hrest⟩ := forwardStep_marks step day sec v (by rw [htable]; exact hkeys)
  have hstepCues := stepped_cues step day sec v
  have hstepNode := stepped_node step day sec v
  rw [← htaken] at htab hlin hrest
  rw [keptTable_eq, htable, hbank, htime] at htab
  rw [hcues, hline, htime] at hstepCues hstepNode
  rw [hbank] at hrest
  refine ⟨htab, hlin.trans hline, fun hnone => ⟨(hrest hnone).1.trans hstepCues, fun h hwatch => ?_⟩⟩
  have hnode := hstays (.inl h)
  have hwatchV : v.node.watch = [] := by rw [hnode]; exact hwatch
  rw [(hrest hnone).2 hwatchV, hstepNode hwatchV, hnode]

/-- Settles O31: the header moves the position alone, the mark is taken by its class, and the grant follows. -/
theorem timeMarkSetsClock : Obligations.TimeMarkSetsClock := by
  intro s bs f day sec hok hstate hbreak hparse hmark hsec hmessages hhop hcycle
  refine ⟨_, congrArg Host.Outcome.next (receiveFrame_mark hstate hbreak hparse hmark hmessages hhop hcycle), ?_⟩
  have hday := (parseFrame_inRange hparse).day day sec hmark
  have hpos := positioned_takePosition hhop bs s
  have hmarkTouches := touches_takeMark (takePosition f.hop (forward bs s)) s.chain.position day sec
  generalize takePosition f.hop (forward bs s) = v at hpos hmarkTouches
  have hbefore := hpos.touches
  have htime : v.time = s.time := hbefore .time (by decide)
  have hbank : v.bank = s.bank := bank_of_touches hbefore (by decide)
  have htakes : v.node.state = .joining ∨ v.node.state = .running := by rwa [hpos.told.state]
  have hvok : v.timeOk := timeOk_of_touches hbefore hok (by decide)
  obtain ⟨hsecond, hdayNew, hclock, hnumber, hticks⟩ := takeMark_time (held := s.chain.position) htakes hsec hday hvok
  rw [htime] at hnumber hticks
  rw [hbank] at hclock
  have hfirst := takeMark_first (day := day) hpos htakes hsec
  have hjumps := takeMark_jumps (held := s.chain.position) (day := day) hpos htakes hsec
  have hsteps (hpending : s.time.setPending = false) (hkeys : s.table.Pairwise fun a b => a.key ≠ b.key) {step : StepClass} :=
    takeMark_steps (held := s.chain.position) (day := day) hpos htakes hsec hpending hkeys (step := step)
  have hnone (hpending : s.time.setPending = false) :=
    takeMark_none (held := s.chain.position) (day := day) htakes hsec (htime ▸ hpending)
  rw [htime] at hnone
  generalize takeMark s.chain.position day sec v = t at *
  refine ⟨hsecond, hdayNew, hclock, hnumber, hticks, (hmarkTouches .store (by decide)).trans (hbefore .store (by decide)),
    (hmarkTouches .ovr (by decide)).trans (hbefore .ovr (by decide)),
    (hmarkTouches .rows (by decide)).trans (hbefore .rows (by decide)), hfirst, fun hpending hkeys => ?_⟩
  refine ⟨fun hclass => ?_, (hjumps hpending hkeys).1, (hjumps hpending hkeys).2, fun step hclass => hsteps hpending hkeys hclass⟩
  rw [hnone hpending hclass]
  exact ⟨hbefore .table (by decide), hbefore .cues (by decide), hbefore .line (by decide), fun h => hpos.stays (.inl h)⟩

end Sys2Proof.Laws
end

section
/-! SUPPORT. A valid frame without a mark: position, cycle number and node state, and its messages (R82, R158 to R160, R174 to
R176). -/

namespace Sys2Proof.Laws

open Sys2Proof Sys2Proof.Machine

/-! ### One message (R160) -/

/-- R160: the one address that names this node. -/
theorem addressMode_iff {s : State} {address : Nat} {mode : AddrMode} :
    addressMode s address = some mode ↔ addressedAs s address mode := by
  unfold addressMode addressedAs
  split_ifs with h0 h1 h2 h3 h4 <;> cases mode <;> simp_all
  all_goals
    intro h
    omega

/-- R160: what a message whose command is `cmd` leaves where it is addressed to this node. -/
def Delivered (mode : AddrMode) (m : RawMessage) (s : State) (cmd : Option Instr) (t : State) : Prop :=
  (∀ c, cmd = some c → exec c s = .next t) ∧
    (cmd = none →
      t = { s with
        node :=
          if mode = .position ∧ (m.kind ∈ [0x18, 0x19, 0x20, 0x21, 0x22, 0x28, 0x29] ∨ s.node.state = .running) then
            nodeAfterReports
              [.badField m.kind (if m.kind ≤ 3 ∧ 2 ≤ m.body.length then some (u16At m.body 0) else none)] s.node
          else s.node })

section

variable {mode : AddrMode} {m : RawMessage} {s t : State}

theorem delivered_some {c : Instr} (h : exec c s = .next t) : Delivered mode m s (some c) t :=
  ⟨fun d hd => by cases hd; exact h, nofun⟩

theorem delivered_ite {p : Prop} [Decidable p] {c : Instr} {u r : State} (hsome : exec c s = .next u)
    (hnone : Delivered mode m s none r) : Delivered mode m s (if p then some c else none) (if p then u else r) := by
  split
  · exact delivered_some hsome
  · exact hnone

/-- R160: a body of another length is refused where the owner of its kind takes messages. -/
theorem delivered_refused {takes : Bool} {kind : Nat} {key : Option Nat} (hkind : m.kind = kind)
    (howned : takes = true ↔ (m.kind ∈ [0x18, 0x19, 0x20, 0x21, 0x22, 0x28, 0x29] ∨ s.node.state = .running))
    (hkey : key = if m.kind ≤ 3 ∧ 2 ≤ m.body.length then some (u16At m.body 0) else none) :
    Delivered mode m s none (lengthRefused takes mode kind key s) := by
  refine ⟨nofun, fun _ => ?_⟩
  rw [lengthRefused, reportIfPosition_eq, ← hkey, hkind]
  cases takes with
  | true =>
    have hown := howned.mp rfl
    simp only [hkind] at hown
    simp only [if_true, hown, and_true]
    rfl
  | false =>
    have hown := mt howned.mpr (by decide)
    simp only [hkind] at hown
    simp only [hown, and_false, if_false, Bool.false_eq_true]

end

/-! ### The kinds of message (R160) -/

/-- The kinds of message that have an owner. -/
def ownedKinds : List Nat := [0x01, 0x02, 0x03, 0x08, 0x10, 0x18, 0x19, 0x20, 0x21, 0x22, 0x28, 0x29]

theorem messageCommand_unknown {m : RawMessage} (h : m.kind ∉ ownedKinds) (mode : AddrMode) :
    messageCommand mode m = some (.unknownMessageKind mode m.kind) := by
  obtain ⟨kind, address, body⟩ := m
  unfold messageCommand
  dsimp only at h ⊢
  split
  case h_13 => rfl
  all_goals exact absurd (by decide) h

theorem deliver_unknown {kind : Nat} (h : kind ∉ ownedKinds) (held : Option Nat) (mode : AddrMode) (body : List Byte)
    (s : State) : deliver held mode kind body s = unknownKind mode kind s := by
  unfold deliver
  dsimp only
  split
  case h_13 => rfl
  all_goals exact absurd (by decide) h

/-- R170: a query of no kind, or of another length. -/
theorem deliverQuery_refused {body : List Byte} (hstate : byteAt body 0 = 0 → body.length = 1 → False)
    (hrecord : byteAt body 0 = 1 → body.length = 3 → False) (hcues : byteAt body 0 = 2 → body.length = 2 → False)
    (hzones : byteAt body 0 = 3 → body.length = 1 → False) (hcause : byteAt body 0 = 4 → body.length = 1 → False)
    (htrim : byteAt body 0 = 5 → body.length = 1 → False) (mode : AddrMode) (s : State) :
    deliverQuery mode body s = lengthRefused (takesMessages s) mode 0x28 none s := by
  unfold deliverQuery
  split
  next h0 h1 => exact (hstate h0 h1).elim
  next h0 h1 => exact (hrecord h0 h1).elim
  next h0 h1 => exact (hcues h0 h1).elim
  next h0 h1 => exact (hzones h0 h1).elim
  next h0 h1 => exact (hcause h0 h1).elim
  next h0 h1 => exact (htrim h0 h1).elim
  next => rfl

/-- R171: a control of no kind, or of another length. -/
theorem deliverControl_refused {body : List Byte} (hreset : byteAt body 0 = 0 → body.length = 1 → False)
    (hclear : byteAt body 0 = 1 → body.length = 3 → False) (hset : byteAt body 0 = 2 → body.length = 3 → False)
    (hwatch : byteAt body 0 = 3 → body.length = 1 → False) (mode : AddrMode) (s : State) :
    deliverControl mode body s = lengthRefused (takesMessages s) mode 0x29 none s := by
  unfold deliverControl
  split
  next h0 h1 => exact (hreset h0 h1).elim
  next h0 h1 => exact (hclear h0 h1).elim
  next h0 h1 => exact (hset h0 h1).elim
  next h0 h1 => exact (hwatch h0 h1).elim
  next => rfl

section

variable {mode : AddrMode} {s : State} (hmsg : takesMessages s = true) (address : Nat) (body : List Byte)

include hmsg

theorem delivered_query :
    Delivered mode ⟨0x28, address, body⟩ s (messageCommand mode ⟨0x28, address, body⟩) (deliverQuery mode body s) := by
  have answered {c : Instr} {t : State} (hq : deliverQuery mode body s = t) (h : exec c s = .next t) :
      Delivered mode ⟨0x28, address, body⟩ s (some c) (deliverQuery mode body s) := hq ▸ delivered_some h
  simp only [messageCommand]
  split
  case h_7 hstate hrecord hcues hzones hcause htrim =>
    rw [deliverQuery_refused hstate hrecord hcues hzones hcause htrim]
    exact delivered_refused rfl (by simp [hmsg]) (by simp)
  all_goals
    rename_i h0 h1
    exact answered (by simp only [deliverQuery, h0, h1]) rfl

theorem delivered_control :
    Delivered mode ⟨0x29, address, body⟩ s (messageCommand mode ⟨0x29, address, body⟩) (deliverControl mode body s) := by
  have controlled {c : Instr} {t : State} (hq : deliverControl mode body s = t) (h : exec c s = .next t) :
      Delivered mode ⟨0x29, address, body⟩ s (some c) (deliverControl mode body s) := hq ▸ delivered_some h
  simp only [messageCommand]
  split
  case h_5 hreset hclear hset hwatch =>
    rw [deliverControl_refused hreset hclear hset hwatch]
    exact delivered_refused rfl (by simp [hmsg]) (by simp)
  all_goals
    rename_i h0 h1
    exact controlled (by simp only [deliverControl, h0, h1]) rfl

end

/-- R158, R160: a message handed to the owner of its kind is the command it spells. -/
theorem delivered_deliver {held : Option Nat} {mode : AddrMode} {m : RawMessage} {s : State}
    (htakes : s.node.state = .joining ∨ s.node.state = .running) (hheld : s.chain.position = held) :
    Delivered mode m s (messageCommand mode m) (deliver held mode m.kind m.body s) := by
  have hrun : (s.node.state == .running) = true ↔ s.node.state = .running := beq_iff_eq
  have hmsg : takesMessages s = true := takesMessages_iff.mpr htakes
  subst hheld
  by_cases hkind : m.kind ∈ ownedKinds
  · obtain ⟨kind, address, body⟩ := m
    simp only [ownedKinds, List.mem_cons, List.not_mem_nil, or_false] at hkind
    rcases hkind with rfl | rfl | rfl | rfl | rfl | rfl | rfl | rfl | rfl | rfl | rfl | rfl
    case inr.inr.inr.inr.inr.inr.inr.inr.inr.inr.inl => exact delivered_query hmsg address body
    case inr.inr.inr.inr.inr.inr.inr.inr.inr.inr.inr => exact delivered_control hmsg address body
    all_goals simp only [messageCommand, deliver]
    · cases parsePost body with
      | some b => exact delivered_some rfl
      | none => exact delivered_refused rfl (by simp) (by simp [bodyKey])
    · cases parseAmend body with
      | some b => exact delivered_some rfl
      | none => exact delivered_refused rfl (by simp) (by simp [bodyKey])
    · exact delivered_ite rfl (delivered_refused rfl (by simp) (by simp [bodyKey]))
    · cases parseNotice body with
      | some b => exact delivered_some rfl
      | none => exact delivered_refused rfl (by simp) (by simp)
    · cases parseCuePost body with
      | some b => exact delivered_some rfl
      | none => exact delivered_refused rfl (by simp) (by simp)
    · cases parseOverride body with
      | some b => exact delivered_some rfl
      | none => exact delivered_refused rfl (by simp [hmsg]) (by simp)
    all_goals exact delivered_ite rfl (delivered_refused rfl (by simp [hmsg]) (by simp))
  · rw [messageCommand_unknown hkind, deliver_unknown hkind]
    exact delivered_some rfl

/-- R160: one message of a frame, in whatever state. -/
theorem messageTaken_deliverMessage {held : Option Nat} {s : State} (hheld : s.chain.position = held) (m : RawMessage) :
    MessageTaken m s (deliverMessage held m s) := by
  constructor
  · intro hover
    unfold deliverMessage
    split
    next htakes =>
      have hnone : addressMode s m.address = none := by
        rw [Option.eq_none_iff_forall_ne_some]
        exact fun mode hmode => hover.resolve_left (not_not_intro (takesMessages_iff.mp htakes)) mode (addressMode_iff.mp hmode)
      rw [hnone]
    next => rfl
  · intro mode htakes haddressed
    have hsome : deliverMessage held m s = deliver held mode m.kind m.body s := by
      rw [deliverMessage, if_pos (takesMessages_iff.mpr htakes), addressMode_iff.mpr haddressed]
    rw [hsome]
    exact delivered_deliver htakes hheld

/-- No message changes the position: a reset alone reaches the chain interface, and keeps it. -/
theorem deliverMessage_position (held : Option Nat) (m : RawMessage) (s : State) :
    (deliverMessage held m s).chain.position = s.chain.position := by
  have hreset : (commandReset s).chain.position = s.chain.position := by
    unfold commandReset
    split
    · rw [resetNode_eq]
      rfl
    · rfl
  have hcontrol (mode : AddrMode) (bs : List Byte) : (deliverControl mode bs s).chain.position = s.chain.position := by
    unfold deliverControl
    split
    · exact hreset
    · exact congrArg Chain.position (touches_clearAttention s _ _ .chain (by decide))
    · exact congrArg Chain.position (touches_watchSet s _ _ .chain (by decide))
    · exact congrArg Chain.position (touches_watchClear s .chain (by decide))
    · exact congrArg Chain.position (touches_lengthRefused s _ _ _ _ .chain (by decide))
  have elsewhere {bs : List Block} {t : State} (ht : Touches bs s t) (hbs : bs.contains .chain = false) :
      t.chain.position = s.chain.position := congrArg Chain.position (ht .chain (by simpa using hbs))
  have refused (takes : Bool) (mode : AddrMode) (kind : Nat) (key : Option Nat) :
      (lengthRefused takes mode kind key s).chain.position = s.chain.position :=
    elsewhere (touches_lengthRefused s _ _ _ _) (by decide)
  unfold deliverMessage
  split
  · split
    · rfl
    next mode hmode =>
      unfold deliver
      dsimp only
      split
      · cases parsePost m.body with
        | some b => exact elsewhere (touches_servicePost s _ _) (by decide)
        | none => exact refused _ _ _ _
      · cases parseAmend m.body with
        | some b => exact elsewhere (touches_serviceAmend s _ _) (by decide)
        | none => exact refused _ _ _ _
      · exact elsewhere (touches_ite (touches_serviceWithdraw s _ _) ((touches_lengthRefused s _ _ _ _).mono (by decide)))
          (by decide)
      · cases parseNotice m.body with
        | some b => exact elsewhere (touches_noticeSet s _ _) (by decide)
        | none => exact refused _ _ _ _
      · cases parseCuePost m.body with
        | some b => exact elsewhere (touches_cuePost s _ _) (by decide)
        | none => exact refused _ _ _ _
      · cases parseOverride m.body with
        | some b => exact elsewhere (touches_overrideSet s _ _) (by decide)
        | none => exact refused _ _ _ _
      · exact elsewhere (touches_ite (touches_overrideClear s _ _) ((touches_lengthRefused s _ _ _ _).mono (by decide)))
          (by decide)
      · exact elsewhere (touches_ite (touches_tableWrite s _ _ _ _) ((touches_lengthRefused s _ _ _ _).mono (by decide)))
          (by decide)
      · exact elsewhere (touches_ite ((touches_tableCopy s).mono (by decide) : Touches [.store, .node] s _)
          ((touches_lengthRefused s _ _ _ _).mono (by decide))) (by decide)
      · exact elsewhere (touches_ite (touches_tableCommit s _ _ _ _) ((touches_lengthRefused s _ _ _ _).mono (by decide)))
          (by decide)
      · exact elsewhere (touches_deliverQuery s _ _) (by decide)
      · exact hcontrol _ _
      · exact elsewhere (touches_unknownKind s _ _) (by decide)
  · rfl

/-- The messages of a frame in their order. -/
theorem messagesTaken_foldl {held : Option Nat} (ms : List RawMessage) {s : State} (hheld : s.chain.position = held) :
    MessagesTaken ms s (ms.foldl (fun st m => deliverMessage held m st) s) := by
  induction ms generalizing s with
  | nil => rfl
  | cons m ms ih =>
    exact ⟨deliverMessage held m s, messageTaken_deliverMessage hheld m, ih ((deliverMessage_position held m s).trans hheld)⟩

/-! ### The cycle number of a header (R82) -/

theorem calm_secondTick {s : State} (h : s.node.state ≠ .holdover) : Calm s (secondTick s) := by
  have hblocks : Calm s (blocksTicked s) := by
    have hstart : Calm s (countFree (advanceSecond s)) := by
      have hclock : Calm s (s.setTime s.time.tickSecond) := .of_touches (touches_setTime s _) (by decide)
      exact (Calm.ite (hclock.trans (calm_lowerCues _)) hclock).trans (.of_touches (touches_countFree _) (by decide))
    refine List.foldlRecOn (motive := fun (u : State) => Calm s u) _ _ hstart fun u hu w hw => hu.trans (calm_tickWork ?_ u)
    rintro rfl
    rcases blockOrder_cases s.free s.time.turnsDay with h | h | h <;> rw [h] at hw <;> simp at hw
  rw [secondTick_eq, holdTick_elsewhere (by rw [hblocks.told.state]; exact h)]
  exact hblocks

section

variable (n : Nat) (s : State)

theorem correctCycle_time :
    (correctCycle n s).time.cycle = n ∧ (correctCycle n s).time.setPending = s.time.setPending := by
  unfold correctCycle
  split
  next h => exact ⟨h.symm, rfl⟩
  next =>
    dsimp only
    split
    · obtain ⟨w, htime⟩ := secondTick_time (takeCycle n s)
      change (secondTick (takeCycle n s)).time.cycle = n ∧ (secondTick (takeCycle n s)).time.setPending = s.time.setPending
      rw [htime]
      exact ⟨rfl, rfl⟩
    · exact ⟨rfl, rfl⟩

theorem calm_correctCycle (h : s.node.state ≠ .holdover) : Calm s (correctCycle n s) := by
  have hset : Calm s (takeCycle n s) := .of_touches (touches_takeCycle s n) (by decide)
  rcases correctCycle_cases n s with heq | heq | heq <;> rw [heq]
  · exact .refl s
  · exact hset
  · exact hset.trans (calm_secondTick h)

end

end Sys2Proof.Laws
end

section
/-! SUPPORT. The node state a valid frame leads to (R158, R159, R174 to R176, 11.5). -/

namespace Sys2Proof.Laws

open Sys2Proof Sys2Proof.Machine

theorem changeState_holdover (new : NodeState) (old : Option Nat) (s : State) :
    (changeState new old s).node.holdover = s.node.holdover := by
  rw [changeState, queueReport_eq, State.setNode_node, nodeAfterReports_holdover]
  split <;> rfl

/-- R174: the entry to JOINING raises the set-pending flag, which no report or window touches. -/
theorem enterJoining_enters (held : Option Nat) (s : State) :
    (enterJoining held s).node.state = .joining ∧ (enterJoining held s).time.setPending = true := by
  refine ⟨changeState_state _ _ _, ?_⟩
  obtain ⟨w, htime⟩ := changeState_time .joining held (s.setTime { s.time with setPending := true })
  rw [enterJoining, htime]
  rfl

/-- R176: the entry to POSITION FAULT empties table and queue. -/
theorem enterPositionFault_enters (held : Option Nat) (s : State) :
    (enterPositionFault held s).node.state = .positionFault ∧ (enterPositionFault held s).table = [] ∧
      (enterPositionFault held s).cues.queue = [] := by
  have hstate (u : State) : (flushNode u).node.state = u.node.state := by
    rw [flushNode_eq]
    exact nodeAfterReports_state _ _
  unfold enterPositionFault
  dsimp only
  obtain ⟨htable, hcues, -⟩ := flushNode_flushed (if s.node.state = .running ∨ s.node.state = .holdover then
    (changeState .positionFault held s).setNode { (changeState .positionFault held s).node with holdover := 0 }
    else changeState .positionFault held s)
  refine ⟨?_, htable, hcues⟩
  rw [hstate]
  split
  · exact changeState_state .positionFault held s
  · exact changeState_state .positionFault held s

/-- R158, R159: a header without a mark, before the grant. -/
def headerState (f : ParsedFrame) (s : State) : State := nodeFrame s.chain.position (takePosition f.hop s)

section

variable {f : ParsedFrame} {s : State}

theorem takeHeader_unmarked (hmark : f.mark = none) :
    takeHeader f s =
      State.setChain (correctCycle f.cycle (headerState f s))
        { (correctCycle f.cycle (headerState f s)).chain with grant := f.grant } := by
  unfold takeHeader
  rw [hmark]
  rfl

theorem takePosition_chain (hop : Nat) (s : State) :
    (takePosition hop s).chain = { s.chain with hopCount := some hop, position := some (hop + 1) } := by
  unfold takePosition
  dsimp only
  split_ifs
  · rfl
  · exact touches_enterPositionFault _ _ .chain (by decide)
  · rw [queueReport_eq]
    rfl
  · rfl

theorem headerState_chain (f : ParsedFrame) (s : State) :
    (headerState f s).chain = { s.chain with hopCount := some f.hop, position := some (f.hop + 1) } :=
  (touches_nodeFrame _ _ .chain (by decide)).trans (takePosition_chain f.hop s)

theorem touches_headerState (f : ParsedFrame) (s : State) :
    Touches [.chain, .table, .cues, .line, .time, .node] s (headerState f s) :=
  (touches_takePosition s _).trans ((touches_nodeFrame _ _).mono (by decide))

theorem headerState_cycle (f : ParsedFrame) (s : State) : (headerState f s).time.cycle = s.time.cycle := by
  obtain ⟨⟨_, _, _, _, _, htime⟩, -⟩ :=
    (sameClockwork_takePosition f.hop s).trans (sameClockwork_nodeFrame s.chain.position (takePosition f.hop s))
  rw [headerState, htime]

/-- R176: a position above 48 leads to POSITION FAULT, with table and queue emptied at the entry. -/
theorem headerState_fault (hhop : 48 < f.hop + 1) :
    (headerState f s).node.state = .positionFault ∧
      (s.node.state ≠ .positionFault → (headerState f s).table = [] ∧ (headerState f s).cues.queue = []) := by
  obtain ⟨u, hu⟩ : ∃ u, u = takePosition f.hop s := ⟨_, rfl⟩
  have hposition : u.chain.position = some (f.hop + 1) := by rw [hu, takePosition_chain]
  have hfault : u.node.state = .positionFault ∧ (s.node.state ≠ .positionFault → u.table = [] ∧ u.cues.queue = []) := by
    rw [hu, takePosition]
    dsimp only
    rw [if_pos hhop]
    split
    next h => exact ⟨h, fun hnot => absurd h hnot⟩
    next =>
      obtain ⟨hstate, hempty⟩ := enterPositionFault_enters s.chain.position
        (s.setChain { s.chain with hopCount := some f.hop, position := some (f.hop + 1) })
      exact ⟨hstate, fun _ => hempty⟩
  have hsame : headerState f s = u := by
    rw [headerState, ← hu, nodeFrame, hfault.1]
    dsimp only
    rw [hposition, if_neg]
    simp only [Option.any_some, decide_eq_true_eq]
    omega
  rw [hsame]
  exact hfault

theorem takePosition_told (hhop : f.hop + 1 ≤ 48) : Told s (takePosition f.hop s) := by
  rw [takePosition_eq hhop]
  exact ⟨_, rfl⟩

/-- R174 to R176: a position within 48 takes a node that waits to JOINING, and one in HOLDOVER back to RUNNING. -/
theorem headerState_joins (hhop : f.hop + 1 ≤ 48) :
    (s.node.state = .awaitChain ∨ s.node.state = .isolated ∨ s.node.state = .positionFault →
      (headerState f s).node.state = .joining ∧ (headerState f s).time.setPending = true) ∧
    (s.node.state = .holdover → (headerState f s).node.state = .running ∧ (headerState f s).node.holdover = 0) ∧
    (s.node.state = .running → (headerState f s).node.state = .running) ∧
    (s.node.state = .joining → (headerState f s).node.state = .joining) := by
  have hstate := (takePosition_told (s := s) hhop).state
  have hposition : (takePosition f.hop s).chain.position = some (f.hop + 1) := by rw [takePosition_chain]
  unfold headerState
  generalize takePosition f.hop s = u at hstate hposition
  have hin : (u.chain.position.any fun p => decide (p ≤ 48)) = true := by
    rw [hposition]
    simpa using hhop
  refine ⟨fun h => ?_, fun h => ?_, fun h => ?_, fun h => ?_⟩
  · rcases h with h | h | h
    all_goals
      rw [nodeFrame, hstate, h]
      dsimp only
    · exact enterJoining_enters _ u
    · exact enterJoining_enters _ u
    · rw [if_pos hin]
      exact enterJoining_enters _ u
  · rw [nodeFrame, hstate, h]
    exact ⟨changeState_state _ _ _, changeState_holdover _ _ _⟩
  · rw [nodeFrame_of_takes (.inr (hstate.trans h))]
    exact hstate.trans h
  · rw [nodeFrame_of_takes (.inl (hstate.trans h))]
    exact hstate.trans h

/-- R100: no frame leaves its node in HOLDOVER. -/
theorem headerState_not_holdover (hup : s.node.state ≠ .powerUp) : (headerState f s).node.state ≠ .holdover := by
  by_cases hhop : 48 < f.hop + 1
  · rw [(headerState_fault hhop).1]
    decide
  · obtain ⟨hwait, hhold, hrun, hjoin⟩ := headerState_joins (s := s) (Nat.not_lt.mp hhop)
    have hreached {st : NodeState} (h : (headerState f s).node.state = st) (hne : st ≠ .holdover) :
        (headerState f s).node.state ≠ .holdover := h ▸ hne
    cases hstate : s.node.state with
    | powerUp => exact absurd hstate hup
    | awaitChain => exact hreached (hwait (.inl hstate)).1 (by decide)
    | isolated => exact hreached (hwait (.inr (.inl hstate))).1 (by decide)
    | positionFault => exact hreached (hwait (.inr (.inr hstate))).1 (by decide)
    | holdover => exact hreached (hhold hstate).1 (by decide)
    | running => exact hreached (hrun hstate) (by decide)
    | joining => exact hreached (hjoin hstate) (by decide)

end

/-- A valid frame is forwarded and taken. -/
theorem receiveFrame_valid {s : State} {bs : List Byte} {f : ParsedFrame} (hup : s.node.state ≠ .powerUp)
    (hbreak : s.chain.upBreak = false) (hparse : parseFrame bs = some f) :
    receiveFrame bs s = takeFrame f (forward bs s) := by
  rw [receiveFrame, if_neg (not_or.mpr ⟨hup, by rw [hbreak]; decide⟩), hparse]

/-- Settles O33: the header's state carries the claims through the cycle correction, which is calm outside HOLDOVER; the
messages follow in their order. -/
theorem validFrameGivesPositionAndState : Obligations.ValidFrameGivesPositionAndState := by
  intro s bs f hup hbreak hparse hmark
  refine ⟨fun hmessages => ?_, fun hstate hposition hhop hcycle => ?_⟩
  · obtain ⟨v, hv⟩ : ∃ v, v = headerState f (forward bs s) := ⟨_, rfl⟩
    have htaken : receiveFrame bs s =
        State.setChain (correctCycle f.cycle v) { (correctCycle f.cycle v).chain with grant := f.grant } := by
      rw [receiveFrame_valid hup hbreak hparse, takeFrame, hmessages, List.foldl_nil, takeHeader_unmarked hmark, ← hv]
    have hchain : (correctCycle f.cycle v).chain =
        { s.chain with hopCount := some f.hop, position := some (f.hop + 1) } := by
      rw [hv]
      exact (touches_correctCycle _ _ .chain (by decide)).trans (headerState_chain f (forward bs s))
    have hheader := touches_headerState f (forward bs s)
    have hports : (correctCycle f.cycle v).ports = (forward bs s).ports := by
      rw [hv]
      exact (touches_correctCycle _ _ .ports (by decide)).trans (hheader .ports (by decide))
    have hrows : v.rows = s.rows := by
      rw [hv]
      exact hheader .rows (by decide)
    have hnumber : v.time.cycle = s.time.cycle := by
      rw [hv]
      exact headerState_cycle f (forward bs s)
    have hcalm := calm_correctCycle f.cycle v (by rw [hv]; exact headerState_not_holdover hup)
    obtain ⟨hcycle, hpending⟩ := correctCycle_time f.cycle v
    have hcorrected := correctCycle_rows v f.cycle
    have hdue : (f.cycle == 32 && decide (f.cycle < s.time.cycle)) = decide (f.cycle = 32 ∧ 32 < s.time.cycle) := by
      by_cases h32 : f.cycle = 32 <;> simp [h32]
    rw [hnumber, hrows, hdue] at hcorrected
    refine ⟨_, congrArg Host.Outcome.next htaken, ?_⟩
    rw [State.setChain_chain, State.setChain_time, State.setChain_ports, State.setChain_rows, State.setChain_node,
      State.setChain_table, State.setChain_cues, hchain, hports, hcycle, hpending, hcorrected, hcalm.told.state,
      hcalm.told.holdover]
    refine ⟨rfl, rfl, rfl, rfl, rfl, fun h => if_pos h, fun h => if_neg h, fun hhop => ?_, fun hhop => ?_⟩
    · have hfault := headerState_fault (s := forward bs s) hhop
      rw [← hv] at hfault
      have hnotRunning : v.node.state ≠ .running := by rw [hfault.1]; decide
      exact ⟨hfault.1, fun hnot =>
        ⟨hcalm.table hnotRunning (hfault.2 hnot).1, hcalm.cues hnotRunning (hfault.2 hnot).2⟩⟩
    · have hjoins := headerState_joins (s := forward bs s) hhop
      rw [← hv] at hjoins
      exact hjoins
  · have hheader : takeHeader f (forward bs s) =
        { s with
          chain := { s.chain with hopCount := some f.hop, grant := f.grant }
          ports := { s.ports with down := forwardFrame s.chain.position bs } } := by
      have hpos : takePosition f.hop (forward bs s) = (forward bs s).setChain { s.chain with hopCount := some f.hop } := by
        rw [takePosition_eq hhop, if_neg (fun h => h.1 hposition), ← hposition]
        rfl
      have hstays : headerState f (forward bs s) = (forward bs s).setChain { s.chain with hopCount := some f.hop } := by
        rw [headerState, hpos]
        exact nodeFrame_of_takes (s := (forward bs s).setChain _) hstate _
      have hsame : correctCycle f.cycle ((forward bs s).setChain { s.chain with hopCount := some f.hop }) =
          (forward bs s).setChain { s.chain with hopCount := some f.hop } := if_pos hcycle
      rw [takeHeader_unmarked hmark, hstays, hsame]
      rfl
    refine ⟨_, congrArg Host.Outcome.next (receiveFrame_valid hup hbreak hparse), ?_⟩
    rw [takeFrame, hheader]
    exact messagesTaken_foldl f.messages rfl

end Sys2Proof.Laws
end

section
/-! SUPPORT. The cues on the line, by id, mask and state: all that the zones and the line know of the cue queue. What most
operations on cues leave alone is just this. -/

namespace Sys2Proof.Laws

open Sys2Proof Sys2Proof.Machine

/-! ### Who is on the line -/

/-- The cues that are on the line, by id, mask and state. -/
abbrev Bearing := Nat → BitVec 8 → CueState → Prop

/-- The cues of a queue that are on the line. -/
def Bears (q : List Cue) : Bearing := fun i z st => ∃ c ∈ q, c.onLine = true ∧ c.id = i ∧ c.zones = z ∧ c.state = st

theorem bears_filter {p : Cue → Bool} {q : List Cue} (h : ∀ c ∈ q, c.onLine = true → p c = true) :
    Bears (q.filter p) = Bears q := by
  funext i z st
  refine propext ⟨fun ⟨c, hc, hline, hrest⟩ => ⟨c, List.mem_of_mem_filter hc, hline, hrest⟩, fun ⟨c, hc, hline, hrest⟩ =>
    ⟨c, List.mem_filter.mpr ⟨hc, h c hc hline⟩, hline, hrest⟩⟩

/-- A change of cues that moves none on or off the line, and none of those on it. -/
structure Unmoved (f : Cue → Cue) (c : Cue) : Prop where
  onLine : (f c).onLine = c.onLine
  rest : c.onLine = true → (f c).id = c.id ∧ (f c).zones = c.zones ∧ (f c).state = c.state

theorem unmoved_of_fields {f : Cue → Cue} (hid : ∀ c, (f c).id = c.id) (hz : ∀ c, (f c).zones = c.zones)
    (hst : ∀ c, (f c).state = c.state) (c : Cue) : Unmoved f c :=
  ⟨by rw [Cue.onLine, Cue.onLine, hst], fun _ => ⟨hid c, hz c, hst c⟩⟩

/-- A change that keeps a cue off the line there. -/
theorem unmoved_of_offLine {f : Cue → Cue} {c : Cue} (hc : c.onLine = false) (hf : (f c).onLine = false) : Unmoved f c :=
  ⟨hf.trans hc.symm, fun h => absurd (hc.symm.trans h) Bool.false_ne_true⟩

theorem bears_map {f : Cue → Cue} {q : List Cue} (h : ∀ c ∈ q, Unmoved f c) : Bears (q.map f) = Bears q := by
  funext i z st
  refine propext ⟨?_, ?_⟩
  · rintro ⟨_, hmem, hline, hrest⟩
    obtain ⟨c, hc, rfl⟩ := List.mem_map.mp hmem
    rw [(h c hc).onLine] at hline
    obtain ⟨hid, hz, hst⟩ := (h c hc).rest hline
    exact ⟨c, hc, hline, hid ▸ hrest.1, hz ▸ hrest.2.1, hst ▸ hrest.2.2⟩
  · rintro ⟨c, hc, hline, hrest⟩
    obtain ⟨hid, hz, hst⟩ := (h c hc).rest hline
    exact ⟨f c, List.mem_map_of_mem hc, (h c hc).onLine.trans hline, hid.trans hrest.1, hz.trans hrest.2.1,
      hst.trans hrest.2.2⟩

theorem bears_insertCue {c : Cue} {q : List Cue} (h : c.onLine = false) : Bears (insertCue c q) = Bears q := by
  funext i z st
  refine propext ⟨?_, fun ⟨x, hx, hrest⟩ => ⟨x, mem_insertCue.mpr (.inr hx), hrest⟩⟩
  rintro ⟨x, hx, hline, hrest⟩
  rcases mem_insertCue.mp hx with rfl | hx
  · exact absurd (h.symm.trans hline) Bool.false_ne_true
  · exact ⟨x, hx, hline, hrest⟩

theorem onLine_iff {c : Cue} : c.onLine = true ↔ c.state = .offered ∨ c.state = .playing := by simp [Cue.onLine]

theorem onLine_of_waits {c : Cue} (h : c.waits = true) : c.onLine = false := by
  cases hs : c.state <;> simp [Cue.waits, Cue.onLine, hs] at h ⊢

theorem bears_state {q : List Cue} {i : Nat} {z : BitVec 8} {st : CueState} (h : Bears q i z st) :
    st = .offered ∨ st = .playing := by
  obtain ⟨c, -, hline, -, -, rfl⟩ := h
  exact onLine_iff.mp hline

/-! ### Ids -/

/-- R109: what a queue needs for its ids to stay unique. -/
structure CueIds (s : State) : Prop where
  size : s.cues.queue.length ≤ 32
  ids : s.cues.queue.Pairwise fun a b => a.id < b.id
  nextId : s.cues.nextId < 256

theorem cueIds_of_cuesOk {s : State} (h : s.cuesOk) : CueIds s := ⟨h.size, h.ids, h.nextId⟩

theorem cueIds_of_cues {s t : State} (h : t.cues = s.cues) (hs : CueIds s) : CueIds t :=
  ⟨h ▸ hs.size, h ▸ hs.ids, h ▸ hs.nextId⟩

theorem cueIds_of_sublist {s t : State} (hq : t.cues.queue.Sublist s.cues.queue) (hn : t.cues.nextId = s.cues.nextId)
    (hs : CueIds s) : CueIds t := ⟨hq.length_le.trans hs.size, hs.ids.sublist hq, hn ▸ hs.nextId⟩

theorem cueIds_of_map {s t : State} {f : Cue → Cue} (hq : t.cues.queue = s.cues.queue.map f)
    (hn : t.cues.nextId = s.cues.nextId) (hid : ∀ c, (f c).id = c.id) (hs : CueIds s) : CueIds t := by
  refine ⟨?_, ?_, hn ▸ hs.nextId⟩
  · rw [hq, List.length_map]
    exact hs.size
  · rw [hq]
    exact hs.ids.map f fun a b hab => by rwa [hid, hid]

theorem CueIds.eq {s : State} (hs : CueIds s) {a b : Cue} (ha : a ∈ s.cues.queue) (hb : b ∈ s.cues.queue)
    (hid : a.id = b.id) : a = b :=
  List.inj_on_of_nodup_map (f := Cue.id) (List.pairwise_map.mpr (hs.ids.imp fun hlt => Nat.ne_of_lt hlt)) ha hb hid

/-- One cue alone bears an id. -/
theorem bears_unique {s : State} (hs : CueIds s) {i : Nat} {z z' : BitVec 8} {st st' : CueState}
    (h : Bears s.cues.queue i z st) (h' : Bears s.cues.queue i z' st') : z = z' ∧ st = st' := by
  obtain ⟨c, hc, -, hci, rfl, rfl⟩ := h
  obtain ⟨d, hd, -, hdi, rfl, rfl⟩ := h'
  rw [hs.eq hc hd (hci.trans hdi.symm)]
  exact ⟨rfl, rfl⟩

/-! ### Operations that leave the line's cues alone -/

/-- `t` has the cues of `s` on the line. -/
def Rests (s t : State) : Prop := CueIds s → CueIds t ∧ Bears t.cues.queue = Bears s.cues.queue

section

variable {s t u : State}

theorem Rests.of_cues (h : t.cues = s.cues) : Rests s t := fun hs => ⟨cueIds_of_cues h hs, by rw [h]⟩

theorem Rests.refl (s : State) : Rests s s := .of_cues rfl

theorem Rests.of_touches {bs : List Block} (h : Touches bs s t) (hbs : bs.contains .cues = false) : Rests s t :=
  .of_cues (h .cues (by simpa using hbs))

theorem Rests.trans (h : Rests s t) (k : Rests t u) : Rests s u := fun hs =>
  ⟨(k (h hs).1).1, (k (h hs).1).2.trans (h hs).2⟩

theorem Rests.ite {p : Prop} [Decidable p] (h : Rests s t) (k : Rests s u) : Rests s (if p then t else u) := by
  split <;> assumption

theorem Rests.of_map {f : Cue → Cue} (hq : t.cues.queue = s.cues.queue.map f) (hn : t.cues.nextId = s.cues.nextId)
    (hid : ∀ c, (f c).id = c.id) (h : CueIds s → ∀ c ∈ s.cues.queue, Unmoved f c) : Rests s t := fun hs =>
  ⟨cueIds_of_map hq hn hid hs, by rw [hq, bears_map (h hs)]⟩

theorem rests_foldl {α : Type} {f : State → α → State} (hf : ∀ s x, Rests s (f s x)) :
    ∀ (l : List α) (s : State), Rests s (l.foldl f s)
  | [], s => .refl s
  | x :: l, s => (hf s x).trans (rests_foldl hf l (f s x))

end

variable (s : State)

theorem dropCues_cues (p : Cue → Bool) (reason : DropReason) :
    (dropCues p reason s).cues.queue = s.cues.queue.filter (fun c => !p c) ∧
      (dropCues p reason s).cues.nextId = s.cues.nextId := by
  rw [dropCues_eq]
  exact ⟨rfl, rfl⟩

theorem rests_dropCues {p : Cue → Bool} (reason : DropReason)
    (h : CueIds s → ∀ c ∈ s.cues.queue, c.onLine = true → p c = false) : Rests s (dropCues p reason s) := fun hs => by
  obtain ⟨hq, hn⟩ := dropCues_cues s p reason
  refine ⟨cueIds_of_sublist (hq ▸ List.filter_sublist) hn hs, ?_⟩
  rw [hq]
  exact bears_filter fun c hc hline => by rw [h hs c hc hline, Bool.not_false]

/-- A drop of cues that wait. -/
theorem rests_dropWaiting {p : Cue → Bool} (reason : DropReason) (h : ∀ c, p c = true → c.waits = true) :
    Rests s (dropCues p reason s) :=
  rests_dropCues s reason fun _ c _ hline => Bool.eq_false_iff.mpr fun hp =>
    absurd ((onLine_of_waits (h c hp)).symm.trans hline) Bool.false_ne_true

theorem waits_of_state {c : Cue} (h : c.state = .waiting ∨ c.state = .due) : c.waits = true := by simpa [Cue.waits] using h

theorem rests_noZoneCheck : Rests s (noZoneCheck s) :=
  rests_dropWaiting s _ fun c h => waits_of_state (.inr (by simpa using (Bool.and_eq_true_iff.mp h).1))

/-- A drop by the id of a cue that waits. -/
theorem rests_dropId {x : Cue} (hx : x ∈ s.cues.queue) (hwaits : x.waits = true) (reason : DropReason) :
    Rests s (dropCues (fun c => c.id == x.id) reason s) :=
  rests_dropCues s reason fun hs c hc hline => by
    refine Bool.eq_false_iff.mpr fun hid => ?_
    rw [hs.eq hc hx (by simpa using hid)] at hline
    exact absurd ((onLine_of_waits hwaits).symm.trans hline) Bool.false_ne_true

/-! ### Admission (R109 to R114) -/

/-- A cue that is not on the line joins a queue with room. -/
theorem rests_addCue {c : Cue} {s t : State} (hc : c.onLine = false) (hst : Rests s t)
    (hroom : CueIds s → t.cues.queue.length < 32) : Rests s (addCue c t) := fun hs => by
  obtain ⟨ht, hbears⟩ := hst hs
  obtain ⟨-, hfree⟩ := nextCueId_fresh ht.size ht.nextId
  refine ⟨⟨?_, insertCue_sorted ht.ids hfree, Nat.mod_lt _ (by decide)⟩,
    (bears_insertCue (c := { c with id := nextCueId t }) hc).trans hbears⟩
  exact (insertCue_perm _ t.cues.queue).length_eq.trans_le (hroom hs)

theorem rests_queueReport (r : Report) : Rests s (queueReport r s) := .of_touches (touches_queueReport s r) (by decide)

theorem rests_reportIfPosition (mode : AddrMode) (r : Report) : Rests s (reportIfPosition mode r s) :=
  .of_touches (touches_reportIfPosition s mode r) (by decide)

theorem rests_watchReport (ev : WatchEvent) (r : ServiceRecord) : Rests s (watchReport ev r s) :=
  .of_touches (touches_watchReport s ev r) (by decide)

theorem rests_placeCue {c : Cue} (hc : c.onLine = false) : Rests s (placeCue c s) := by
  unfold placeCue
  split
  next hroom => exact rests_addCue hc (.refl s) fun _ => hroom
  next =>
    split
    next => exact rests_queueReport s _
    next v hv =>
      obtain ⟨hmem, hwaits⟩ := List.mem_filter.mp (pickFirst_mem hv)
      refine .ite (rests_addCue hc (rests_dropId s hmem hwaits _) fun hs => ?_) (rests_queueReport s _)
      rw [(dropCues_cues s _ _).1]
      exact lt_of_lt_of_le (List.length_filter_lt_length_iff_exists.mpr ⟨v, hmem, by simp⟩) hs.size

theorem takeContent_offLine (sec : Nat) (new old : Cue) : (takeContent sec new old).onLine = false :=
  (firstState_offLine new.release sec _ rfl).1

/-- R111: content taken over by a cue that waits. -/
theorem rests_updateWaiting {x : Cue} (hx : x ∈ s.cues.queue) (hwaits : x.waits = true) {f : Cue → Cue}
    (hid : ∀ c, (f c).id = c.id) (hoff : ∀ c, (f c).onLine = false) : Rests s (updateCue x.id f s) := by
  refine .of_map (updateCue_queue x.id f s) rfl (fun c => ?_) fun hs c hc => ?_
  · split
    exacts [hid c, rfl]
  · by_cases hcx : c.id = x.id
    · refine unmoved_of_offLine (hs.eq hc hx hcx ▸ onLine_of_waits hwaits) ?_
      rw [if_pos hcx]
      exact hoff c
    · exact ⟨by rw [if_neg hcx], fun _ => by rw [if_neg hcx]; exact ⟨rfl, rfl, rfl⟩⟩

theorem rests_enterCue {c : Cue} (hc : c.onLine = false) : Rests s (enterCue c s) := by
  unfold enterCue
  split
  next x hx =>
    obtain ⟨hmem, hwaits⟩ := coalesceTarget_some hx
    exact (rests_updateWaiting s hmem hwaits (f := takeContent s.time.second c) (fun _ => rfl)
      (takeContent_offLine _ c)).trans (rests_noZoneCheck _)
  next => exact (rests_placeCue s hc).trans (rests_noZoneCheck _)

theorem rests_timeCue (source : CueSource) (key : Nat) (t : Option Nat) (codes : List Nat) (zones : BitVec 8)
    (priority : Nat) (release : Int) (lifetime playLimit : Nat) :
    Rests s (timeCue source key t codes zones priority release lifetime playLimit s) :=
  .ite (rests_queueReport s _) (.ite (rests_queueReport s _) (rests_enterCue s (firstState_offLine release _ _ rfl).1))

theorem rests_requestCue (source : CueSource) (key : Nat) (t : Option Nat) (r : Option ServiceRecord) :
    Rests s (requestCue source key t r s) := by
  refine .ite ?_ (.refl s)
  split
  next => exact .refl s
  next => exact .ite (rests_queueReport s _) (.ite (rests_queueReport s _) (rests_timeCue s _ _ _ _ _ _ _ _ _))

theorem rests_cuePost (mode : AddrMode) (body : CuePostBody) : Rests s (cuePost mode body s) :=
  .ite (.ite (rests_reportIfPosition s _ _) (.ite (rests_queueReport s _) (rests_timeCue s _ _ _ _ _ _ _ _ _))) (.refl s)

/-! ### The rule evaluator and the service list unit -/

theorem rests_ruleRequests (edges : List Nat) (r : ServiceRecord) : Rests s (ruleRequests edges r s) := by
  refine rests_foldl (fun u n => .ite ?_ (.refl u)) edges s
  split
  next => exact .refl u
  next => exact rests_requestCue u _ _ _ _

theorem rests_evaluateAll : Rests s (evaluateAll s) :=
  rests_foldl (fun u r => (Rests.of_touches (touches_storeEvaluated u r) (by decide)).trans (rests_ruleRequests _ _ _)) _ s

theorem rests_builtInRequest (e : Bool) (source : CueSource) (r : ServiceRecord) : Rests s (builtInRequest e source r s) :=
  .ite (rests_requestCue s _ _ _ _) (.refl s)

theorem rests_builtInRequests (e : Bool) (ch : FieldChange) : Rests s (builtInRequests e ch s) := by
  have cancel : Rests s (if ch.cancelCue then builtInRequest e .cancel ch.record s else s) :=
    .ite (rests_builtInRequest s _ _ _) (.refl s)
  unfold builtInRequests
  simp only
  split
  next => exact cancel
  next => exact cancel.trans (rests_builtInRequest _ _ _ _)

theorem rests_afterApply (ev : WatchEvent) (key : Nat) : Rests s (afterApply ev key s) := by
  unfold afterApply
  split
  next => exact .refl s
  next r _ =>
    have evaluated : Rests s (fullEvaluation r s) :=
      (Rests.of_touches (touches_storeEvaluated s r) (by decide)).trans (rests_ruleRequests _ _ _)
    simp only
    split
    next => exact evaluated
    next => exact evaluated.trans (rests_watchReport _ _ _)

theorem rests_leaveSelection (r : ServiceRecord) : Rests s (leaveSelection r s) :=
  (rests_queueReport s _).trans (rests_watchReport _ _ _)

theorem rests_setTable (t : List ServiceRecord) : Rests s (s.setTable t) := .of_cues rfl

theorem rests_settleChange (ev : WatchEvent) (e : Bool) (ch : FieldChange) (sel : BitVec 4 × Bool) :
    Rests s (settleChange ev e ch sel s) :=
  have put (t : List ServiceRecord) : Rests s (builtInRequests e ch (s.setTable t)) :=
    (rests_setTable s t).trans (rests_builtInRequests _ e ch)
  .ite ((put _).trans (rests_leaveSelection _ _)) ((put _).trans (rests_afterApply _ _ _))

theorem rests_dropKey (key : Nat) (reason : DropReason) : Rests s (dropKey key reason s) :=
  rests_dropWaiting s _ fun _ h => (Bool.and_eq_true_iff.mp h).2

theorem rests_createRecord (r : ServiceRecord) : Rests s (createRecord r s) :=
  (rests_setTable s _).trans (rests_afterApply _ _ _)

theorem rests_evictRecord (r : ServiceRecord) : Rests s (evictRecord r s) :=
  (((rests_setTable s _).trans (rests_queueReport _ _)).trans (rests_dropKey _ _ _)).trans (rests_watchReport _ _ _)

theorem rests_servicePost (mode : AddrMode) (body : PostBody) : Rests s (servicePost mode body s) := by
  have posted (r : ServiceRecord) : Rests s (postNew r s) := by
    refine .ite (rests_createRecord s r) ?_
    split
    next => exact rests_createRecord s r
    next => exact .ite ((rests_evictRecord s _).trans (rests_createRecord _ r)) (rests_queueReport s _)
  refine .ite (.ite (rests_reportIfPosition s _ _) ?_) (.refl s)
  simp only
  split
  next => exact .ite (.refl s) (posted _)
  next => exact .ite ((rests_setTable s _).trans (rests_leaveSelection _ _)) (rests_settleChange s _ _ _ _)

theorem rests_serviceAmend (mode : AddrMode) (body : AmendBody) : Rests s (serviceAmend mode body s) := by
  refine .ite ?_ (.refl s)
  split
  next => exact rests_reportIfPosition s _ _
  next => exact rests_settleChange s _ _ _ _

theorem rests_serviceWithdraw (mode : AddrMode) (key : Nat) : Rests s (serviceWithdraw mode key s) := by
  refine .ite ?_ (.refl s)
  split
  next => exact rests_reportIfPosition s _ _
  next => exact ((rests_setTable s _).trans (rests_dropKey _ _ _)).trans (rests_watchReport _ _ _)

/-! ### Release, expiry and the passing of time (R116 to R118) -/

theorem unmoved_release? (sec : Int) (c : Cue) : Unmoved (Cue.release? sec) c := by
  refine ⟨(release?_offLine sec c).1, fun hline => ?_⟩
  have hwaiting : (c.state == .waiting) = false := by
    rcases onLine_iff.mp hline with h | h <;> rw [h] <;> rfl
  rw [Cue.release?, hwaiting, Bool.false_and, if_neg Bool.false_ne_true]
  exact ⟨rfl, rfl, rfl⟩

theorem rests_releaseTest (sec : Int) : Rests s (releaseTest sec s) :=
  .of_map rfl rfl (steady_release? sec).id fun _ c _ => unmoved_release? sec c

theorem rests_releaseCue (i : Nat) : Rests s (releaseCue i s) := by
  refine Rests.trans (.of_map (updateCue_queue i _ s) rfl (fun c => ?_) fun _ c _ => ?_) (rests_noZoneCheck _)
  · split
    exacts [(steady_release? _).id c, rfl]
  · by_cases hc : c.id = i
    · have h := unmoved_release? s.time.second c
      exact ⟨by rw [if_pos hc]; exact h.onLine, fun hline => by rw [if_pos hc]; exact h.rest hline⟩
    · exact ⟨by rw [if_neg hc], fun _ => by rw [if_neg hc]; exact ⟨rfl, rfl, rfl⟩⟩

theorem rests_expiryTest (sec : Int) : Rests s (expiryTest sec s) :=
  rests_dropWaiting s _ fun _ h => (Bool.and_eq_true_iff.mp h).1

theorem rests_expireCue (i : Nat) : Rests s (expireCue i s) :=
  rests_dropWaiting s _ fun _ h => (Bool.and_eq_true_iff.mp (Bool.and_eq_true_iff.mp h).1).2

theorem rests_schedulerTests : Rests s (schedulerTests s) :=
  ((rests_expiryTest s _).trans (rests_releaseTest _ _)).trans (rests_noZoneCheck _)

theorem rests_lowerCues : Rests s (lowerCues s) :=
  .of_map rfl rfl (fun _ => rfl) fun _ c _ =>
    unmoved_of_fields (f := Cue.lower) (fun _ => rfl) (fun _ => rfl) (fun _ => rfl) c

theorem rests_advanceSecond : Rests s (advanceSecond s) :=
  have counted : Rests s (s.setTime (s.time.tickSecond)) := .of_cues rfl
  .ite (counted.trans (rests_lowerCues _)) counted

theorem rests_clearHolds : Rests s (clearHolds s) := by
  have same (c : Cue) : ∃ h, (if c.state == .due then { c with retryHold := none } else c) = { c with retryHold := h } := by
    split
    next => exact ⟨none, rfl⟩
    next => exact ⟨c.retryHold, rfl⟩
  refine .of_map (f := fun c => if c.state == .due then { c with retryHold := none } else c) rfl rfl (fun c => ?_)
    fun _ c _ => unmoved_of_fields (fun c => ?_) (fun c => ?_) (fun c => ?_) c
  all_goals
    obtain ⟨h, heq⟩ := same c
    rw [heq]

theorem rests_schedulerStep (cls : StepClass) (oldSec newSec : Int) (crosses : Bool) :
    Rests s (schedulerStep cls oldSec newSec crosses s) := by
  have skipped : Rests s (if cls = .longStep then
      dropCues (fun c => c.state == .waiting && decide (oldSec < c.release) && decide (c.release ≤ newSec)) .skipped s
      else s) :=
    .ite (rests_dropWaiting s _ fun c h => waits_of_state (.inl (by
      simpa using (Bool.and_eq_true_iff.mp (Bool.and_eq_true_iff.mp h).1).1))) (.refl s)
  have tested : Rests s (stepTests cls oldSec newSec s) :=
    (skipped.trans (rests_expiryTest _ _)).trans (rests_releaseTest _ _)
  rw [schedulerStep_eq]
  exact Rests.trans (.ite (tested.trans (rests_lowerCues _)) tested) (rests_noZoneCheck _)

/-! ### A cue leaves the line -/

/-- `t` has the cues of `s` on the line, but for that of one id. -/
def Leaves (i : Nat) (s t : State) : Prop :=
  CueIds s → CueIds t ∧ ∀ j z st, Bears t.cues.queue j z st ↔ j ≠ i ∧ Bears s.cues.queue j z st

section

variable {s t u : State} {i : Nat}

theorem Rests.leaves (h : Rests s t) (k : Leaves i t u) : Leaves i s u := fun hs => by
  obtain ⟨ht, hbears⟩ := h hs
  rw [← hbears]
  exact k ht

theorem Leaves.rests (h : Leaves i s t) (k : Rests t u) : Leaves i s u := fun hs => by
  obtain ⟨ht, hbears⟩ := h hs
  obtain ⟨hu, hsame⟩ := k ht
  rw [hsame]
  exact ⟨hu, hbears⟩

theorem Leaves.trans (h : Leaves i s t) (k : Leaves i t u) : Leaves i s u := fun hs => by
  obtain ⟨ht, hbears⟩ := h hs
  obtain ⟨hu, hleft⟩ := k ht
  exact ⟨hu, fun j z st => (hleft j z st).trans ⟨fun h => (hbears j z st).mp h.2, fun h => ⟨h.1, (hbears j z st).mpr h⟩⟩⟩

theorem Leaves.ite {p : Prop} [Decidable p] (h : p → Leaves i s t) (k : ¬ p → Leaves i s u) : Leaves i s (if p then t else u) := by
  split
  next hp => exact h hp
  next hp => exact k hp

/-- The cue of an id gone from the queue. -/
theorem Leaves.of_filter {p : Cue → Bool} (hp : ∀ c, p c = true ↔ c.id ≠ i) (hq : t.cues.queue = s.cues.queue.filter p)
    (hn : t.cues.nextId = s.cues.nextId) : Leaves i s t := fun hs => by
  refine ⟨cueIds_of_sublist (hq ▸ List.filter_sublist) hn hs, fun j z st => ?_⟩
  rw [hq]
  refine ⟨?_, ?_⟩
  · rintro ⟨c, hc, hline, rfl, hrest⟩
    obtain ⟨hmem, hpc⟩ := List.mem_filter.mp hc
    exact ⟨(hp c).mp hpc, c, hmem, hline, rfl, hrest⟩
  · rintro ⟨hne, c, hmem, hline, rfl, hrest⟩
    exact ⟨c, List.mem_filter.mpr ⟨hmem, (hp c).mpr hne⟩, hline, rfl, hrest⟩

/-- The cue of an id taken off the line where it stands. -/
theorem Leaves.of_map {f : Cue → Cue} (hq : t.cues.queue = s.cues.queue.map fun c => if c.id = i then f c else c)
    (hn : t.cues.nextId = s.cues.nextId) (hid : ∀ c, (f c).id = c.id) (hoff : ∀ c, (f c).onLine = false) :
    Leaves i s t := fun hs => by
  refine ⟨cueIds_of_map hq hn (fun c => by split; exacts [hid c, rfl]) hs, fun j z st => ?_⟩
  rw [hq]
  refine ⟨?_, ?_⟩
  · rintro ⟨_, hmem, hline, hrest⟩
    obtain ⟨c, hc, rfl⟩ := List.mem_map.mp hmem
    by_cases hci : c.id = i
    · rw [if_pos hci, hoff] at hline
      cases hline
    · rw [if_neg hci] at hline hrest
      exact ⟨fun h => hci (hrest.1.trans h), c, hc, hline, hrest⟩
  · rintro ⟨hne, c, hc, hline, rfl, hrest⟩
    exact ⟨c, List.mem_map.mpr ⟨c, hc, if_neg hne⟩, hline, rfl, hrest⟩

end

theorem leaves_dropCues (i : Nat) (reason : DropReason) : Leaves i s (dropCues (fun c => c.id == i) reason s) :=
  .of_filter (fun c => by simp) (dropCues_cues s _ reason).1 (dropCues_cues s _ reason).2

theorem rests_removeCue {x : Cue} (hx : x ∈ s.cues.queue) (hwaits : x.waits = true) : Rests s (removeCue x.id s) := fun hs => by
  refine ⟨cueIds_of_sublist List.filter_sublist rfl hs, bears_filter fun c hc hline => ?_⟩
  refine bne_iff_ne.mpr fun hid => ?_
  rw [hs.eq hc hx hid] at hline
  exact absurd ((onLine_of_waits hwaits).symm.trans hline) Bool.false_ne_true

theorem leaves_removeCue (i : Nat) : Leaves i s (removeCue i s) := .of_filter (fun c => by simp) rfl rfl

/-- R112: a cue that is back in DUE is off the line, whatever it meets there. -/
theorem leaves_returnCue (i : Nat) (hold : Option Int) : Leaves i s (returnCue i hold s) := by
  rw [returnCue_eq]
  have due : Leaves i s (updateCue i (dueAgain hold) s) :=
    .of_map (updateCue_queue i _ s) rfl (fun _ => rfl) fun _ => rfl
  refine Leaves.rests ?_ (rests_noZoneCheck _)
  unfold coalesceReturned
  generalize updateCue i (dueAgain hold) s = t at due
  split
  next => exact due
  next c hc =>
    obtain ⟨hmem, hci⟩ := mem_of_findCue hc
    split
    next => exact due
    next o ho =>
      obtain ⟨homem, -, -, -, -, howaits⟩ := returnMate_some ho
      have taken : Leaves i s (updateCue i (takeContent t.time.second o) (removeCue o.id t)) :=
        (due.rests (rests_removeCue t homem howaits)).trans
          (.of_map (updateCue_queue i _ _) rfl (fun _ => rfl) (takeContent_offLine _ o))
      exact .ite (fun _ => taken.trans (leaves_dropCues _ i _)) fun _ => taken

end Sys2Proof.Laws
end

section
/-! SUPPORT. The zones and the line as they agree with the cues on the line (R129, R132, R133, R138): the agreement in terms
of `Bears`, and the two kinds of change most operations of the line are: one that keeps what every zone holds, and one that
releases zones from a cue. -/

namespace Sys2Proof.Laws

open Sys2Proof Sys2Proof.Machine

/-! ### The agreement -/

/-- The agreement of zones, line and cues, of the cues those on the line alone. -/
structure Accord (l : LineCtl) (b : Bearing) : Prop where
  held : ∀ n, n < 8 → ∀ i, (l.zone n).holding = some i → ∃ z st, b i z st ∧ z.getLsbD n = true ∧
    ((l.zone n).state = .offered → st = .offered) ∧ ((l.zone n).state ≠ .offered → st = .playing)
  borne : ∀ i z st, b i z st → ∃ n, n < 8 ∧ (l.zone n).holding = some i
  offered : ∀ i z, b i z .offered → ∃ q, l.seq = some q ∧ q.cueId = i
  seq : ∀ q, l.seq = some q → ∃ z, b q.cueId z .offered
  offer : ∀ n a i, l.status = .transaction (.offer n a i) → ∃ q, l.seq = some q ∧ q.cueId = i
  start : ∀ i, l.status = .transaction (.start i) → l.seq = some { cueId := i, left := [] }
  stop : ∀ n a i, l.status = .transaction (.stop n a i) → (l.zone n).holding = some i
  stops : ∀ n i, LineJob.stop n i ∈ l.jobs → (l.zone n).holding = some i

/-- A zone that holds a cue is OFFERED, PLAYING or STOPPING. -/
theorem state_of_holding {z : Zone} (h : z.ok) {i : Nat} (hi : z.holding = some i) :
    z.state = .offered ∨ z.state = .playing ∨ z.state = .stopping := by
  have hnone : ¬ (z.state = .free ∨ z.state = .fault) := fun hs => by simp [h.holding.mpr hs] at hi
  cases hs : z.state <;> simp [hs] at hnone ⊢

theorem holding_of_state {z : Zone} (h : z.ok) (hs : z.state = .offered ∨ z.state = .playing ∨ z.state = .stopping) :
    ∃ i, z.holding = some i := by
  refine Option.ne_none_iff_exists'.mp fun hnone => ?_
  rcases h.holding.mp hnone with hs' | hs' <;> simp [hs'] at hs

theorem accordOk_iff {s : State} (h : s.line.ok) : s.accordOk ↔ Accord s.line (Bears s.cues.queue) := by
  constructor
  · intro ha
    refine ⟨fun n hn i hi => ?_, fun i z st hb => ?_, fun i z hb => ?_, fun q hq => ?_, ha.offer, ha.start, ha.stop, ha.stops⟩
    · obtain ⟨c, hc, hci, hbit, hoff, hplay⟩ := ha.held n hn i hi
      have hstate := state_of_holding (zone_ok h hn) hi
      have honline : c.onLine = true := onLine_iff.mpr (hstate.imp hoff hplay)
      refine ⟨c.zones, c.state, ⟨c, hc, honline, hci, rfl, rfl⟩, hbit, hoff, fun hno => hplay (hstate.resolve_left hno)⟩
    · obtain ⟨c, hc, hline, rfl, -, -⟩ := hb
      exact ha.borne c hc hline
    · obtain ⟨c, hc, -, rfl, -, hst⟩ := hb
      exact ha.offered c hc hst
    · obtain ⟨c, hc, hci, hst⟩ := ha.seq q hq
      exact ⟨c.zones, c, hc, onLine_iff.mpr (.inl hst), hci, rfl, hst⟩
  · intro ha
    refine ⟨fun n hn i hi => ?_, fun c hc hline => ?_, fun c hc hst => ?_, fun q hq => ?_, ha.offer, ha.start, ha.stop, ha.stops⟩
    · obtain ⟨z, st, ⟨c, hc, -, hci, rfl, rfl⟩, hbit, hoff, hplay⟩ := ha.held n hn i hi
      refine ⟨c, hc, hci, hbit, hoff, fun hst => hplay ?_⟩
      rcases hst with hst | hst <;> rw [hst] <;> decide
    · exact ha.borne c.id c.zones c.state ⟨c, hc, hline, rfl, rfl, rfl⟩
    · exact ha.offered c.id c.zones ⟨c, hc, onLine_iff.mpr (.inl hst), rfl, rfl, hst⟩
    · obtain ⟨z, c, hc, -, hci, -, hst⟩ := ha.seq q hq
      exact ⟨c, hc, hci, hst⟩

/-- The zones of a line of eight are sound when each is. -/
theorem zones_ok_of_forall {l : LineCtl} (h8 : l.zones.length = 8) (h : ∀ n, n < 8 → (l.zone n).ok) : ∀ z ∈ l.zones, z.ok := by
  intro z hz
  obtain ⟨n, hn, rfl⟩ := List.getElem_of_mem hz
  have hzone := h n (h8 ▸ hn)
  rwa [LineCtl.zone, List.getD_eq_getElem?_getD, List.getElem?_eq_getElem hn, Option.getD_some] at hzone

/-! ### A change that keeps what every zone holds -/

/-- A zone that holds what it held, OFFERED if it was and only then, and STOPPING still if it was. -/
structure ZoneKept (old new : Zone) : Prop where
  ok : new.ok
  holding : new.holding = old.holding
  offered : new.state = .offered ↔ old.state = .offered
  stopping : old.state = .stopping → new.state = .stopping

theorem ZoneKept.refl {z : Zone} (h : z.ok) : ZoneKept z z := ⟨h, rfl, Iff.rfl, id⟩

theorem ZoneKept.trans {a b c : Zone} (h : ZoneKept a b) (k : ZoneKept b c) : ZoneKept a c :=
  ⟨k.ok, k.holding.trans h.holding, k.offered.trans h.offered, fun hs => k.stopping (h.stopping hs)⟩

/-- A zone that held nothing and holds nothing. -/
theorem ZoneKept.of_unheld {old new : Zone} (h : old.ok) (k : new.ok) (hold : old.holding = none)
    (hnew : new.holding = none) : ZoneKept old new := by
  refine ⟨k, hnew.trans hold.symm, ?_, ?_⟩
  · rcases k.holding.mp hnew with hs | hs <;> rcases h.holding.mp hold with hs' | hs' <;> simp [hs, hs']
  · rcases h.holding.mp hold with hs | hs <;> simp [hs]

/-- A pending STOP is an old one, or that of a zone that is STOPPING. -/
def StopsFrom (l l' : LineCtl) : Prop := ∀ n i, LineJob.stop n i ∈ l'.jobs →
  LineJob.stop n i ∈ l.jobs ∨ (n < 8 ∧ (l'.zone n).state = .stopping ∧ (l'.zone n).holding = some i)

/-- A quiet lasts no longer than it may. -/
def QuietOk (l : LineCtl) : Prop := ∀ left, l.status = .quiet left → l.timer ≤ left ∧ left ≤ 480000

/-- Every zone holds what it held, the sequence stands, and no transaction has begun. -/
structure LineKept (l l' : LineCtl) : Prop where
  eight : l'.zones.length = 8
  zones : ∀ n, n < 8 → ZoneKept (l.zone n) (l'.zone n)
  seq : l'.seq = l.seq
  jobs : StopsFrom l l'
  status : ∀ t, l'.status = .transaction t → l.status = .transaction t
  quiet : QuietOk l'

section

variable {l l' m : LineCtl} {b : Bearing}

theorem LineKept.refl (h : l.ok) : LineKept l l :=
  ⟨h.eight, fun _ hn => .refl (zone_ok h hn), rfl, fun _ _ => .inl, fun _ => id, h.quiet⟩

theorem LineKept.trans (h : LineKept l m) (k : LineKept m l') : LineKept l l' := by
  refine ⟨k.eight, fun n hn => (h.zones n hn).trans (k.zones n hn), k.seq.trans h.seq, fun n i hj => ?_,
    fun t ht => h.status t (k.status t ht), k.quiet⟩
  rcases k.jobs n i hj with hj | hj
  · rcases h.jobs n i hj with hj | ⟨hn, hs, hi⟩
    · exact .inl hj
    · exact .inr ⟨hn, (k.zones n hn).stopping hs, (k.zones n hn).holding.trans hi⟩
  · exact .inr hj

theorem LineKept.ok (h : LineKept l l') (hl : l.ok) : l'.ok where
  eight := h.eight
  zones := zones_ok_of_forall h.eight fun n hn => (h.zones n hn).ok
  seq := fun q hq n hn => by
    obtain ⟨hlt, hs, hi⟩ := hl.seq q (h.seq ▸ hq) n hn
    exact ⟨hlt, (h.zones n hlt).offered.mpr hs, (h.zones n hlt).holding.trans hi⟩
  stops := fun n i hj => by
    rcases h.jobs n i hj with hj | ⟨hn, hs, -⟩
    · obtain ⟨hn, hs⟩ := hl.stops n i hj
      exact ⟨hn, (h.zones n hn).stopping hs⟩
    · exact ⟨hn, hs⟩
  offer := fun n a i ht => by
    obtain ⟨hn, hs, hi⟩ := hl.offer n a i (h.status _ ht)
    exact ⟨hn, (h.zones n hn).offered.mpr hs, (h.zones n hn).holding.trans hi⟩
  stop := fun n a i ht => by
    obtain ⟨hn, hs⟩ := hl.stop n a i (h.status _ ht)
    exact ⟨hn, (h.zones n hn).stopping hs⟩
  poll := fun n a ht => by
    obtain ⟨hn, hs⟩ := hl.poll n a (h.status _ ht)
    exact ⟨hn, fun hs' => hs ((h.zones n hn).offered.mp hs')⟩
  quiet := h.quiet

theorem LineKept.accord (h : LineKept l l') (hl : l.ok) (ha : Accord l b) : Accord l' b where
  held := fun n hn i hi => by
    obtain ⟨z, st, hb, hbit, hoff, hplay⟩ := ha.held n hn i ((h.zones n hn).holding ▸ hi)
    have hiff := (h.zones n hn).offered
    exact ⟨z, st, hb, hbit, fun hs => hoff (hiff.mp hs), fun hs => hplay fun hs' => hs (hiff.mpr hs')⟩
  borne := fun i z st hb => by
    obtain ⟨n, hn, hi⟩ := ha.borne i z st hb
    exact ⟨n, hn, (h.zones n hn).holding.trans hi⟩
  offered := fun i z hb => h.seq ▸ ha.offered i z hb
  seq := fun q hq => ha.seq q (h.seq ▸ hq)
  offer := fun n a i ht => h.seq ▸ ha.offer n a i (h.status _ ht)
  start := fun i ht => h.seq ▸ ha.start i (h.status _ ht)
  stop := fun n a i ht => by
    have hold := h.status _ ht
    exact (h.zones n (hl.stop n a i hold).1).holding.trans (ha.stop n a i hold)
  stops := fun n i hj => by
    rcases h.jobs n i hj with hj | ⟨-, -, hi⟩
    · exact (h.zones n (hl.stops n i hj).1).holding.trans (ha.stops n i hj)
    · exact hi

/-- One zone changed, and what it holds kept. -/
theorem LineKept.of_setZone (h : l.ok) {n : Nat} (hn : n < 8) {z : Zone} (hz : ZoneKept (l.zone n) z) :
    LineKept l (l.setZone n z) := by
  refine ⟨(setZone_length l n z).trans h.eight, fun m hm => ?_, rfl, fun _ _ => .inl, fun _ => id, h.quiet⟩
  rw [setZone_zone l n m z (h.eight.symm ▸ hn)]
  split
  next heq => rw [heq]; exact hz
  next => exact .refl (zone_ok h hm)

/-- The line's own works: a status that is no new transaction, and some of the jobs. -/
theorem LineKept.of_status (h : l.ok) {status : LineStatus} {timer : Nat} {sent : List LineChar}
    (ht : ∀ t, status = .transaction t → l.status = .transaction t)
    (hq : ∀ left, status = .quiet left → timer ≤ left ∧ left ≤ 480000) :
    LineKept l { l with status := status, timer := timer, sent := sent } :=
  ⟨h.eight, fun _ hn => .refl (zone_ok h hn), rfl, fun _ _ => .inl, ht, hq⟩

/-! ### Zones released from a cue -/

/-- The zones that `p` names released from cue `i`, the others as they were, with no transaction in flight: the sequence
stands, or has ended. -/
structure LineDrops (i : Nat) (p : Nat → Prop) (l l' : LineCtl) : Prop where
  eight : l'.zones.length = 8
  dropped : ∀ n, n < 8 → p n → (l.zone n).holding = some i ∧ (l'.zone n).ok ∧ (l'.zone n).holding = none
  kept : ∀ n, n < 8 → ¬ p n → ZoneKept (l.zone n) (l'.zone n)
  jobs : ∀ n j, LineJob.stop n j ∈ l'.jobs → LineJob.stop n j ∈ l.jobs ∧ ¬ p n
  idle : ∀ t, l'.status ≠ .transaction t
  quiet : QuietOk l'
  seq : l'.seq = none ∨ (l'.seq = l.seq ∧ ∀ n, n < 8 → p n → (l.zone n).state ≠ .offered)

variable {i : Nat} {p : Nat → Prop}

theorem LineDrops.ok (h : LineDrops i p l l') (hl : l.ok) : l'.ok where
  eight := h.eight
  zones := zones_ok_of_forall h.eight fun n hn => by
    by_cases hp : p n
    · exact (h.dropped n hn hp).2.1
    · exact (h.kept n hn hp).ok
  seq := fun q hq n hn => by
    rcases h.seq with hnone | ⟨hseq, hno⟩
    · simp [hnone] at hq
    · obtain ⟨hlt, hs, hi⟩ := hl.seq q (hseq ▸ hq) n hn
      have hkept := h.kept n hlt fun hp => hno n hlt hp hs
      exact ⟨hlt, hkept.offered.mpr hs, hkept.holding.trans hi⟩
  stops := fun n j hj => by
    obtain ⟨hj, hp⟩ := h.jobs n j hj
    obtain ⟨hn, hs⟩ := hl.stops n j hj
    exact ⟨hn, (h.kept n hn hp).stopping hs⟩
  offer := fun n a j ht => absurd ht (h.idle _)
  stop := fun n a j ht => absurd ht (h.idle _)
  poll := fun n a ht => absurd ht (h.idle _)
  quiet := h.quiet

/-- The cue is held elsewhere yet. -/
theorem LineDrops.accord (h : LineDrops i p l l') (hl : l.ok) (hseq : l'.seq = l.seq)
    (hheld : ∃ n, n < 8 ∧ (l'.zone n).holding = some i) (ha : Accord l b) : Accord l' b := by
  have hkept {n j : Nat} (hn : n < 8) (hj : (l'.zone n).holding = some j) : ZoneKept (l.zone n) (l'.zone n) :=
    h.kept n hn fun hp => by simp [(h.dropped n hn hp).2.2] at hj
  refine ⟨fun n hn j hj => ?_, fun j z st hb => ?_, fun j z hb => hseq ▸ ha.offered j z hb, fun q hq => ha.seq q (hseq ▸ hq),
    fun n a j ht => absurd ht (h.idle _), fun j ht => absurd ht (h.idle _), fun n a j ht => absurd ht (h.idle _), fun n j hj => ?_⟩
  · have hz := hkept hn hj
    obtain ⟨z, st, hb, hbit, hoff, hplay⟩ := ha.held n hn j (hz.holding ▸ hj)
    exact ⟨z, st, hb, hbit, fun hs => hoff (hz.offered.mp hs), fun hs => hplay fun hs' => hs (hz.offered.mpr hs')⟩
  · obtain ⟨n, hn, hj⟩ := ha.borne j z st hb
    by_cases hp : p n
    · obtain rfl : i = j := Option.some_inj.mp ((h.dropped n hn hp).1.symm.trans hj)
      exact hheld
    · exact ⟨n, hn, (h.kept n hn hp).holding.trans hj⟩
  · obtain ⟨hj, hp⟩ := h.jobs n j hj
    exact (h.kept n (hl.stops n j hj).1 hp).holding.trans (ha.stops n j hj)

/-- The cue is held nowhere any more, and has left the line. -/
theorem LineDrops.accord_left (h : LineDrops i p l l') (hl : l.ok) {b' : Bearing}
    (hb' : ∀ j z st, b' j z st ↔ j ≠ i ∧ b j z st) (hfree : ∀ n, n < 8 → (l'.zone n).holding ≠ some i)
    (hseq : ∀ q, l.seq = some q → (q.cueId = i ∧ l'.seq = none) ∨ (q.cueId ≠ i ∧ l'.seq = l.seq)) (ha : Accord l b) :
    Accord l' b' := by
  refine ⟨fun n hn j hj => ?_, fun j z st hb => ?_, fun j z hb => ?_, fun q hq => ?_, fun n a j ht => absurd ht (h.idle _),
    fun j ht => absurd ht (h.idle _), fun n a j ht => absurd ht (h.idle _), fun n j hj => ?_⟩
  · have hz := h.kept n hn fun hp => by simp [(h.dropped n hn hp).2.2] at hj
    obtain ⟨z, st, hb, hbit, hoff, hplay⟩ := ha.held n hn j (hz.holding ▸ hj)
    have hji : j ≠ i := fun hji => hfree n hn (hji ▸ hj)
    exact ⟨z, st, (hb' j z st).mpr ⟨hji, hb⟩, hbit, fun hs => hoff (hz.offered.mp hs),
      fun hs => hplay fun hs' => hs (hz.offered.mpr hs')⟩
  · obtain ⟨hji, hb⟩ := (hb' j z st).mp hb
    obtain ⟨n, hn, hj⟩ := ha.borne j z st hb
    have hp : ¬ p n := fun hp => hji (Option.some_inj.mp (hj.symm.trans (h.dropped n hn hp).1))
    exact ⟨n, hn, (h.kept n hn hp).holding.trans hj⟩
  · obtain ⟨hji, hb⟩ := (hb' j z .offered).mp hb
    obtain ⟨q, hq, rfl⟩ := ha.offered j z hb
    rcases hseq q hq with ⟨heq, -⟩ | ⟨-, hsame⟩
    · exact absurd heq hji
    · exact ⟨q, hsame.trans hq, rfl⟩
  · have hsame : l.seq = some q := by
      rcases h.seq with hnone | ⟨hsame, -⟩
      · simp [hnone] at hq
      · exact hsame ▸ hq
    rcases hseq q hsame with ⟨-, hnone⟩ | ⟨hne, -⟩
    · simp [hnone] at hq
    · obtain ⟨z, hb⟩ := ha.seq q hsame
      exact ⟨z, (hb' _ _ _).mpr ⟨hne, hb⟩⟩
  · obtain ⟨hj, hp⟩ := h.jobs n j hj
    exact (h.kept n (hl.stops n j hj).1 hp).holding.trans (ha.stops n j hj)

end

/-! ### Operations that keep the agreement -/

/-- `t` keeps the line of `s` sound, and the agreement with the cues. -/
structure Moves (s t : State) : Prop where
  ok : s.line.ok → t.line.ok
  accord : s.line.ok → CueIds s → Accord s.line (Bears s.cues.queue) → CueIds t ∧ Accord t.line (Bears t.cues.queue)

section

variable {s t u : State}

theorem Moves.trans (h : Moves s t) (k : Moves t u) : Moves s u :=
  ⟨fun hs => k.ok (h.ok hs), fun hs hids ha =>
    have hacc := h.accord hs hids ha
    k.accord (h.ok hs) hacc.1 hacc.2⟩

/-- A sound line may be taken for granted. -/
theorem Moves.intro (h : s.line.ok → Moves s t) : Moves s t := ⟨fun hs => (h hs).ok hs, fun hs => (h hs).accord hs⟩

theorem Moves.ite {p : Prop} [Decidable p] (h : p → Moves s t) (k : ¬ p → Moves s u) : Moves s (if p then t else u) := by
  split
  next hp => exact h hp
  next hp => exact k hp

theorem Moves.of_kept (hr : Rests s t) (h : s.line.ok → LineKept s.line t.line) : Moves s t := by
  refine ⟨fun hs => (h hs).ok hs, fun hs hids ha => ?_⟩
  obtain ⟨ht, hbears⟩ := hr hids
  rw [hbears]
  exact ⟨ht, (h hs).accord hs ha⟩

theorem Moves.of_line (hr : Rests s t) (h : t.line = s.line) : Moves s t := .of_kept hr fun hs => h.symm ▸ .refl hs

theorem Moves.refl (s : State) : Moves s s := .of_line (.refl s) rfl

/-- What touches neither cues nor line. -/
theorem Moves.of_touches {bs : List Block} (h : Touches bs s t) (hbs : bs.contains .cues = false ∧ bs.contains .line = false) :
    Moves s t := .of_line (.of_touches h hbs.1) (h .line (by simpa using hbs.2))

theorem moves_foldl {α : Type} {f : State → α → State} (l : List α) (hf : ∀ x ∈ l, ∀ s, Moves s (f s x)) (s : State) :
    Moves s (l.foldl f s) := by
  induction l generalizing s with
  | nil => exact .refl s
  | cons x l ih => exact (hf x List.mem_cons_self s).trans (ih (fun y hy => hf y (List.mem_cons_of_mem x hy)) (f s x))

end

end Sys2Proof.Laws
end

section
/-! SUPPORT. The operations of the line that keep what every zone holds (R126, R129, R138, R139, R142), and those of the
arbiter (R130 to R132). -/

namespace Sys2Proof.Laws

open Sys2Proof Sys2Proof.Machine

variable {s : State}

theorem moves_noZoneCheck (s : State) : Moves s (noZoneCheck s) :=
  .of_line (rests_noZoneCheck s) (touches_noZoneCheck s .line (by decide))

/-! ### The line between transactions (R126, R127) -/

theorem moves_lineIdle (s : State) : Moves s (lineIdle s) :=
  .of_kept (.of_cues rfl) fun hs => .of_status hs nofun nofun

theorem moves_lineBreakEnd (s : State) : Moves s (lineBreakEnd s) := .ite (fun _ => moves_lineIdle s) fun _ => .refl s

theorem moves_lineQuietEnd (s : State) : Moves s (lineQuietEnd s) := .ite (fun _ => moves_lineIdle s) fun _ => .refl s

theorem moves_cancelSent (s : State) : Moves s (cancelSent s) := by
  unfold cancelSent
  split
  exacts [moves_lineIdle s, .refl s]

/-! ### Zones changed in what they hold no cue by -/

/-- A zone changed where it stands. -/
theorem moves_putZone {n : Nat} (hn : n < 8) {z : Zone} (hz : s.line.ok → ZoneKept (s.line.zone n) z) :
    Moves s (putZone n z s) := .of_kept (.of_cues rfl) fun hs => .of_setZone hs hn (hz hs)

/-- A miss count put to any value of a zone that is not in FAULT. -/
theorem zoneKept_miss {z : Zone} (h : z.ok) (hfault : z.state ≠ .fault) {k : Nat} (hk : k ≤ 3) :
    ZoneKept z { z with miss := k } :=
  ⟨{ h with miss := hk, faultMiss := fun hs => absurd hs hfault }, rfl, Iff.rfl, id⟩

theorem moves_setMiss {n k : Nat} (hn : n < 8) (hfault : (s.line.zone n).state ≠ .fault) (hk : k ≤ 3) :
    Moves s (setMiss n k s) := moves_putZone hn fun hs => zoneKept_miss (zone_ok hs hn) hfault hk

/-- A miss count and a timer set of a zone that is polled. -/
theorem zoneKept_polled {z : Zone} (h : z.ok) {k : Nat} (t : Nat) (hk : k ≤ 3) (hplay : z.state = .playing ∨ z.state = .fault)
    (hfault : z.state = .fault → k = 3) : ZoneKept z { z with miss := k, timer := some t } :=
  ⟨{ h with miss := hk, faultMiss := hfault, timer := fun _ => hplay }, rfl, Iff.rfl, id⟩

theorem moves_pollFallsDue (n : Nat) (s : State) : Moves s (pollFallsDue n s) := by
  refine .ite (fun ⟨hn, hstate, _⟩ => moves_putZone hn fun hs => ?_) fun _ => .refl s
  have hz := zone_ok hs hn
  exact ⟨{ hz with timer := fun _ => hstate, pollDue := fun _ => hstate }, rfl, Iff.rfl, id⟩

/-! ### Zones that are stopped (R138, R139) -/

theorem zoneKept_halted {z : Zone} (h : z.ok) (hplay : z.state = .playing) : ZoneKept z z.halted := by
  obtain ⟨i, hi⟩ := holding_of_state h (.inr (.inl hplay))
  refine ⟨⟨?_, h.miss, nofun, nofun, nofun, ?_⟩, rfl, ?_, fun _ => rfl⟩
  · simp [Zone.halted, hi]
  · exact fun _ => ⟨nofun, nofun⟩
  · simp [Zone.halted, hplay]

/-- PLAYING zones stopped one after another. -/
theorem foldl_haltZone_kept {l : List Nat} (hnodup : l.Nodup) (hl : ∀ n ∈ l, n < 8 ∧ (s.line.zone n).state = .playing)
    (hs : s.line.ok) : LineKept s.line (l.foldl (fun st n => haltZone n st) s).line := by
  obtain ⟨hstatus, htimer, hseq, -, hlen, hjobs⟩ := foldl_haltZone_line l s
  have hzone (n : Nat) := foldl_haltZone_zone n l s hnodup fun m hm => hs.eight.symm ▸ (hl m hm).1
  have hstop {n i : Nat} (hn : n ∈ l) (hi : (s.line.zone n).holding = some i) :
      stoppedZone (s.line.zone n) = (s.line.zone n).halted := if_pos (by simp [hi])
  generalize l.foldl (fun st n => haltZone n st) s = t at hstatus htimer hseq hlen hjobs hzone
  refine ⟨hlen.trans hs.eight, fun n hn => ?_, hseq, fun n i hj => ?_, fun t ht => hstatus.symm.trans ht, fun left hq => ?_⟩
  · rw [hzone n]
    split
    next hmem =>
      obtain ⟨i, hi⟩ := holding_of_state (zone_ok hs hn) (.inr (.inl (hl n hmem).2))
      rw [hstop hmem hi]
      exact zoneKept_halted (zone_ok hs hn) (hl n hmem).2
    next => exact .refl (zone_ok hs hn)
  · rcases List.mem_append.mp (hjobs ▸ hj) with hj | hj
    · exact .inl hj
    · obtain ⟨m, hm, hjob⟩ := List.mem_filterMap.mp hj
      obtain ⟨j, hheld, hjob⟩ := Option.map_eq_some_iff.mp hjob
      cases hjob
      refine .inr ⟨(hl n hm).1, ?_⟩
      rw [hzone n, if_pos hm, hstop hm hheld]
      exact ⟨rfl, hheld⟩
  · rw [htimer]
    exact hs.quiet left (hstatus.symm.trans hq)

theorem moves_haltZones {l : List Nat} (hnodup : l.Nodup) (hl : ∀ n ∈ l, n < 8 ∧ (s.line.zone n).state = .playing) :
    Moves s (l.foldl (fun st n => haltZone n st) s) :=
  .of_kept (.of_touches (touches_foldl_haltZone l s) (by decide)) (foldl_haltZone_kept hnodup hl)

theorem moves_haltCues (ids : List Nat) (s : State) : Moves s (haltCues ids s) :=
  moves_haltZones (l := (List.range 8).filter fun n => playsFor ids (s.line.zone n)) (nodup_range8_filter _) fun n hn => by
    obtain ⟨hlt, hplays⟩ := mem_range8_filter.mp hn
    exact ⟨hlt, (playsFor_iff.mp hplays).1⟩

/-- Cues changed in nothing the line knows of. -/
theorem moves_mapCues {t : State} {f : Cue → Cue} (hline : t.line = s.line) (hq : t.cues.queue = s.cues.queue.map f)
    (hn : t.cues.nextId = s.cues.nextId) (hid : ∀ c, (f c).id = c.id) (hz : ∀ c, (f c).zones = c.zones)
    (hst : ∀ c, (f c).state = c.state) : Moves s t :=
  .of_line (.of_map hq hn hid fun _ c _ => unmoved_of_fields hid hz hst c) hline

/-- One cue changed in nothing the line knows of. -/
theorem moves_updateCue (i : Nat) {f : Cue → Cue} (hid : ∀ c, (f c).id = c.id) (hz : ∀ c, (f c).zones = c.zones)
    (hst : ∀ c, (f c).state = c.state) (s : State) : Moves s (updateCue i f s) := by
  refine moves_mapCues rfl (updateCue_queue i f s) rfl (fun c => ?_) (fun c => ?_) fun c => ?_
  all_goals split
  · exact hid c
  · rfl
  · exact hz c
  · rfl
  · exact hst c
  · rfl

theorem moves_reachPlayLimit (i : Nat) (s : State) : Moves s (reachPlayLimit i s) :=
  .ite (fun _ => (moves_updateCue i (f := fun c => { c with playCount := c.playLimit * 64 }) (fun _ => rfl) (fun _ => rfl)
    (fun _ => rfl) s).trans (moves_haltCues _ _)) fun _ => .refl s

theorem moves_preemptFor (c : Cue) (s : State) : Moves s (preemptFor c s) := by
  rw [preemptFor_eq]
  have same (v : Cue) : ∃ p, (if (preemptedIds c s).contains v.id then { v with preempted := true } else v) =
      { v with preempted := p } := by
    split
    next => exact ⟨true, rfl⟩
    next => exact ⟨v.preempted, rfl⟩
  refine (moves_mapCues (s := s) (t := markPreempted c s)
    (f := fun v => if (preemptedIds c s).contains v.id then { v with preempted := true } else v) rfl rfl rfl
    (fun v => ?_) (fun v => ?_) fun v => ?_).trans
    (moves_haltCues _ _)
  all_goals
    obtain ⟨p, heq⟩ := same v
    rw [heq]

/-! ### The own cycle start (R129, R138) -/

theorem zoneKept_countCycle {z : Zone} (h : z.ok) (inFlight : Bool) : ZoneKept z (z.countCycle inFlight) := by
  unfold Zone.countCycle
  split
  next hstate =>
    split
    next => exact .refl h
    next => exact ⟨{ h with pollDue := fun _ => hstate }, rfl, Iff.rfl, id⟩
    next => exact ⟨{ h with timer := fun _ => hstate, pollDue := fun _ => hstate }, rfl, Iff.rfl, id⟩
  next => exact .refl h

theorem moves_lineCycle (s : State) : Moves s (lineCycle s) := by
  have timers : Moves s (countTimers s) := .of_kept (.of_cues rfl) fun hs =>
    ⟨by simp [countTimers], fun n hn => by
      rw [countTimers_zone hn]
      exact zoneKept_countCycle (zone_ok hs hn) _, rfl, fun _ _ => .inl, fun _ => id, hs.quiet⟩
  have plays (u : State) : Moves u (u.setCues { u.cues with queue := u.cues.queue.map Cue.countCycle }) := by
    refine moves_mapCues (f := Cue.countCycle) rfl rfl rfl (fun c => ?_) (fun c => ?_) fun c => ?_
    all_goals rw [countCycle_eq]
  exact (timers.trans (plays _)).trans (moves_haltCues _ _)

/-! ### Zone addresses at a bank switch (R142) -/

theorem zoneKept_compared {z : Zone} (h : z.ok) (a : Nat) : ZoneKept z (comparedZone a z) := by
  unfold comparedZone
  split
  next => exact ⟨{ h with pendingAddr := nofun }, rfl, Iff.rfl, id⟩
  next =>
    split
    next => exact ⟨{ h with pendingAddr := nofun }, rfl, Iff.rfl, id⟩
    next hs =>
      split
      next => exact .of_unheld h (zoneOk_resetZone 0) (h.holding.mpr (.inr hs)) rfl
      next => exact ⟨{ h with pendingAddr := nofun }, rfl, Iff.rfl, id⟩
    next hs =>
      have hpending : ({ z with pendingAddr := some a } : Zone).ok := { h with pendingAddr := fun _ => by simp [hs] }
      split
      next =>
        obtain ⟨i, hi⟩ := holding_of_state h (.inr (.inl hs))
        rw [stoppedZone, if_pos (by simp [hi])]
        have hhalted := zoneKept_halted hpending hs
        exact ⟨hhalted.ok, hhalted.holding, hhalted.offered, hhalted.stopping⟩
      next => exact ⟨hpending, rfl, Iff.rfl, id⟩
    next hfree hfault _ => exact ⟨{ h with pendingAddr := fun _ => ⟨hfree, hfault⟩ }, rfl, Iff.rfl, id⟩

theorem compareZone_kept {n : Nat} (hn : n < 8) (hs : s.line.ok) : LineKept s.line (compareZone n s).line := by
  have hz := zone_ok hs hn
  have hlen : n < s.line.zones.length := hs.eight.symm ▸ hn
  have hset := LineKept.of_setZone hs hn (zoneKept_compared hz (s.bank.zoneTable.getD n 0))
  rw [compareZone_line hlen]
  generalize s.bank.zoneTable.getD n 0 = a at hset
  refine ⟨hset.eight, hset.zones, rfl, fun m i hj => ?_, fun _ => id, hs.quiet⟩
  rcases List.mem_append.mp hj with hj | hj
  · exact .inl hj
  · unfold comparedJobs at hj
    split at hj
    next hstop =>
      obtain ⟨haddr, hplay, ha⟩ := hstop
      obtain ⟨j, hheld⟩ := holding_of_state hz (.inr (.inl hplay))
      rw [hheld] at hj
      obtain ⟨rfl, rfl⟩ : m = n ∧ i = j := by simpa using hj
      refine .inr ⟨hn, ?_⟩
      change ((s.line.setZone m _).zone m).state = .stopping ∧ ((s.line.setZone m _).zone m).holding = some i
      rw [zone_setZone_same hlen, comparedZone, if_neg haddr]
      simp [hplay, ha, stoppedZone, hheld, Zone.halted]
    next => cases hj

theorem moves_compareZones (s : State) : Moves s (compareZones s) := by
  refine (moves_foldl _ (fun n hn u => ?_) s).trans (moves_noZoneCheck _)
  exact .of_kept (.of_touches (touches_compareZone u n) (by decide)) (compareZone_kept (List.mem_range.mp hn))

end Sys2Proof.Laws
end

section
/-! SUPPORT. The arbiter's work (R130 to R133): a transaction begins, a sequence begins, a sequence plays. -/

namespace Sys2Proof.Laws

open Sys2Proof Sys2Proof.Machine

variable {s : State}

/-! ### A transaction begins (R130) -/

/-- The transaction is one the line's jobs, sequence or zones ask for. -/
def Asked (l : LineCtl) : Transaction → Prop
  | .offer n _ i => ∃ q, l.seq = some q ∧ q.cueId = i ∧ n ∈ q.left
  | .start i => l.seq = some { cueId := i, left := [] }
  | .stop n _ i => LineJob.stop n i ∈ l.jobs
  | .poll n _ => n < 8 ∧ (l.zone n).state ≠ .offered
  | .cancel _ _ => True

/-- The line begins transaction `tr`: a job or an offer taken from what waits at most. -/
structure LineSends (tr : Transaction) (l l' : LineCtl) : Prop where
  zones : l'.zones = l.zones
  status : l'.status = .transaction tr
  jobs : ∀ j ∈ l'.jobs, j ∈ l.jobs
  seqOld : ∀ q', l'.seq = some q' → ∃ q, l.seq = some q ∧ q.cueId = q'.cueId ∧ ∀ n ∈ q'.left, n ∈ q.left
  seqNew : ∀ q, l.seq = some q → ∃ q', l'.seq = some q' ∧ q'.cueId = q.cueId ∧ ∀ n ∈ q'.left, n ∈ q.left
  asked : Asked l tr

section

variable {tr : Transaction} {l l' : LineCtl} {b : Bearing}

theorem LineSends.zone (h : LineSends tr l l') (n : Nat) : l'.zone n = l.zone n := by rw [LineCtl.zone, h.zones]; rfl

theorem LineSends.asks (h : LineSends tr l l') {t : Transaction} (ht : l'.status = .transaction t) : Asked l t := by
  have heq := h.status.symm.trans ht
  cases heq
  exact h.asked

theorem LineSends.ok (h : LineSends tr l l') (hl : l.ok) : l'.ok where
  eight := h.zones ▸ hl.eight
  zones := h.zones ▸ hl.zones
  seq := fun q' hq' n hn => by
    obtain ⟨q, hq, hid, hsub⟩ := h.seqOld q' hq'
    rw [h.zone n, ← hid]
    exact hl.seq q hq n (hsub n hn)
  stops := fun n i hj => by
    rw [h.zone n]
    exact hl.stops n i (h.jobs _ hj)
  offer := fun n a i ht => by
    obtain ⟨q, hq, rfl, hn⟩ := h.asks ht
    rw [h.zone n]
    exact hl.seq q hq n hn
  stop := fun n a i ht => by
    rw [h.zone n]
    exact hl.stops n i (h.asks ht)
  poll := fun n a ht => by
    rw [h.zone n]
    exact h.asks ht
  quiet := fun left hq => by
    have heq := h.status.symm.trans hq
    cases heq

theorem LineSends.accord (h : LineSends tr l l') (ha : Accord l b) : Accord l' b where
  held := fun n => h.zone n ▸ ha.held n
  borne := fun i z st hb => by
    obtain ⟨n, hn, hi⟩ := ha.borne i z st hb
    exact ⟨n, hn, h.zone n ▸ hi⟩
  offered := fun i z hb => by
    obtain ⟨q, hq, rfl⟩ := ha.offered i z hb
    obtain ⟨q', hq', hid, -⟩ := h.seqNew q hq
    exact ⟨q', hq', hid⟩
  seq := fun q' hq' => by
    obtain ⟨q, hq, hid, -⟩ := h.seqOld q' hq'
    exact hid ▸ ha.seq q hq
  offer := fun n a i ht => by
    obtain ⟨q, hq, hid, -⟩ := h.asks ht
    obtain ⟨q', hq', hid', -⟩ := h.seqNew q hq
    exact ⟨q', hq', hid'.trans hid⟩
  start := fun i ht => by
    obtain ⟨⟨cueId, left⟩, hq', rfl, hsub⟩ := h.seqNew _ (h.asks ht)
    obtain rfl : left = [] := List.eq_nil_iff_forall_not_mem.mpr fun n hn => by cases hsub n hn
    exact hq'
  stop := fun n a i ht => h.zone n ▸ ha.stops n i (h.asks ht)
  stops := fun n i hj => h.zone n ▸ ha.stops n i (h.jobs _ hj)

end

theorem moves_sends {t : State} {tr : Transaction} (hcues : t.cues = s.cues) (h : s.line.ok → LineSends tr s.line t.line) :
    Moves s t := by
  refine ⟨fun hs => (h hs).ok hs, fun hs hids ha => ⟨cueIds_of_cues hcues hids, ?_⟩⟩
  rw [hcues]
  exact (h hs).accord ha

/-- A transaction sent with the jobs and the sequence as they are. -/
theorem moves_sendTransaction {tr : Transaction} (h : Asked s.line tr) : Moves s (sendTransaction tr s) :=
  moves_sends rfl fun _ => ⟨rfl, rfl, fun _ => id, fun q hq => ⟨q, hq, rfl, fun _ => id⟩, fun q hq => ⟨q, hq, rfl, fun _ => id⟩, h⟩

theorem duePoll_some {l : LineCtl} {n : Nat} (h : duePoll l = some n) :
    n < 8 ∧ ((l.zone n).state = .playing ∨ (l.zone n).state = .fault) := by
  unfold duePoll at h
  split at h
  next m hm =>
    cases h
    have hp := List.find?_some hm
    exact ⟨List.mem_range.mp (List.mem_of_find?_eq_some hm), .inl (by simpa using (Bool.and_eq_true_iff.mp hp).2)⟩
  next =>
    have hp := List.find?_some h
    exact ⟨List.mem_range.mp (List.mem_of_find?_eq_some h), .inr (by simpa using (Bool.and_eq_true_iff.mp hp).2)⟩

theorem moves_sendPoll {n : Nat} (h : duePoll s.line = some n) : Moves s (sendPoll n s) := by
  obtain ⟨hn, hstate⟩ := duePoll_some h
  refine Moves.intro fun hs => ?_
  have hz := zone_ok hs hn
  have hput : Moves s (putZone n { s.line.zone n with pollDue := false } s) :=
    moves_putZone hn fun _ => ⟨{ hz with pollDue := nofun }, rfl, Iff.rfl, id⟩
  refine hput.trans (moves_sendTransaction ⟨hn, ?_⟩)
  have hzone : (putZone n { s.line.zone n with pollDue := false } s).line.zone n = { s.line.zone n with pollDue := false } :=
    zone_setZone_same (hs.eight.symm ▸ hn) _
  rw [hzone]
  rcases hstate with h | h <;> simp [h]

/-! ### A cue moved on the line -/

/-- Who is on the line once one cue has changed and stands there. -/
theorem bears_updateCue {c : Cue} (hids : CueIds s) (hc : c ∈ s.cues.queue) {f : Cue → Cue} (hid : ∀ x, (f x).id = x.id)
    (hon : (f c).onLine = true) (j : Nat) (z : BitVec 8) (st : CueState) :
    Bears (updateCue c.id f s).cues.queue j z st ↔
      (j ≠ c.id ∧ Bears s.cues.queue j z st) ∨ (j = c.id ∧ z = (f c).zones ∧ st = (f c).state) := by
  rw [updateCue_queue]
  constructor
  · rintro ⟨_, hmem, hline, rfl, rfl, rfl⟩
    obtain ⟨x, hx, rfl⟩ := List.mem_map.mp hmem
    by_cases hxc : x.id = c.id
    · obtain rfl := hids.eq hx hc hxc
      rw [if_pos rfl]
      exact .inr ⟨hid x, rfl, rfl⟩
    · rw [if_neg hxc] at hline ⊢
      exact .inl ⟨hxc, x, hx, hline, rfl, rfl, rfl⟩
  · rintro (⟨hne, x, hx, hline, rfl, rfl, rfl⟩ | ⟨rfl, rfl, rfl⟩)
    · exact ⟨x, List.mem_map.mpr ⟨x, hx, if_neg hne⟩, hline, rfl, rfl, rfl⟩
    · exact ⟨f c, List.mem_map.mpr ⟨c, hc, if_pos rfl⟩, hon, hid c, rfl, rfl⟩

theorem cueIds_updateCue (i : Nat) {f : Cue → Cue} (hid : ∀ x, (f x).id = x.id) (hids : CueIds s) : CueIds (updateCue i f s) :=
  cueIds_of_map (updateCue_queue i f s) rfl (fun c => by split; exacts [hid c, rfl]) hids

/-! ### A sequence begins (R132) -/

theorem zone_of_zones {l l' : LineCtl} (h : l'.zones = l.zones) (n : Nat) : l'.zone n = l.zone n := by
  rw [LineCtl.zone, h]
  rfl

/-- The line once the sequence of cue `i` has begun, on zones that were FREE, with nothing else under way. -/
structure LineBegins (i : Nat) (zs : List Nat) (l l' : LineCtl) : Prop where
  nonempty : ∃ n, n ∈ zs
  free : ∀ n ∈ zs, n < 8 ∧ (l.zone n).state = .free
  eight : l'.zones.length = 8
  zones : ∀ n, l'.zone n = if n ∈ zs then offeredZone i (l.zone n) else l.zone n
  seqOld : l.seq = none
  seq : l'.seq = some { cueId := i, left := zs }
  status : l'.status = .idle
  jobs : l'.jobs = []

section

variable {i : Nat} {zs : List Nat} {l l' : LineCtl}

theorem offeredZone_ok {z : Zone} (h : z.ok) (hfree : z.state = .free) (i : Nat) : (offeredZone i z).ok where
  holding := by simp [offeredZone]
  miss := h.miss
  faultMiss := nofun
  timer := fun ht => by simpa [hfree] using h.timer ht
  pollDue := fun ht => by simpa [hfree] using h.pollDue ht
  pendingAddr := fun _ => ⟨nofun, nofun⟩

theorem LineBegins.ok (h : LineBegins i zs l l') (hl : l.ok) : l'.ok where
  eight := h.eight
  zones := zones_ok_of_forall h.eight fun n hn => by
    rw [h.zones n]
    split
    next hmem => exact offeredZone_ok (zone_ok hl hn) (h.free n hmem).2 i
    next => exact zone_ok hl hn
  seq := fun q hq n hn => by
    rw [h.seq] at hq
    cases hq
    rw [h.zones n, if_pos hn]
    exact ⟨(h.free n hn).1, rfl, rfl⟩
  stops := fun n j hj => by simp [h.jobs] at hj
  offer := fun n a j ht => by simp [h.status] at ht
  stop := fun n a j ht => by simp [h.status] at ht
  poll := fun n a ht => by simp [h.status] at ht
  quiet := fun left hq => by simp [h.status] at hq

theorem LineBegins.accord (h : LineBegins i zs l l') (hl : l.ok) {b b' : Bearing} {mask : BitVec 8}
    (hmask : ∀ n ∈ zs, mask.getLsbD n = true) (hnew : ∀ z st, ¬ b i z st)
    (hb' : ∀ j z st, b' j z st ↔ (j ≠ i ∧ b j z st) ∨ (j = i ∧ z = mask ∧ st = .offered)) (ha : Accord l b) :
    Accord l' b' where
  held := fun n hn j hj => by
    rw [h.zones n] at hj ⊢
    by_cases hmem : n ∈ zs
    · rw [if_pos hmem] at hj ⊢
      obtain rfl : i = j := Option.some_inj.mp hj
      exact ⟨mask, .offered, (hb' i mask .offered).mpr (.inr ⟨rfl, rfl, rfl⟩), hmask n hmem, fun _ => rfl,
        fun hs => absurd rfl hs⟩
    · rw [if_neg hmem] at hj ⊢
      obtain ⟨z, st, hb, hrest⟩ := ha.held n hn j hj
      have hji : j ≠ i := fun hji => hnew z st (hji ▸ hb)
      exact ⟨z, st, (hb' j z st).mpr (.inl ⟨hji, hb⟩), hrest⟩
  borne := fun j z st hb => by
    rcases (hb' j z st).mp hb with ⟨-, hb⟩ | ⟨rfl, -, -⟩
    · obtain ⟨n, hn, hj⟩ := ha.borne j z st hb
      refine ⟨n, hn, ?_⟩
      rw [h.zones n, if_neg fun hmem => ?_]
      · exact hj
      · simp [(zone_ok hl hn).holding.mpr (.inl (h.free n hmem).2)] at hj
    · obtain ⟨n, hn⟩ := h.nonempty
      exact ⟨n, (h.free n hn).1, by rw [h.zones n, if_pos hn]; rfl⟩
  offered := fun j z hb => by
    rcases (hb' j z .offered).mp hb with ⟨-, hb⟩ | ⟨rfl, -, -⟩
    · obtain ⟨q, hq, -⟩ := ha.offered j z hb
      simp [h.seqOld] at hq
    · exact ⟨_, h.seq, rfl⟩
  seq := fun q hq => by
    rw [h.seq] at hq
    cases hq
    exact ⟨mask, (hb' i mask .offered).mpr (.inr ⟨rfl, rfl, rfl⟩)⟩
  offer := fun n a j ht => by simp [h.status] at ht
  start := fun j ht => by simp [h.status] at ht
  stop := fun n a j ht => by simp [h.status] at ht
  stops := fun n j hj => by simp [h.jobs] at hj

end

theorem moves_beginSequence {c : Cue} (hc : c ∈ s.cues.queue) (hdue : c.state = .due)
    (hsome : usableZones s.line c.zones ≠ []) (hfree : blockedZones s.line c.zones = []) (hidle : s.line.status = .idle)
    (hjobs : s.line.jobs = []) (hseq : s.line.seq = none) : Moves s (beginSequence c s) := by
  have hbegins (hs : s.line.ok) : LineBegins c.id (usableZones s.line c.zones) s.line (beginSequence c s).line := by
    obtain ⟨hstatus, hkept⟩ := offerZones_line c.id (usableZones s.line c.zones) (updateCue c.id offered s)
    refine ⟨List.exists_mem_of_ne_nil _ hsome, fun n hn => ⟨((mem_usableZones _ _ _).mp hn).1, ?_⟩, ?_, fun n => ?_, hseq, rfl,
      hstatus.trans hidle, hkept.trans hjobs⟩
    · have havail : availableZone s.line n = true := by
        refine Bool.not_eq_false _ |>.mp fun hno => ?_
        have hmem := mem_blockedZones.mpr ⟨hn, hno⟩
        rw [hfree] at hmem
        cases hmem
      simp only [availableZone, Bool.and_eq_true, beq_iff_eq] at havail
      exact havail.1.1
    · exact (foldl_zones_length (fun _ _ => setZone_length _ _ _) _ _).trans hs.eight
    · exact offerZones_zone c.id n (s := updateCue c.id offered s) (nodup_usableZones _ _) fun m hm =>
        hs.eight.symm ▸ ((mem_usableZones _ _ _).mp hm).1
  have hcues : (beginSequence c s).cues = (updateCue c.id offered s).cues :=
    touches_offerZones c.id (usableZones s.line c.zones) (updateCue c.id offered s) .cues (by decide)
  refine ⟨fun hs => (hbegins hs).ok hs, fun hs hids ha => ⟨cueIds_of_cues hcues (cueIds_updateCue _ (fun _ => rfl) hids), ?_⟩⟩
  rw [hcues]
  refine (hbegins hs).accord hs (fun n hn => ((mem_usableZones _ _ _).mp hn).2.1) (fun z st hb => ?_)
    (bears_updateCue hids hc (f := offered) (fun _ => rfl) rfl) ha
  obtain ⟨x, hx, hline, hxc, -⟩ := hb
  rw [hids.eq hx hc hxc, onLine_iff, hdue] at hline
  simp at hline

/-! ### The arbiter (R130, R131) -/

theorem moves_chooseCue (hidle : s.line.status = .idle) (hjobs : s.line.jobs = []) (hseq : s.line.seq = none) :
    Moves s (chooseCue s) := by
  unfold chooseCue
  split
  next => exact .refl s
  next c hc =>
    refine .ite (fun hfree => ?_) fun _ => moves_preemptFor c s
    obtain ⟨hmem, helig⟩ := List.mem_filter.mp (pickFirst_mem hc)
    obtain ⟨hdue, -⟩ := of_eligible helig
    refine moves_beginSequence hmem hdue (fun hnone => ?_) (List.isEmpty_iff.mp hfree) hidle hjobs hseq
    simp [eligible, hnone] at helig

theorem moves_arbitrate (s : State) : Moves s (arbitrate s) := by
  refine .ite (fun hready => ?_) fun _ => .refl s
  have hidle : s.line.status = .idle := by simpa using (Bool.and_eq_true_iff.mp hready).1
  unfold arbiterWork
  split
  next j rest hjobs =>
    refine moves_sends rfl fun _ => ⟨rfl, rfl, fun k hk => hjobs ▸ List.mem_cons_of_mem j hk,
      fun q hq => ⟨q, hq, rfl, fun _ => id⟩, fun q hq => ⟨q, hq, rfl, fun _ => id⟩, ?_⟩
    cases j
    case stop n i =>
      change LineJob.stop n i ∈ s.line.jobs
      rw [hjobs]
      exact List.mem_cons_self
    case cancel a i => trivial
  next hjobs =>
    split
    next hseq => exact moves_sendTransaction hseq
    next i n rest hseq =>
      split
      next hdue => exact moves_sendPoll hdue
      next =>
        refine moves_sends rfl fun _ => ⟨rfl, rfl, fun _ => id, fun q hq => ?_, fun q hq => ?_, ?_⟩
        · cases hq
          exact ⟨_, hseq, rfl, fun m hm => List.mem_cons_of_mem n hm⟩
        · rw [hseq] at hq
          cases hq
          exact ⟨_, rfl, rfl, fun m hm => List.mem_cons_of_mem n hm⟩
        · exact ⟨_, hseq, rfl, List.mem_cons_self⟩
    next hseq =>
      split
      next hdue => exact moves_sendPoll hdue
      next => exact moves_chooseCue hidle hjobs hseq

/-! ### A sequence plays (R133) -/

/-- The line once the START of cue `i` has been sent: the zones of its sequence play. -/
structure LineStarts (i : Nat) (l l' : LineCtl) : Prop where
  eight : l'.zones.length = 8
  zones : ∀ n, l'.zone n = if n ∈ offeredZones l i then startedZone (l.zone n) else l.zone n
  seq : l'.seq = none
  status : l'.status = .idle
  jobs : l'.jobs = l.jobs

section

variable {i : Nat} {l l' : LineCtl}

theorem startedZone_ok {z : Zone} (h : z.ok) (hoffered : z.state = .offered) : (startedZone z).ok where
  holding := by
    obtain ⟨i, hi⟩ := holding_of_state h (.inl hoffered)
    simp [startedZone, hi]
  miss := h.miss
  faultMiss := nofun
  timer := fun _ => .inl rfl
  pollDue := fun _ => .inl rfl
  pendingAddr := fun _ => ⟨nofun, nofun⟩

theorem LineStarts.ok (h : LineStarts i l l') (hl : l.ok) : l'.ok where
  eight := h.eight
  zones := zones_ok_of_forall h.eight fun n hn => by
    rw [h.zones n]
    split
    next hmem => exact startedZone_ok (zone_ok hl hn) (mem_offeredZones.mp hmem).2.1
    next => exact zone_ok hl hn
  seq := fun q hq => by simp [h.seq] at hq
  stops := fun n j hj => by
    obtain ⟨hn, hs⟩ := hl.stops n j (h.jobs ▸ hj)
    rw [h.zones n, if_neg fun hmem => ?_]
    · exact ⟨hn, hs⟩
    · exact absurd ((mem_offeredZones.mp hmem).2.1.symm.trans hs) nofun
  offer := fun n a j ht => by simp [h.status] at ht
  stop := fun n a j ht => by simp [h.status] at ht
  poll := fun n a ht => by simp [h.status] at ht
  quiet := fun left hq => by simp [h.status] at hq

/-- What a zone holds stays. -/
theorem LineStarts.holding (h : LineStarts i l l') (n : Nat) : (l'.zone n).holding = (l.zone n).holding := by
  rw [h.zones n]
  split <;> rfl

theorem LineStarts.accord (h : LineStarts i l l') {b b' : Bearing} {mask : BitVec 8} (hseq : l.seq = some { cueId := i, left := [] })
    (hmask : ∀ z st, b i z st → z = mask ∧ st = .offered)
    (hb' : ∀ j z st, b' j z st ↔ (j ≠ i ∧ b j z st) ∨ (j = i ∧ z = mask ∧ st = .playing)) (ha : Accord l b) :
    Accord l' b' where
  held := fun n hn j hj => by
    obtain ⟨z, st, hb, hbit, hoff, hplay⟩ := ha.held n hn j (h.holding n ▸ hj)
    by_cases hji : j = i
    · subst hji
      obtain ⟨rfl, rfl⟩ := hmask z st hb
      have hstate : (l.zone n).state = .offered := by
        by_contra hno
        simpa using hplay hno
      refine ⟨z, .playing, (hb' j z .playing).mpr (.inr ⟨rfl, rfl, rfl⟩), hbit, fun hs => ?_, fun _ => rfl⟩
      rw [h.zones n, if_pos (mem_offeredZones.mpr ⟨hn, hstate, h.holding n ▸ hj⟩)] at hs
      cases hs
    · have hsame : l'.zone n = l.zone n := by
        rw [h.zones n, if_neg fun hmem => hji ?_]
        exact Option.some_inj.mp ((h.holding n ▸ hj).symm.trans (mem_offeredZones.mp hmem).2.2)
      rw [hsame]
      exact ⟨z, st, (hb' j z st).mpr (.inl ⟨hji, hb⟩), hbit, hoff, hplay⟩
  borne := fun j z st hb => by
    simp only [h.holding]
    rcases (hb' j z st).mp hb with ⟨-, hb⟩ | ⟨rfl, -, -⟩
    · exact ha.borne j z st hb
    · obtain ⟨z, hb⟩ := ha.seq _ hseq
      exact ha.borne _ z _ hb
  offered := fun j z hb => by
    rcases (hb' j z .offered).mp hb with ⟨hne, hb⟩ | ⟨-, -, hst⟩
    · obtain ⟨q, hq, rfl⟩ := ha.offered j z hb
      rw [hseq] at hq
      cases hq
      exact absurd rfl hne
    · cases hst
  seq := fun q hq => by simp [h.seq] at hq
  offer := fun n a j ht => by simp [h.status] at ht
  start := fun j ht => by simp [h.status] at ht
  stop := fun n a j ht => by simp [h.status] at ht
  stops := fun n j hj => (h.holding n).trans (ha.stops n j (h.jobs ▸ hj))

end

theorem startZones_jobs (zs : List Nat) (s : State) : (startZones zs s).line.jobs = s.line.jobs :=
  List.foldlRecOn (motive := fun (u : State) => u.line.jobs = s.line.jobs) zs _ rfl fun _ hu _ _ => hu

theorem startZones_starts (i : Nat) (hs : s.line.ok) :
    LineStarts i s.line (startZones (offeredZones s.line i) (cueStarted i s)).line := by
  have hline : (cueStarted i s).line = { s.line with seq := none, status := .idle, timer := 0 } := rfl
  obtain ⟨hstatus, hseq⟩ := startZones_status (offeredZones s.line i) (cueStarted i s)
  refine ⟨(startZones_length _ _).trans hs.eight, fun n => ?_, hseq, hstatus, startZones_jobs _ _⟩
  exact startZones_zone n (s := cueStarted i s) (nodup_range8_filter _) fun m hm => hs.eight.symm ▸ (mem_offeredZones.mp hm).1

theorem moves_startSent (s : State) : Moves s (startSent s) := by
  by_cases hstart : ∃ i, s.line.status = .transaction (.start i)
  · obtain ⟨i, hstatus⟩ := hstart
    rw [startSent_eq hstatus]
    refine Moves.intro fun hs => ?_
    have hstarts := startZones_starts i hs
    have hcues : (startZones (offeredZones s.line i) (cueStarted i s)).cues = (updateCue i playing s).cues :=
      touches_startZones _ _ .cues (by decide)
    have hstarted : Moves s (startZones (offeredZones s.line i) (cueStarted i s)) := by
      refine ⟨hstarts.ok, fun _ hids ha => ⟨cueIds_of_cues hcues (cueIds_updateCue i (fun _ => rfl) hids), ?_⟩⟩
      have hseq := ha.start i hstatus
      obtain ⟨z, hb⟩ := ha.seq _ hseq
      have hunique (z' : BitVec 8) (st' : CueState) (hb' : Bears s.cues.queue i z' st') : z' = z ∧ st' = .offered :=
        bears_unique hids hb' hb
      obtain ⟨c, hc, hline, rfl, rfl, -⟩ := hb
      rw [hcues]
      exact hstarts.accord hseq hunique (bears_updateCue hids hc (f := playing) (fun _ => rfl) rfl) ha
    refine hstarted.trans (moves_haltZones ((nodup_range8_filter _).filter _) fun n hn => ?_)
    have hmem := List.mem_of_mem_filter hn
    rw [hstarts.zones n, if_pos hmem]
    exact ⟨(mem_offeredZones.mp hmem).1, rfl⟩
  · unfold startSent
    split
    next i hi => exact absurd ⟨i, hi⟩ hstart
    next => exact .refl s

end Sys2Proof.Laws
end

section
/-! SUPPORT. Zones released and sequences that fail: replies, misses and the timer of the line (R126, R132 to R138). -/

namespace Sys2Proof.Laws

open Sys2Proof Sys2Proof.Machine

variable {s : State}

/-! ### One zone released (R135, R137, R142) -/

theorem freed_ok {z : Zone} (h : z.ok) : z.freed.ok ∧ z.freed.holding = none :=
  ⟨⟨by simp [Zone.freed], h.miss, nofun, nofun, nofun, nofun⟩, rfl⟩

theorem faulted_ok (z : Zone) : z.faulted.ok ∧ z.faulted.holding = none := by
  unfold Zone.faulted
  split
  · exact ⟨⟨by simp, Nat.zero_le _, nofun, nofun, nofun, nofun⟩, rfl⟩
  · exact ⟨⟨by simp, Nat.le_refl 3, fun _ => rfl, fun _ => .inr rfl, nofun, nofun⟩, rfl⟩

/-- The line with one zone replaced and its pending STOP withdrawn. -/
def withoutStop (n : Nat) (z : Zone) (l : LineCtl) : LineCtl :=
  { l.setZone n z with jobs := l.jobs.filter (sparesStop n) }

theorem faultZone_line (n : Nat) (s : State) : (faultZone n s).line = withoutStop n (s.line.zone n).faulted s.line := by
  have hput (u : State) (hu : u.line = s.line) :
      (withdrawStop n (putZone n (s.line.zone n).faulted u)).line = withoutStop n (s.line.zone n).faulted s.line := by
    rw [withdrawStop_eq, ← hu]
    rfl
  have htold : (queueReport (.zoneFault n (s.line.zone n).addr) s).line = s.line :=
    touches_queueReport s _ .line (by decide)
  unfold faultZone
  simp only
  split
  next => exact (touches_noZoneCheck _ .line (by decide)).trans (hput _ htold)
  next => exact hput _ htold

theorem withoutStop_jobs {n m i : Nat} {z : Zone} {l : LineCtl} (h : LineJob.stop m i ∈ (withoutStop n z l).jobs) :
    LineJob.stop m i ∈ l.jobs ∧ m ≠ n := by
  obtain ⟨hmem, hspares⟩ := List.mem_filter.mp h
  exact ⟨hmem, by simpa [sparesStop] using hspares⟩

section

variable {n : Nat} {z : Zone} {l : LineCtl}

theorem withoutStop_drops (hl : l.ok) (hn : n < 8) (hz : z.ok ∧ z.holding = none) {i : Nat}
    (hi : (l.zone n).holding = some i) (hstate : (l.zone n).state ≠ .offered) (hidle : ∀ t, l.status ≠ .transaction t) :
    LineDrops i (fun m => m = n) l (withoutStop n z l) := by
  have hlen : n < l.zones.length := hl.eight.symm ▸ hn
  refine ⟨(setZone_length l n z).trans hl.eight, fun m _ hm => ?_, fun m hm hne => ?_, fun m j hj => withoutStop_jobs hj, hidle,
    hl.quiet, .inr ⟨rfl, fun m _ hm => hm ▸ hstate⟩⟩
  · subst hm
    change _ ∧ ((l.setZone m z).zone m).ok ∧ ((l.setZone m z).zone m).holding = none
    rw [zone_setZone_same hlen]
    exact ⟨hi, hz⟩
  · change ZoneKept _ ((l.setZone n z).zone m)
    rw [setZone_zone_other l z hne]
    exact .refl (zone_ok hl hm)

theorem withoutStop_kept (hl : l.ok) (hn : n < 8) (hz : z.ok ∧ z.holding = none) (hnone : (l.zone n).holding = none) :
    LineKept l (withoutStop n z l) := by
  have hset := LineKept.of_setZone hl hn (.of_unheld (zone_ok hl hn) hz.1 hnone hz.2)
  exact ⟨hset.eight, hset.zones, rfl, fun m i hj => .inl (withoutStop_jobs hj).1, fun _ => id, hl.quiet⟩

end

theorem leaves_endPlay (i : Nat) (s : State) : Leaves i s (endPlay i s) := by
  unfold endPlay
  split
  next hnone =>
    refine fun hids => ⟨hids, fun j z st => ⟨fun hb => ⟨fun hji => ?_, hb⟩, And.right⟩⟩
    obtain ⟨c, hc, -, hcj, -⟩ := hb
    have hno := List.find?_eq_none.mp hnone c hc
    simp [hcj, hji] at hno
  next =>
    exact .ite (fun _ => .ite (fun _ => leaves_returnCue s i none) fun _ => leaves_dropCues s i _)
      fun _ => (leaves_removeCue s i).rests (rests_queueReport _ _)

theorem endPlay_line (i : Nat) (s : State) : (endPlay i s).line = s.line := touches_endPlay s i .line (by decide)

theorem rests_countedZone (i n : Nat) (completed : Bool) (s : State) : Rests s (updateCue i (countedZone n completed) s) := by
  have hsame (c : Cue) : (countedZone n completed c).zones = c.zones ∧ (countedZone n completed c).state = c.state := by
    cases completed <;> exact ⟨rfl, rfl⟩
  refine .of_map (updateCue_queue i _ s) rfl (fun c => ?_) fun _ c _ => unmoved_of_fields (fun c => ?_) (fun c => ?_) (fun c => ?_) c
  all_goals split
  · exact countedZone_id n completed c
  · rfl
  · exact countedZone_id n completed c
  · rfl
  · exact (hsame c).1
  · rfl
  · exact (hsame c).2
  · rfl

/-- R137, R140: a zone released from its cue, which leaves the line when it held no other. -/
theorem moves_releaseFrom {t : State} {i n : Nat} (completed : Bool) (hn : n < 8) (hi : (s.line.zone n).holding = some i)
    (hstate : (s.line.zone n).state ≠ .offered) (hr : Rests s t) (hseq : t.line.seq = s.line.seq)
    (hdrop : s.line.ok → LineDrops i (fun m => m = n) s.line t.line) : Moves s (releaseFrom i n completed t) := by
  have hcount : Rests s (updateCue i (countedZone n completed) t) := hr.trans (rests_countedZone i n completed t)
  rw [releaseFrom_eq]
  by_cases hlast : (zonesHolding t.line i).isEmpty = true
  · rw [if_pos hlast]
    have hline : (endPlay i (updateCue i (countedZone n completed) t)).line = t.line := endPlay_line _ _
    have hleft : Leaves i s (endPlay i (updateCue i (countedZone n completed) t)) := hcount.leaves (leaves_endPlay i _)
    refine ⟨fun hs => hline.symm ▸ (hdrop hs).ok hs, fun hs hids ha => ?_⟩
    obtain ⟨hids', hbears⟩ := hleft hids
    rw [hline]
    refine ⟨hids', (hdrop hs).accord_left hs hbears (zonesHolding_isEmpty.mp hlast) (fun q hq => .inr ⟨fun hqi => ?_, hseq⟩) ha⟩
    obtain ⟨z, hb⟩ := ha.seq q hq
    obtain ⟨z', st, hb', -, -, hplay⟩ := ha.held n hn i hi
    obtain ⟨-, hst⟩ := bears_unique hids hb (hqi ▸ hb')
    exact absurd (hst.trans (hplay hstate)) nofun
  · rw [if_neg hlast]
    refine ⟨fun hs => (hdrop hs).ok hs, fun hs hids ha => ?_⟩
    obtain ⟨hids', hbears⟩ := hcount hids
    rw [hbears]
    refine ⟨hids', (hdrop hs).accord hs hseq ?_ ha⟩
    rw [zonesHolding_isEmpty] at hlast
    push Not at hlast
    exact hlast

/-! ### A zone freed, or taken to FAULT -/

theorem rests_freeZone (n : Nat) (s : State) : Rests s (freeZone n s) :=
  have free : Rests s (withdrawStop n (putZone n (s.line.zone n).freed s)) :=
    .of_touches ((touches_putZone s n _).trans (touches_withdrawStop _ n)) (by decide)
  .ite (free.trans (rests_noZoneCheck _)) free

theorem rests_faultZone (n : Nat) (s : State) : Rests s (faultZone n s) :=
  have put (u : State) : Rests u (withdrawStop n (putZone n (s.line.zone n).faulted u)) :=
    .of_touches ((touches_putZone u n _).trans (touches_withdrawStop _ n)) (by decide)
  have fault := (rests_queueReport s (.zoneFault n (s.line.zone n).addr)).trans (put _)
  .ite (fault.trans (rests_noZoneCheck _)) fault

section

variable {n : Nat} (hn : n < 8) (hstate : (s.line.zone n).state ≠ .offered) (hidle : ∀ t, s.line.status ≠ .transaction t)

include hn hstate hidle

theorem moves_freeAndRelease (completed : Bool) : Moves s (freeAndRelease n completed s) := by
  have hline : (freeZone n s).line = withoutStop n (s.line.zone n).freed s.line := freeZone_line n s
  unfold freeAndRelease
  split
  next hnone =>
    refine .of_kept (rests_freeZone n s) fun hs => ?_
    rw [hline]
    exact withoutStop_kept hs hn (freed_ok (zone_ok hs hn)) hnone
  next i hi =>
    refine moves_releaseFrom completed hn hi hstate (rests_freeZone n s) (by rw [hline]; rfl) fun hs => ?_
    rw [hline]
    exact withoutStop_drops hs hn (freed_ok (zone_ok hs hn)) hi hstate hidle

theorem moves_faultAndRelease : Moves s (faultAndRelease n s) := by
  unfold faultAndRelease
  split
  next hnone =>
    refine Moves.trans (.of_kept (rests_faultZone n s) fun hs => ?_) (moves_noZoneCheck _)
    rw [faultZone_line]
    exact withoutStop_kept hs hn (faulted_ok _) hnone
  next i hi =>
    refine (moves_releaseFrom false hn hi hstate (rests_faultZone n s) (by rw [faultZone_line]; rfl) fun hs => ?_).trans
      (moves_noZoneCheck _)
    rw [faultZone_line]
    exact withoutStop_drops hs hn (faulted_ok _) hi hstate hidle

end

/-! ### A sequence fails (R134) -/

theorem failSequence_line (i : Nat) (t : State) :
    (failSequence i t).line.status = t.line.status ∧ (failSequence i t).line.timer = t.line.timer ∧
      (failSequence i t).line.seq = none ∧ (failSequence i t).line.zones.length = t.line.zones.length ∧
      ∀ n j, LineJob.stop n j ∈ (failSequence i t).line.jobs → LineJob.stop n j ∈ t.line.jobs := by
  have hline : (failSequence i t).line = _ := touches_returnCue _ i (some ((t.time.second : Int) + 1)) .line (by decide)
  rw [hline]
  obtain ⟨hstatus, htimer, hseq, -, hlen, hjobs⟩ := foldl_freeZone_line (offeredZones t.line i)
    (t.setLine { t.line with jobs := t.line.jobs ++ cancelJobs t.line i, seq := none })
  refine ⟨hstatus, htimer, hseq, hlen, fun n j hj => ?_⟩
  rcases List.mem_append.mp (List.mem_of_mem_filter (hjobs ▸ hj)) with hj | hj
  · exact hj
  · obtain ⟨m, -, hcancel⟩ := List.mem_map.mp hj
    cases hcancel

theorem failSequence_zone {i : Nat} {t : State} (h8 : t.line.zones.length = 8) (m : Nat) :
    (failSequence i t).line.zone m = if m ∈ offeredZones t.line i then (t.line.zone m).freed else t.line.zone m := by
  have hline : (failSequence i t).line = _ := touches_returnCue _ i (some ((t.time.second : Int) + 1)) .line (by decide)
  rw [hline]
  exact foldl_freeZone_zone m (offeredZones t.line i)
    (t.setLine { t.line with jobs := t.line.jobs ++ cancelJobs t.line i, seq := none }) (nodup_range8_filter _)
    fun n hn => h8.symm ▸ (mem_offeredZones.mp hn).1

theorem leaves_failSequence (i : Nat) (t : State) : Leaves i t (failSequence i t) := by
  have hset : Rests t (t.setLine { t.line with jobs := t.line.jobs ++ cancelJobs t.line i, seq := none }) := .of_cues rfl
  exact (hset.trans (rests_foldl (fun u n => rests_freeZone n u) _ _)).leaves (leaves_returnCue _ i _)

/-- The line whose sequence is about to fail: between `l` and it no transaction is left, and a zone of the sequence may have
gone to FAULT. -/
structure LineFailing (i : Nat) (l l' : LineCtl) : Prop where
  eight : l'.zones.length = 8
  zones : ∀ n, n < 8 → ZoneKept (l.zone n) (l'.zone n) ∨
    (n ∈ offeredZones l i ∧ (l'.zone n).ok ∧ (l'.zone n).holding = none)
  jobs : ∀ n j, LineJob.stop n j ∈ l'.jobs → LineJob.stop n j ∈ l.jobs
  idle : ∀ t, l'.status ≠ .transaction t
  quiet : QuietOk l'

theorem LineFailing.drops {i : Nat} {l : LineCtl} {t : State} (h : LineFailing i l t.line) (hl : l.ok) :
    LineDrops i (fun m => m ∈ offeredZones l i) l (failSequence i t).line := by
  obtain ⟨hstatus, htimer, hseq, hlen, hjobs⟩ := failSequence_line i t
  have hkept {n : Nat} (hz : ZoneKept (l.zone n) (t.line.zone n)) : n ∈ offeredZones t.line i ↔ n ∈ offeredZones l i := by
    rw [mem_offeredZones, mem_offeredZones, hz.offered, hz.holding]
  refine ⟨hlen.trans h.eight, fun n hn hmem => ⟨(mem_offeredZones.mp hmem).2.2, ?_⟩, fun n hn hmem => ?_, fun n j hj => ?_,
    fun tr ht => h.idle tr (hstatus.symm.trans ht), fun left hq => ?_, .inl hseq⟩
  · rw [failSequence_zone h.eight n]
    rcases h.zones n hn with hz | ⟨-, hunheld⟩
    · rw [if_pos ((hkept hz).mpr hmem)]
      exact freed_ok hz.ok
    · rw [if_neg fun hmem' => absurd (hunheld.2.symm.trans (mem_offeredZones.mp hmem').2.2) nofun]
      exact hunheld
  · rw [failSequence_zone h.eight n]
    rcases h.zones n hn with hz | ⟨hmem', -⟩
    · rwa [if_neg fun hmem' => hmem ((hkept hz).mp hmem')]
    · exact absurd hmem' hmem
  · have hold := h.jobs n j (hjobs n j hj)
    refine ⟨hold, fun hmem => ?_⟩
    exact absurd ((mem_offeredZones.mp hmem).2.1.symm.trans (hl.stops n j hold).2) nofun
  · rw [htimer]
    exact h.quiet left (hstatus.symm.trans hq)

/-- R134: an OFFER in flight whose sequence fails. -/
theorem moves_failSequence {t : State} {n a i : Nat} (hstatus : s.line.status = .transaction (.offer n a i)) (hr : Rests s t)
    (h : s.line.ok → LineFailing i s.line t.line) : Moves s (failSequence i t) := by
  refine ⟨fun hs => ((h hs).drops hs).ok hs, fun hs hids ha => ?_⟩
  obtain ⟨hids', hbears⟩ := hr.leaves (leaves_failSequence i t) hids
  have hdrops := (h hs).drops hs
  obtain ⟨q, hq, hqi⟩ := ha.offer n a i hstatus
  obtain ⟨z, hoffered⟩ := ha.seq q hq
  rw [hqi] at hoffered
  refine ⟨hids', hdrops.accord_left hs hbears (fun m hm hheld => ?_) (fun q' hq' => ?_) ha⟩
  · by_cases hmem : m ∈ offeredZones s.line i
    · simp [(hdrops.dropped m hm hmem).2.2] at hheld
    · have hheld := (hdrops.kept m hm hmem).holding ▸ hheld
      have hstate : (s.line.zone m).state ≠ .offered := fun hst => hmem (mem_offeredZones.mpr ⟨hm, hst, hheld⟩)
      obtain ⟨z', st, hb, -, -, hplay⟩ := ha.held m hm i hheld
      obtain ⟨-, hst⟩ := bears_unique hids hoffered hb
      exact absurd (hst.trans (hplay hstate)) nofun
  · rw [hq] at hq'
    cases hq'
    exact .inl ⟨hqi, (failSequence_line i t).2.2.1⟩

/-- The zone of an OFFER is one of its sequence. -/
theorem mem_offeredZones_of_offer {l : LineCtl} {n a i : Nat} (hl : l.ok) (h : l.status = .transaction (.offer n a i)) :
    n ∈ offeredZones l i := mem_offeredZones.mpr (hl.offer n a i h)

/-- The zone of a failed OFFER has its misses counted, with the line between transactions. -/
theorem failing_setMiss {u : State} {n a i k : Nat} (hl : s.line.ok) (hstatus : s.line.status = .transaction (.offer n a i))
    (hzones : u.line.zones = s.line.zones) (hjobs : u.line.jobs = s.line.jobs) (hidle : ∀ t, u.line.status ≠ .transaction t)
    (hquiet : QuietOk u.line) (hk : k ≤ 3) : LineFailing i s.line (setMiss n k u).line := by
  obtain ⟨hn, hstate, -⟩ := hl.offer n a i hstatus
  have hzone := zone_of_zones hzones
  have hlen : n < u.line.zones.length := by rw [hzones, hl.eight]; exact hn
  refine ⟨(setMiss_length n k u).trans (hzones ▸ hl.eight), fun m hm => .inl ?_, fun m j hj => hjobs ▸ hj, hidle, hquiet⟩
  rw [setMiss_zone hlen, hzone n, hzone m]
  split
  next heq => exact heq ▸ zoneKept_miss (zone_ok hl hn) (by rw [hstate]; nofun) hk
  next => exact .refl (zone_ok hl hm)

/-- The zone of a failed OFFER goes to FAULT, with the line between transactions. -/
theorem failing_faultZone {u : State} {n a i : Nat} (hl : s.line.ok) (hstatus : s.line.status = .transaction (.offer n a i))
    (hzones : u.line.zones = s.line.zones) (hjobs : u.line.jobs = s.line.jobs) (hidle : ∀ t, u.line.status ≠ .transaction t)
    (hquiet : QuietOk u.line) : LineFailing i s.line (faultZone n u).line := by
  obtain ⟨hn, -, -⟩ := hl.offer n a i hstatus
  have hzone := zone_of_zones hzones
  have hlen : n < u.line.zones.length := by rw [hzones, hl.eight]; exact hn
  rw [faultZone_line]
  refine ⟨(setZone_length _ n _).trans (hzones ▸ hl.eight), fun m hm => ?_, fun m j hj => hjobs ▸ (withoutStop_jobs hj).1,
    hidle, hquiet⟩
  change _ ∨ (_ ∧ ((u.line.setZone n (u.line.zone n).faulted).zone m).ok ∧
    ((u.line.setZone n (u.line.zone n).faulted).zone m).holding = none)
  by_cases hmn : m = n
  · subst hmn
    rw [zone_setZone_same hlen]
    exact .inr ⟨mem_offeredZones_of_offer hl hstatus, faulted_ok _⟩
  · refine .inl ?_
    change ZoneKept _ ((u.line.setZone n _).zone m)
    rw [setZone_zone_other _ _ hmn, hzone m]
    exact .refl (zone_ok hl hm)

end Sys2Proof.Laws
end

section
/-! SUPPORT. Replies, windows that close, and the timer of the line (R126, R132 to R138). -/

namespace Sys2Proof.Laws

open Sys2Proof Sys2Proof.Machine

variable {s : State}

/-! ### STOP and POLL (R136 to R138) -/

/-- One zone is addressed by no OFFER, with the line between transactions. -/
structure Polled (n : Nat) (s : State) : Prop where
  lt : n < 8
  state : (s.line.zone n).state ≠ .offered
  idle : ∀ t, s.line.status ≠ .transaction t

/-- A miss count counted first. -/
theorem polled_setMiss {n : Nat} (h : Polled n s) (h8 : s.line.zones.length = 8) (k : Nat) : Polled n (setMiss n k s) := by
  refine ⟨h.lt, ?_, h.idle⟩
  rw [setMiss_zone (h8.symm ▸ h.lt), if_pos rfl]
  exact h.state

theorem moves_countedRelease {n k : Nat} (h : Polled n s) (hfault : (s.line.zone n).state ≠ .fault) (hk : k ≤ 3)
    (completed : Bool) : Moves s (freeAndRelease n completed (setMiss n k s)) := by
  refine Moves.intro fun hs => (moves_setMiss h.lt hfault hk).trans ?_
  have hp := polled_setMiss h hs.eight k
  exact moves_freeAndRelease hp.lt hp.state hp.idle completed

theorem moves_missStop {n : Nat} (h : Polled n s) (hfault : (s.line.zone n).state ≠ .fault) : Moves s (missStop n s) :=
  .ite (fun _ => moves_faultAndRelease h.lt h.state h.idle) fun hm => moves_countedRelease h hfault (by omega) false

theorem moves_missPoll {n : Nat} (h : Polled n s) : Moves s (missPoll n s) := by
  have faulted : Moves s (faultAndRelease n s) := moves_faultAndRelease h.lt h.state h.idle
  unfold missPoll
  split
  next hs => exact moves_putZone h.lt fun hok => zoneKept_polled (zone_ok hok h.lt) _ (by omega) (.inr hs) fun _ => rfl
  next hs =>
    refine .ite (fun _ => faulted) fun hm => moves_putZone h.lt fun hok => ?_
    exact zoneKept_polled (zone_ok hok h.lt) _ (by omega) (.inl hs) fun hf => by simp [hs] at hf
  next hfault _ => exact .ite (fun _ => faulted) fun hm => moves_setMiss h.lt hfault (by omega)

theorem moves_recoverZone {n : Nat} (hn : n < 8) (hfault : (s.line.zone n).state = .fault) : Moves s (recoverZone n s) := by
  refine (moves_putZone hn fun hs => ?_).trans (.of_touches (touches_queueReport _ _) (by decide))
  have hz := zone_ok hs hn
  have hfreed := freed_ok hz
  exact .of_unheld hz ⟨hfreed.1.holding, Nat.zero_le _, nofun, nofun, nofun, nofun⟩ (hz.holding.mpr (.inr hfault)) rfl

theorem moves_onPlaying {n : Nat} (hn : n < 8) : Moves s (onPlaying n s) := by
  unfold onPlaying
  split
  next hs => exact moves_recoverZone hn hs
  next hs =>
    exact moves_putZone hn fun hok => zoneKept_polled (zone_ok hok hn) _ (Nat.zero_le _) (.inl hs) fun hf => by simp [hs] at hf
  next hfault _ => exact moves_setMiss hn hfault (Nat.zero_le _)

theorem moves_onEnded {n : Nat} (h : Polled n s) : Moves s (onEnded n s) := by
  unfold onEnded
  split
  next hs => exact moves_recoverZone h.lt hs
  next hs => exact moves_countedRelease h (by simp [hs]) (Nat.zero_le _) true
  next hs => exact moves_countedRelease h (by simp [hs]) (Nat.zero_le _) true
  next hfault _ _ => exact moves_setMiss h.lt hfault (Nat.zero_le _)

/-! ### Replies (R124, R126) -/

theorem polled_of_zones {n : Nat} {u : State} (hn : n < 8) (hstate : (s.line.zone n).state ≠ .offered)
    (hzones : u.line.zones = s.line.zones) (hidle : ∀ t, u.line.status ≠ .transaction t) : Polled n u :=
  ⟨hn, by rwa [zone_of_zones hzones], hidle⟩

theorem lineIdle_idle (s : State) (t : Transaction) : (lineIdle s).line.status ≠ .transaction t := nofun

theorem moves_onTaken {n a i : Nat} (hstatus : s.line.status = .transaction (.offer n a i)) :
    Moves s (onTaken n (lineIdle s)) := by
  refine Moves.intro fun hs => ?_
  obtain ⟨hn, hstate, -⟩ := hs.offer n a i hstatus
  refine (moves_lineIdle s).trans (moves_putZone hn fun hok => ?_)
  have hz := zone_ok hok hn
  exact ⟨{ hz with miss := Nat.zero_le _, faultMiss := fun hf => absurd (hstate.symm.trans hf) nofun }, rfl, Iff.rfl, id⟩

theorem moves_onBusy {n a i : Nat} (hstatus : s.line.status = .transaction (.offer n a i)) :
    Moves s (onBusy n i (lineIdle s)) :=
  moves_failSequence hstatus (.of_cues rfl) fun hs =>
    failing_setMiss hs hstatus rfl rfl (lineIdle_idle s) nofun (Nat.zero_le _)

theorem moves_onReply (k : ReplyKind) (chars : List LineChar) (s : State) : Moves s (onReply k chars s) := by
  refine Moves.intro fun hs => ?_
  have idle := moves_lineIdle s
  have polled {n : Nat} (hn : n < 8) (hstate : (s.line.zone n).state ≠ .offered) : Polled n (lineIdle s) :=
    polled_of_zones (s := s) hn hstate rfl (lineIdle_idle s)
  unfold onReply
  split
  next left hquiet =>
    refine .ite (fun _ => .refl s) fun _ => .of_kept (.of_cues rfl) fun hok => ?_
    refine .of_status hok (fun _ => id) fun left' hleft => ?_
    obtain rfl : left = left' := by simpa [hquiet] using hleft
    exact ⟨Nat.min_le_right _ _, (hok.quiet left hquiet).2⟩
  next hstatus =>
    refine .ite (fun _ => ?_) fun _ => .refl s
    split
    next => exact moves_onTaken hstatus
    next => exact moves_onBusy hstatus
    next =>
      obtain ⟨hn, hstate⟩ := hs.stop _ _ _ hstatus
      have hno {st : ZoneState} (h : st ≠ .stopping) : (s.line.zone _).state ≠ st := fun hst => h (hst.symm.trans hstate)
      exact idle.trans (moves_countedRelease (polled hn (hno nofun)) (hno nofun) (Nat.zero_le _) true)
    next => exact idle.trans (moves_onPlaying (hs.poll _ _ hstatus).1)
    next =>
      obtain ⟨hn, hstate⟩ := hs.poll _ _ hstatus
      exact idle.trans (moves_onEnded (polled hn hstate))
    next =>
      obtain ⟨hn, hstate⟩ := hs.poll _ _ hstatus
      exact idle.trans (moves_onEnded (polled hn hstate))
    next => exact .refl s
  next => exact .refl s

/-! ### The reply window (R126, R135) -/

/-- The quiet that follows a window. -/
theorem quietOk_quietLine (l : LineCtl) : QuietOk (quietLine l) := fun left hq => by
  cases hq
  exact ⟨(by decide : (10000 : Nat) ≤ 480000), Nat.le_refl _⟩

theorem moves_missOffer {n a i : Nat} (hstatus : s.line.status = .transaction (.offer n a i)) :
    Moves s (missOffer n i (s.setLine (quietLine s.line))) := by
  have set : Rests s (s.setLine (quietLine s.line)) := .of_cues rfl
  refine .ite (fun _ => ?_) fun hm => ?_
  · refine (moves_failSequence hstatus (set.trans (rests_faultZone n _)) fun hs => ?_).trans (moves_noZoneCheck _)
    exact failing_faultZone hs hstatus rfl rfl nofun (quietOk_quietLine _)
  · exact moves_failSequence hstatus (.of_cues rfl) fun hs =>
      failing_setMiss hs hstatus rfl rfl nofun (quietOk_quietLine _) (by omega)

theorem moves_closeWindow (s : State) : Moves s (closeWindow s) := by
  refine Moves.intro fun hs => ?_
  have quiet : Moves s (s.setLine (quietLine s.line)) :=
    .of_kept (.of_cues rfl) fun hok => .of_status hok nofun (quietOk_quietLine s.line)
  have polled {n : Nat} (hn : n < 8) (hstate : (s.line.zone n).state ≠ .offered) : Polled n (s.setLine (quietLine s.line)) :=
    polled_of_zones (s := s) hn hstate rfl nofun
  cases hstatus : s.line.status with
  | transaction t =>
    cases hawaits : t.awaitsReply with
    | false =>
      have hsame : closeWindow s = s := by simp only [closeWindow, hstatus, hawaits, Bool.false_eq_true, if_false]
      rw [hsame]
      exact .refl s
    | true =>
      rw [closeWindow_eq hstatus hawaits]
      cases t
      case offer n a i => exact moves_missOffer hstatus
      case stop n a i =>
        obtain ⟨hn, hstate⟩ := hs.stop n a i hstatus
        exact quiet.trans (moves_missStop (polled hn (by simp [hstate])) fun hf => absurd (hstate.symm.trans hf) nofun)
      case poll n a =>
        obtain ⟨hn, hstate⟩ := hs.poll n a hstatus
        exact quiet.trans (moves_missPoll (polled hn hstate))
      all_goals exact quiet
  | idle => simp only [closeWindow, hstatus]; exact .refl s
  | quiet left => simp only [closeWindow, hstatus]; exact .refl s
  | lineBreak => simp only [closeWindow, hstatus]; exact .refl s

/-! ### The timer -/

theorem moves_lineTimeout (s : State) : Moves s (lineTimeout s) := by
  unfold lineTimeout
  split
  exacts [.refl s, moves_lineQuietEnd s, moves_lineBreakEnd s, moves_startSent s, moves_cancelSent s, moves_closeWindow s]

theorem tick_transaction {st : LineStatus} {t : Transaction} (h : st.tick = .transaction t) : st = .transaction t := by
  cases st <;> simp_all [LineStatus.tick]

theorem moves_lineTick (s : State) : Moves s (lineTick s) := by
  unfold lineTick
  split
  next => exact .refl s
  next htimer =>
    have spent : Moves s (s.setLine { s.line with timer := 0 }) := .of_kept (.of_cues rfl) fun hs =>
      .of_status hs (fun _ => id) fun left hq => ⟨Nat.zero_le _, (hs.quiet left hq).2⟩
    exact spent.trans (moves_lineTimeout _)
  next k htimer =>
    refine .of_kept (.of_cues rfl) fun hs => .of_status hs (fun t ht => tick_transaction ht) fun left hq => ?_
    cases hst : s.line.status with
    | quiet l =>
      obtain ⟨hle, hmax⟩ := hs.quiet l hst
      rw [hst] at hq
      cases hq
      rw [htimer] at hle
      exact ⟨by omega, by omega⟩
    | idle => simp [hst, LineStatus.tick] at hq
    | transaction t => simp [hst, LineStatus.tick] at hq
    | lineBreak => simp [hst, LineStatus.tick] at hq

end Sys2Proof.Laws
end

section
/-! SUPPORT. The zones, the line and the cues in accord through every step: the breaks, the flush and the resets, and the
theorem that every operation keeps the accord. -/

namespace Sys2Proof.Laws

open Sys2Proof Sys2Proof.Machine

variable {s : State}

/-! ### The line at rest (R127) -/

/-- A controller at rest: eight sound zones that hold nothing, and nothing under way but a break. -/
structure LineRests (l : LineCtl) : Prop where
  eight : l.zones.length = 8
  zones : ∀ n, n < 8 → (l.zone n).ok ∧ (l.zone n).holding = none
  seq : l.seq = none
  jobs : l.jobs = []
  idle : ∀ t, l.status ≠ .transaction t
  still : ∀ left, l.status ≠ .quiet left

theorem moves_of_rests {t : State} (h : s.line.ok → LineRests t.line) (hids : CueIds s → CueIds t)
    (hoff : ∀ c ∈ t.cues.queue, c.onLine = false) : Moves s t := by
  have ok (hs : s.line.ok) : t.line.ok :=
    have hr := h hs
    lineOk_of_rest hr.eight (zones_ok_of_forall hr.eight fun n hn => (hr.zones n hn).1) hr.seq hr.jobs hr.idle hr.still
  refine ⟨ok, fun hs hcues _ => ⟨hids hcues, (accordOk_iff (ok hs)).mp ?_⟩⟩
  have hr := h hs
  exact accordOk_of_rest (fun n hn => (hr.zones n hn).2) hoff hr.seq hr.jobs hr.idle

theorem zoneAfterBreak_ok {z : Zone} (h : z.ok) : (zoneAfterBreak z).ok ∧ (zoneAfterBreak z).holding = none := by
  unfold zoneAfterBreak
  split
  next hs => exact ⟨{ h with pollDue := nofun }, h.holding.mpr (.inr hs)⟩
  next => exact ⟨⟨by simp, h.miss, nofun, nofun, nofun, nofun⟩, rfl⟩

theorem lineBreak_rests (hs : s.line.ok) : LineRests (lineBreak s).line := by
  obtain ⟨hstatus, -, hseq, -, hlen, hjobs⟩ := lineBreak_line s
  refine ⟨hlen.trans hs.eight, fun n hn => ?_, hseq, hjobs, fun t ht => ?_, fun left hq => ?_⟩
  · rw [lineBreak_zone s hs.eight hn]
    exact zoneAfterBreak_ok (zone_ok hs hn)
  · simp [hstatus] at ht
  · simp [hstatus] at hq

theorem rests_setLine (s : State) (l : LineCtl) : Rests s (s.setLine l) := .of_cues rfl

theorem rests_lineBreak (s : State) : Rests s (lineBreak s) :=
  (rests_setLine s _).trans (rests_foldl (fun u n => rests_freeZone n u) _ _)

/-- A queue that has been emptied. -/
theorem cueIds_of_nil {t : State} (hq : t.cues.queue = []) (hn : CueIds s → t.cues.nextId < 256) (hs : CueIds s) : CueIds t :=
  ⟨by simp [hq], by simp [hq], hn hs⟩

theorem moves_flushNode (s : State) : Moves s (flushNode s) := by
  rw [flushNode_eq]
  exact moves_of_rests lineBreak_rests (cueIds_of_nil rfl CueIds.nextId) nofun

theorem moves_stopLine (s : State) : Moves s (stopLine s) := by
  obtain ⟨hq, hn⟩ := dropCues_cues (lineBreak s) Cue.onLine .stopped
  refine moves_of_rests (fun hs => ?_) (fun hids => ?_) fun c hc => ?_
  · have hline : (stopLine s).line = (lineBreak s).line := touches_dropCues _ _ _ .line (by decide)
    exact hline ▸ lineBreak_rests hs
  · exact cueIds_of_sublist (s := lineBreak s) (hq ▸ List.filter_sublist) hn (rests_lineBreak s hids).1
  · change c ∈ (dropCues Cue.onLine .stopped (lineBreak s)).cues.queue at hc
    rw [hq] at hc
    simpa using List.of_mem_filter hc

theorem moves_resetNode (cause : ResetCause) (s : State) : Moves s (resetNode cause s) := by
  rw [resetNode_eq]
  refine moves_of_rests (fun _ => ⟨by simp [afterReset], fun n hn => ?_, rfl, rfl, nofun, nofun⟩)
    (cueIds_of_nil rfl fun _ => Nat.zero_lt_succ 255) nofun
  have hzone : (afterReset cause s).line.zone n = resetZone (s.store.active.zoneTable.getD n 0) := by
    simp [afterReset, LineCtl.zone, List.getD_eq_getElem?_getD, hn]
  rw [hzone]
  exact ⟨zoneOk_resetZone _, rfl⟩

theorem moves_breakReset (s : State) : Moves s (breakReset s) :=
  .ite (fun _ => Moves.trans (.of_touches (touches_setChain s _) (by decide)) (moves_resetNode _ _)) fun _ => .refl s

theorem moves_powerOn (s : State) : Moves s (powerOnState s) :=
  moves_of_rests (fun _ => ⟨rfl, fun n hn => by
    have hzone : (powerOnState s).line.zone n = resetZone 0 := zone_replicate rfl hn
    rw [hzone]
    exact ⟨zoneOk_resetZone 0, rfl⟩, rfl, rfl, nofun, nofun⟩) (cueIds_of_nil rfl fun _ => Nat.zero_lt_succ 255) nofun

/-! ### Changes of node state (R173 to R176) -/

theorem moves_enterIsolated (s : State) : Moves s (enterIsolated s) :=
  Moves.trans (.of_touches (touches_changeState s _ _) (by decide)) (moves_flushNode _)

theorem moves_setNode (v : Node) (s : State) : Moves s (s.setNode v) := .of_touches (touches_setNode s v) (by decide)

theorem moves_queueReport (r : Report) (s : State) : Moves s (queueReport r s) := .of_touches (touches_queueReport s r) (by decide)

theorem moves_holdTick (s : State) : Moves s (holdTick s) :=
  .ite (fun _ => .ite (fun _ => (moves_setNode _ s).trans (moves_enterIsolated _)) fun _ => moves_setNode _ s) fun _ => .refl s

theorem moves_reachHoldoverLimit (s : State) : Moves s (reachHoldoverLimit s) :=
  .ite (fun _ => (moves_setNode _ s).trans (moves_enterIsolated _)) fun _ => .refl s

theorem moves_takePosition (hop : Nat) (s : State) : Moves s (takePosition hop s) := by
  have move : Moves s (s.setChain { s.chain with hopCount := some hop, position := some (hop + 1) }) :=
    .of_touches (touches_setChain s _) (by decide)
  unfold takePosition
  simp only
  split_ifs
  · exact move
  · have changed := Moves.of_touches (touches_changeState
      (s.setChain { s.chain with hopCount := some hop, position := some (hop + 1) }) .positionFault s.chain.position) (by decide)
    exact (move.trans (.ite (fun _ => changed.trans (moves_setNode _ _)) fun _ => changed)).trans (moves_flushNode _)
  · exact move.trans (moves_queueReport _ _)
  · exact move

/-! ### Override control and the tables -/

theorem moves_requestCue (source : CueSource) (key : Nat) (t : Option Nat) (r : Option ServiceRecord) (s : State) :
    Moves s (requestCue source key t r s) :=
  .of_line (rests_requestCue s _ _ _ _) (touches_requestCue s _ _ _ _ .line (by decide))

theorem moves_overrideSet (mode : AddrMode) (body : OverrideBody) (s : State) : Moves s (overrideSet mode body s) := by
  have context : Moves s (s.setOvr (overrideOf body)) := .of_touches (touches_setOvr s _) (by decide)
  refine .ite (fun _ => .ite (fun _ => .of_touches (touches_reportIfPosition s _ _) (by decide)) fun _ =>
    .ite (fun _ => ?_) fun _ => moves_queueReport _ s) fun _ => .refl s
  exact Moves.trans (.ite (fun _ => context.trans (moves_stopLine _)) fun _ => context) (moves_requestCue _ _ _ _ _)

theorem moves_switchBank (held : Option Nat) (gen : Nat) (s : State) : Moves s (switchBank held gen s) := by
  unfold switchBank
  split
  next => exact .of_touches (touches_refuseSwitch s _ _ _) (by decide)
  next =>
    have selected : Moves s (rebaseline (reselectAll (exchangeBanks gen s))) :=
      (Moves.trans (.of_touches (touches_setStore s _) (by decide)) (.of_touches (touches_reselectAll _) (by decide))).trans
        (.of_touches (touches_rebaseline _) (by decide))
    have works : Moves s (switchWorks gen s) :=
      ((selected.trans (moves_compareZones _)).trans (.of_touches (touches_setDayStart _ _) (by decide))).trans
        (moves_queueReport _ _)
    rw [acceptSwitch_eq]
    exact works.trans (.of_touches (touches_completeJoining _ _) (by decide))

theorem moves_bankSwitch (s : State) : Moves s (bankSwitch s) := by
  unfold bankSwitch
  split
  next => exact .refl s
  next => exact .ite (fun _ => moves_switchBank _ _ s) fun _ => .refl s

theorem moves_tableCommit (held : Option Nat) (mode : AddrMode) (gen cycle : Nat) (s : State) :
    Moves s (tableCommit held mode gen cycle s) :=
  have superseded : Moves s (supersede s) := .of_touches (touches_supersede s) (by decide)
  .ite (fun _ => .ite (fun _ => .of_touches (touches_reportIfPosition s _ _) (by decide)) fun _ =>
    .ite (fun _ => superseded.trans (moves_switchBank _ _ _)) fun _ =>
      superseded.trans (.of_touches (touches_setStore _ _) (by decide))) fun _ => .refl s

/-! ### Time marks (R93 to R98) -/

theorem moves_evaluateAll (s : State) : Moves s (evaluateAll s) :=
  .of_line (rests_evaluateAll s) (touches_evaluateAll s .line (by decide))

theorem moves_forwardStep (cls : StepClass) (day sec : Nat) (s : State) : Moves s (forwardStep cls day sec s) := by
  have turn (u : State) : Moves u (turnTable u) := .of_touches (touches_turnTable u) (by decide)
  have settle (oldSec newSec : Int) (crosses : Bool) (u : State) : Moves u (schedulerStep cls oldSec newSec crosses u) :=
    .of_line (rests_schedulerStep u cls _ _ _) (touches_schedulerStep u cls _ _ _ .line (by decide))
  have set (u : State) : Moves u (setClock day sec u) := .of_touches (touches_setClock u day sec) (by decide)
  have retire (u : State) : Moves u (retireRecords u) := .of_touches (touches_retireRecords u) (by decide)
  have told := moves_queueReport (.clockStep cls (markStep s.time day sec)) s
  exact ((((told.trans (.ite (fun _ => turn _) fun _ => .refl _)).trans (settle _ _ _ _)).trans (set _)).trans (retire _)).trans
    (moves_evaluateAll _)

theorem moves_takeMark (held : Option Nat) (day sec : Nat) (s : State) : Moves s (takeMark held day sec s) := by
  have set : Moves s (setClock day sec s) := .of_touches (touches_setClock s day sec) (by decide)
  unfold takeMark
  split_ifs
  · exact set.trans (.of_touches (touches_completeJoining _ _) (by decide))
  · split
    next => exact .refl s
    next => exact (set.trans (moves_queueReport _ _)).trans (moves_flushNode _)
    next =>
      exact ((set.trans (moves_queueReport _ _)).trans (.of_line (rests_clearHolds _) rfl)).trans (moves_evaluateAll _)
    next => exact moves_forwardStep _ day sec s
    next => exact moves_forwardStep _ day sec s
  · exact .refl s

/-! ### Every operation -/

theorem op_moves (o : Op) (s : State) : Moves s (o.run s) := by
  have elsewhere {o : Op} (h : o.blocks.contains .cues = false ∧ o.blocks.contains .line = false) : Moves s (o.run s) :=
    .of_touches (o.touches s) h
  have cues {o : Op} (h : o.blocks.contains .line = false) (hr : Rests s (o.run s)) : Moves s (o.run s) :=
    .of_line hr (o.touches s .line (by simpa using h))
  cases o
  case powerOn => exact moves_powerOn s
  case second => exact cues (o := .second) rfl (rests_advanceSecond s)
  case mark held day sec => exact moves_takeMark held day sec s
  case rules => exact moves_evaluateAll s
  case post mode b => exact cues (o := .post mode b) rfl (rests_servicePost s mode b)
  case amend mode b => exact cues (o := .amend mode b) rfl (rests_serviceAmend s mode b)
  case withdraw mode key => exact cues (o := .withdraw mode key) rfl (rests_serviceWithdraw s mode key)
  case scheduler => exact cues (o := .scheduler) rfl (rests_schedulerTests s)
  case cueRelease i => exact cues (o := .cueRelease i) rfl (rests_releaseCue s i)
  case cueExpiry i => exact cues (o := .cueExpiry i) rfl (rests_expireCue s i)
  case cuePost mode b => exact cues (o := .cuePost mode b) rfl (rests_cuePost s mode b)
  case arbitrate => exact moves_arbitrate s
  case startSent => exact moves_startSent s
  case cancelSent => exact moves_cancelSent s
  case reply k chars => exact moves_onReply k chars s
  case closeWindow => exact moves_closeWindow s
  case breakEnd => exact moves_lineBreakEnd s
  case quietEnd => exact moves_lineQuietEnd s
  case pollDue n => exact moves_pollFallsDue n s
  case playLimit i => exact moves_reachPlayLimit i s
  case lineCycle => exact moves_lineCycle s
  case lineTick => exact moves_lineTick s
  case hold => exact moves_holdTick s
  case holdLimit => exact moves_reachHoldoverLimit s
  case commandReset => exact .ite (fun _ => moves_resetNode _ s) fun _ => .refl s
  case breakReset => exact moves_breakReset s
  case breakTick =>
    exact .ite (fun _ => .ite (fun _ => moves_breakReset s) fun _ => .of_touches (touches_setChain s _) (by decide))
      fun _ => .refl s
  case overrideSet mode b => exact moves_overrideSet mode b s
  case bankSwitch => exact moves_bankSwitch s
  case tableCommit held mode gen cycle => exact moves_tableCommit held mode gen cycle s
  case position hop => exact moves_takePosition hop s
  all_goals exact elsewhere ⟨rfl, rfl⟩

/-- Settles O8: every operation keeps the line sound, and with unique cue ids its accord with the cues on the line. -/
theorem stepKeepsZonesAndLine : Obligations.StepKeepsZonesAndLine := by
  intro s t hline hstep
  have moved : Moves (s.setPending s.pending.tail) t :=
    (step_runs hstep).keeps (P := Moves (s.setPending s.pending.tail)) (fun o u _ _ h => h.trans (op_moves o u)) (.refl _)
  have ht : t.line.ok := moved.ok hline
  refine ⟨ht, fun _ _ hcues haccord => (accordOk_iff ht).mpr ?_⟩
  have hids : CueIds (s.setPending s.pending.tail) := cueIds_of_cues (s := s) rfl (cueIds_of_cuesOk hcues)
  exact (moved.accord hline hids ((accordOk_iff hline).mp haccord)).2

end Sys2Proof.Laws
end
